-- ==== Sys2Proof/Word.lean ====
section
/-! DEFINITION. The plainest data of the model: octets, 32-bit counts, the bounded numbers that name rooms, slots, loop
addresses and pool records, and a table of fixed size with its reads and writes. -/

namespace Sys2Proof

/-- An octet as the links carry it (00_scope, Conventions: "Octet means eight bits"). -/
abbrev Byte := BitVec 8

/-- A 32-bit count that wraps: journal sequence numbers (R162) and counter values (R166). -/
abbrev Word32 := BitVec 32

/-- A room number, 0 to 63 (R16). -/
abbrev RoomNo := Fin 64

/-- A slot of the permit table, 0 to 255 (R32). -/
abbrev SlotNo := Fin 256

/-- A loop address, 0 to 127 (R117). -/
abbrev LoopAddr := Fin 128

/-- A record number of the presence pool, 0 to 127 (R99). -/
abbrev PoolIx := Fin 128

/-- A counter number, 0 to 7 (R166). -/
abbrev CounterNo := Fin 8

/-- A table of exactly `n` records, numbered from 0. -/
abbrev Table (n : Nat) (α : Type) := Vector α n

variable {n : Nat} {α β : Type}

/-- Record `i` of a table. -/
def look (t : Table n α) (i : Fin n) : α := t[i]

/-- The table with record `i` replaced. -/
def put (t : Table n α) (i : Fin n) (x : α) : Table n α := t.set i.val x i.isLt

/-- The table with record `i` passed through `f`. -/
def adjust (t : Table n α) (i : Fin n) (f : α → α) : Table n α := put t i (f (look t i))

/-- The table with every record passed through `f`. -/
def mapAll (f : α → β) (t : Table n α) : Table n β := ⟨⟨t.toList.map f⟩, by simp⟩

/-- A table all of whose records are `x`. -/
def fill (x : α) : Table n α := Vector.replicate n x

/-- A pair of like things, one for each link. -/
structure Both (α : Type) where
  works : α
  security : α
deriving DecidableEq, Repr

end Sys2Proof
end

