-- ==== Sys2Proof/Syntax.lean ====
section
/-! DEFINITION. The commands of the part: one constructor of `Instr` for each row of spec/opcode_table.json, and `Request`, the
39 requests of R177 as a link port holds one in flight. Fields carry the numbers of the link (codes, octets), so that a body that
an owner's form check refuses can be written too. -/

namespace Sys2Proof

/-- The two management links (R177). -/
inductive Link where
  | works
  | security
deriving DecidableEq, Repr

/-- A time without seconds as a request carries it (R175); `year` is the full year. -/
structure CivilMinute where
  year : Nat
  month : Nat
  day : Nat
  hour : Nat
  minute : Nat
deriving DecidableEq, Repr

/-- A civil time to the second (R1). -/
structure CivilTime where
  year : Nat
  month : Nat
  day : Nat
  hour : Nat
  minute : Nat
  second : Nat
deriving DecidableEq, Repr

/-- The four fields of the housekeeping mark (R10); `none` is ANY. -/
structure Mark where
  minute : Option Nat
  hour : Option Nat
  weekday : Option Nat
  day : Option Nat
deriving DecidableEq, Repr

/-- WRITE ROOM's fields (R17): `configured` and `roomClass` as their codes (section 11.3). -/
structure RoomBody where
  room : Nat
  configured : Nat
  roomClass : Nat
  maximum : Nat
deriving DecidableEq, Repr

/-- WRITE MAP's fields (R22); all three of `first`, `size` and `room` 0 is "empty" (section 11.3). -/
structure MapBody where
  number : Nat
  first : Nat
  size : Nat
  room : Nat
deriving DecidableEq, Repr

/-- SET FREEZE's fields (R25); `classes` is the class set's octet. -/
structure FreezeBody where
  entry : Nat
  start : CivilMinute
  stop : CivilMinute
  classes : Byte
deriving DecidableEq, Repr

/-- The five timings (R26): seconds, seconds, seconds, minutes, minutes. -/
structure Timings where
  release : Nat
  heldOpen : Nat
  pairing : Nat
  lone : Nat
  grace : Nat
deriving DecidableEq, Repr

/-- A slot pattern as carried (section 11.3): a weekday set's octet and two minutes of the day. -/
structure PatternBody where
  weekdays : Byte
  starts : Nat
  ends : Nat
deriving DecidableEq, Repr

/-- DRAFT PERMIT's body (R39, section 11.3). `count` is the room count carried. -/
structure DraftBody where
  permit : Nat
  firm : Nat
  badge : Nat
  flags : Byte
  slot : SlotNo
  start : CivilMinute
  stop : CivilMinute
  pattern : Option PatternBody
  count : Nat
  rooms : List Nat
deriving DecidableEq, Repr

/-- AMEND PERMIT's body (R42, section 11.3). -/
structure AmendBody where
  permit : Nat
  flags : Byte
  start : CivilMinute
  stop : CivilMinute
  pattern : Option PatternBody
  count : Nat
  rooms : List Nat
deriving DecidableEq, Repr

/-- READ PERMIT names a slot or a permit number (R50). -/
inductive PermitRef where
  | slot (i : SlotNo)
  | number (p : Nat)
deriving DecidableEq, Repr

/-- LIST PERMITS's filter (R51); `undefined` is a kind octet that is not defined, or one whose argument does not fit it. -/
inductive ListFilter where
  | all
  | badge (b : Nat)
  | firm (f : Nat)
  | state (code : Nat)
  | undefined
deriving DecidableEq, Repr

/-- READ OCCUPANCY names a room or a badge (R112). -/
inductive OccupancyRef where
  | room (r : Nat)
  | badge (b : Nat)
deriving DecidableEq, Repr

/-- SET COUNTER's fields as their codes (R170, section 11.3). -/
structure CounterBody where
  number : Nat
  select : Nat
  reason : Nat
  filter : Nat
  notify : Nat
  value : Word32
deriving DecidableEq, Repr

/-- The content of a STATUS reply (R119). `door` is the contact (true: open) from an entry station, and the push-bar (true:
operated since the last reply) from an exit station. A `read` of 0 is no read. -/
structure StatusReport where
  address : LoopAddr
  read : Nat
  door : Bool
  tamper : Bool
deriving DecidableEq, Repr

/-- The 39 requests of the catalogue (R177), in its order. -/
inductive Request where
  | setClock (t : CivilTime)
  | alignClock
  | readClock
  | setMark (m : Mark)
  | writeRoom (b : RoomBody)
  | writeMap (b : MapBody)
  | setFreeze (b : FreezeBody)
  | clearFreeze (entry : Nat)
  | writeTimings (t : Timings)
  | lockConfiguration
  | readRoom (room : Nat)
  | readMap
  | readFreeze
  | readTimings
  | draftPermit (b : DraftBody)
  | amendPermit (b : AmendBody)
  | countersign (permit revision : Nat)
  | suspendPermit (permit reason : Nat)
  | resumePermit (permit : Nat)
  | revokePermit (permit : Nat)
  | closePermit (permit : Nat)
  | purgePermit (permit : Nat)
  | readPermit (p : PermitRef)
  | listPermits (start : SlotNo) (filter : ListFilter) (count : Nat)
  | readOccupancy (o : OccupancyRef)
  | reconcileRoom (room : Nat) (badge : Option Nat)
  | readStation (address : Nat)
  | readDoor (room : Nat)
  | allClear
  | readSweep
  | suspendFirm (firm reason : Nat)
  | resumeFirm (firm : Nat)
  | takeNotice
  | setNoticeMask (level : Nat)
  | setAttentionMode (mode : Nat)
  | readJournal (fromSequence : Word32) (count : Nat)
  | setCounter (b : CounterBody)
  | readCounter (number : Nat)
  | restart
deriving DecidableEq, Repr

/-- The commands: one constructor for each row of spec/opcode_table.json, in the table's order. A request row carries the link
it is on and its fields; log entry 5 says how it relates to FRAME_RECEIVED. -/
inductive Instr where
  | powerUp (supplyHigh evacuateHigh : Bool)
  | tick
  | setClock (l : Link) (t : CivilTime)
  | alignClock (l : Link)
  | readClock (l : Link)
  | setMark (l : Link) (m : Mark)
  | writeRoom (l : Link) (b : RoomBody)
  | writeMap (l : Link) (b : MapBody)
  | setFreeze (l : Link) (b : FreezeBody)
  | clearFreeze (l : Link) (entry : Nat)
  | writeTimings (l : Link) (t : Timings)
  | lockConfiguration (l : Link)
  | readRoom (l : Link) (room : Nat)
  | readMap (l : Link)
  | readFreeze (l : Link)
  | readTimings (l : Link)
  | draftPermit (l : Link) (b : DraftBody)
  | amendPermit (l : Link) (b : AmendBody)
  | countersign (l : Link) (permit revision : Nat)
  | suspendPermit (l : Link) (permit reason : Nat)
  | resumePermit (l : Link) (permit : Nat)
  | revokePermit (l : Link) (permit : Nat)
  | closePermit (l : Link) (permit : Nat)
  | purgePermit (l : Link) (permit : Nat)
  | readPermit (l : Link) (p : PermitRef)
  | listPermits (l : Link) (start : SlotNo) (filter : ListFilter) (count : Nat)
  | readOccupancy (l : Link) (o : OccupancyRef)
  | reconcileRoom (l : Link) (room : Nat) (badge : Option Nat)
  | readStation (l : Link) (address : Nat)
  | readDoor (l : Link) (room : Nat)
  | allClear (l : Link)
  | readSweep (l : Link)
  | suspendFirm (l : Link) (firm reason : Nat)
  | resumeFirm (l : Link) (firm : Nat)
  | suspendFirmStep
  | resumeFirmStep
  | takeNotice (l : Link)
  | setNoticeMask (l : Link) (level : Nat)
  | setAttentionMode (l : Link) (mode : Nat)
  | readJournal (l : Link) (fromSequence : Word32) (count : Nat)
  | setCounter (l : Link) (b : CounterBody)
  | readCounter (l : Link) (number : Nat)
  | restart (l : Link)
  | frameReceived (l : Link)
  | interOctetTimeout (l : Link)
  | replySent (l : Link)
  | poll
  | statusReply (r : StatusReport)
  | stationMiss
  | entryDecision
  | exitDecision
  | holdDeadline (r : RoomNo)
  | releaseEnd (r : RoomNo)
  | heldOpenLimit (r : RoomNo)
  | heldResolution
  | sweepPermitStep
  | sweepPresenceStep
  | pulseEnd (l : Link)
  | supplyFall
  | warmReturn
  | evacuateRise
  | evacuateFall
  | resetLine
  | octetReceived (l : Link) (octet : Byte)
deriving DecidableEq, Repr

end Sys2Proof
end

