-- ==== Sys2Proof/WellFormed.lean ====
section
/-! DEFINITION. Which commands the links and the loop can carry: every field fits the octets that R175 and section 11.3 give it.
The meanings are total and do not ask this; decoding and encoding are stated on well-formed requests. -/

namespace Sys2Proof

/-- A number carried in `k` octets (R175). -/
def fits (k v : Nat) : Bool := decide (v < 256 ^ k)

/-- A time without seconds in five octets, the first being year − 2000 (section 11.3). -/
def CivilMinute.wellFormed (t : CivilMinute) : Bool :=
  decide (2000 ≤ t.year) && fits 1 (t.year - 2000) && fits 1 t.month && fits 1 t.day && fits 1 t.hour && fits 1 t.minute

/-- A time with seconds in six octets. -/
def CivilTime.wellFormed (t : CivilTime) : Bool :=
  decide (2000 ≤ t.year) && fits 1 (t.year - 2000) && fits 1 t.month && fits 1 t.day && fits 1 t.hour && fits 1 t.minute
    && fits 1 t.second

/-- A field of the mark: ANY (FFh), or a value below FFh (section 11.3). -/
def markFieldWellFormed (f : Option Nat) : Bool := f.all fun v => decide (v < 255)

/-- The mark in four octets. -/
def Mark.wellFormed (m : Mark) : Bool :=
  markFieldWellFormed m.minute && markFieldWellFormed m.hour && markFieldWellFormed m.weekday && markFieldWellFormed m.day

/-- A slot pattern in five octets. -/
def PatternBody.wellFormed (p : PatternBody) : Bool := fits 2 p.starts && fits 2 p.ends

/-- The tail of a draft or an amend: pattern, room count and rooms, as a body of an allowed length carries them. A pattern is
read where flag bit 4 is set and the tail holds at least six octets. -/
def permitTailWellFormed (flags : Byte) (pattern : Option PatternBody) (count : Nat) (rooms : List Nat) : Bool :=
  fits 1 count && rooms.all (fits 1) &&
    match pattern with
    | some p => flags.getLsbD 4 && p.wellFormed && decide (rooms.length ≤ 8)
    | none => decide (1 ≤ rooms.length) && decide (rooms.length ≤ 13) && (!flags.getLsbD 4 || decide (rooms.length < 5))

/-- Every field of a request fits its octets. -/
def Request.wellFormed : Request → Bool
  | .setClock t => t.wellFormed
  | .setMark m => m.wellFormed
  | .writeRoom b => fits 1 b.room && fits 1 b.configured && fits 1 b.roomClass && fits 1 b.maximum
  | .writeMap b => fits 1 b.number && fits 1 b.first && fits 1 b.size && fits 1 b.room
  | .setFreeze b => fits 1 b.entry && b.start.wellFormed && b.stop.wellFormed
  | .clearFreeze e => fits 1 e
  | .writeTimings t => fits 1 t.release && fits 2 t.heldOpen && fits 1 t.pairing && fits 1 t.lone && fits 1 t.grace
  | .readRoom r => fits 1 r
  | .draftPermit b => fits 2 b.permit && fits 2 b.firm && fits 3 b.badge && b.start.wellFormed && b.stop.wellFormed &&
      permitTailWellFormed b.flags b.pattern b.count b.rooms
  | .amendPermit b => fits 2 b.permit && b.start.wellFormed && b.stop.wellFormed &&
      permitTailWellFormed b.flags b.pattern b.count b.rooms
  | .countersign p r => fits 2 p && fits 1 r
  | .suspendPermit p r => fits 2 p && fits 1 r
  | .resumePermit p => fits 2 p
  | .revokePermit p => fits 2 p
  | .closePermit p => fits 2 p
  | .purgePermit p => fits 2 p
  | .readPermit (.slot _) => true
  | .readPermit (.number p) => fits 2 p
  | .listPermits _ f c => fits 1 c &&
      match f with
      | .all => true
      | .badge b => fits 3 b
      | .firm x => fits 2 x
      | .state x => fits 1 x
      | .undefined => true
  | .readOccupancy (.room r) => fits 1 r
  | .readOccupancy (.badge b) => fits 3 b
  | .reconcileRoom r b => fits 1 r && b.all (fits 3)
  | .readStation a => fits 1 a
  | .readDoor r => fits 1 r
  | .suspendFirm f r => fits 2 f && fits 1 r
  | .resumeFirm f => fits 2 f
  | .setNoticeMask l => fits 1 l
  | .setAttentionMode m => fits 1 m
  | .readJournal _ c => fits 1 c
  | .setCounter b => fits 1 b.number && fits 1 b.select && fits 1 b.reason && fits 1 b.filter && fits 1 b.notify
  | .readCounter c => fits 1 c
  | .alignClock | .readClock | .lockConfiguration | .readMap | .readFreeze | .readTimings | .allClear | .readSweep
  | .takeNotice | .restart => true

/-- The request a request row stands for, with its link; `none` for the part's own events. -/
def Instr.request : Instr → Option (Link × Request)
  | .setClock l t => some (l, .setClock t)
  | .alignClock l => some (l, .alignClock)
  | .readClock l => some (l, .readClock)
  | .setMark l m => some (l, .setMark m)
  | .writeRoom l b => some (l, .writeRoom b)
  | .writeMap l b => some (l, .writeMap b)
  | .setFreeze l b => some (l, .setFreeze b)
  | .clearFreeze l e => some (l, .clearFreeze e)
  | .writeTimings l t => some (l, .writeTimings t)
  | .lockConfiguration l => some (l, .lockConfiguration)
  | .readRoom l r => some (l, .readRoom r)
  | .readMap l => some (l, .readMap)
  | .readFreeze l => some (l, .readFreeze)
  | .readTimings l => some (l, .readTimings)
  | .draftPermit l b => some (l, .draftPermit b)
  | .amendPermit l b => some (l, .amendPermit b)
  | .countersign l p r => some (l, .countersign p r)
  | .suspendPermit l p r => some (l, .suspendPermit p r)
  | .resumePermit l p => some (l, .resumePermit p)
  | .revokePermit l p => some (l, .revokePermit p)
  | .closePermit l p => some (l, .closePermit p)
  | .purgePermit l p => some (l, .purgePermit p)
  | .readPermit l p => some (l, .readPermit p)
  | .listPermits l a f c => some (l, .listPermits a f c)
  | .readOccupancy l o => some (l, .readOccupancy o)
  | .reconcileRoom l r b => some (l, .reconcileRoom r b)
  | .readStation l a => some (l, .readStation a)
  | .readDoor l r => some (l, .readDoor r)
  | .allClear l => some (l, .allClear)
  | .readSweep l => some (l, .readSweep)
  | .suspendFirm l f r => some (l, .suspendFirm f r)
  | .resumeFirm l f => some (l, .resumeFirm f)
  | .takeNotice l => some (l, .takeNotice)
  | .setNoticeMask l m => some (l, .setNoticeMask m)
  | .setAttentionMode l m => some (l, .setAttentionMode m)
  | .readJournal l q c => some (l, .readJournal q c)
  | .setCounter l b => some (l, .setCounter b)
  | .readCounter l c => some (l, .readCounter c)
  | .restart l => some (l, .restart)
  | .powerUp _ _ | .tick | .suspendFirmStep | .resumeFirmStep | .frameReceived _ | .interOctetTimeout _ | .replySent _
  | .poll | .statusReply _ | .stationMiss | .entryDecision | .exitDecision | .holdDeadline _ | .releaseEnd _
  | .heldOpenLimit _ | .heldResolution | .sweepPermitStep | .sweepPresenceStep | .pulseEnd _ | .supplyFall | .warmReturn
  | .evacuateRise | .evacuateFall | .resetLine | .octetReceived _ _ => none

/-- A command that the links and the loop can carry: its request fits its octets, and a badge read fits three (R74, R175). -/
def Instr.wellFormed (i : Instr) : Bool :=
  match i with
  | .statusReply r => fits 3 r.read
  | i => match i.request with
    | some (_, r) => r.wellFormed
    | none => true

end Sys2Proof
end

