-- ==== Sys2Proof/Decode.lean ====
section
/-! DEFINITION. The link's encodings of the requests (R174, R175, R177, section 11.3): the check, the codes, the links they belong
to, the bodies read and written. The opcode table gives no row bits, so `decodeTableWord` reads no word. -/

namespace Sys2Proof

/-- No row of spec/opcode_table.json has bits ("fields": [] throughout), so no word spells a command. -/
def decodeTableWord (_nbits _w : Nat) : Option Instr := none

/-- R174: one bit entering the CRC register, whose polynomial is x^16 + x^12 + x^5 + 1. -/
def crcBit (r : BitVec 16) (b : Bool) : BitVec 16 := if r.msb != b then (r <<< 1) ^^^ 0x1021 else r <<< 1

/-- R174: one octet entering the CRC register, most significant bit first. -/
def crcOctet (r : BitVec 16) (o : Byte) : BitVec 16 :=
  [7, 6, 5, 4, 3, 2, 1, 0].foldl (fun r i => crcBit r (o.getLsbD i)) r

/-- R174: CRC-16 from FFFFh, without final inversion. -/
def crc16 (os : List Byte) : BitVec 16 := os.foldl crcOctet 0xFFFF

/-- Section 11.3: a number in `k` octets, high octet first. -/
def octets : Nat → Nat → List Byte
  | 0, _ => []
  | k + 1, v => BitVec.ofNat 8 (v / 256 ^ k) :: octets k v

/-- Section 11.3: the number that octets spell, high octet first. -/
def number (os : List Byte) : Nat := os.foldl (fun a o => a * 256 + o.toNat) 0

/-- R173, R174: whether the octets of a frame from its length octet on are all there. -/
def frameComplete (os : List Byte) : Bool :=
  match os with
  | [] => false
  | len :: rest => decide (len.toNat + 2 ≤ rest.length)

/-- R174: a complete frame is good when the CRC of its length octet, code and body equals its two check octets. -/
def frameGood (os : List Byte) : Bool :=
  match os with
  | [] => false
  | len :: rest => decide (number (rest.drop len.toNat) = (crc16 (len :: rest.take len.toNat)).toNat)

/-- A frame from its length octet on, with its check (section 11.1), around a code and a body. -/
def frameOf (code : Nat) (body : List Byte) : List Byte :=
  let os := BitVec.ofNat 8 (body.length + 1) :: BitVec.ofNat 8 code :: body
  os ++ octets 2 (crc16 os).toNat

/-- Which links a request belongs to (R177). -/
inductive Owner where
  | works
  | security
  | either
deriving DecidableEq, Repr

/-- R177: whether a request of this owner may be taken on link `l`. -/
def Owner.allows : Owner → Link → Bool
  | .works, l => l == .works
  | .security, l => l == .security
  | .either, _ => true

/-- R177: the catalogue's codes and their links; `none` is an unknown code. -/
def codeOwner (code : Nat) : Option Owner :=
  if code = 0 ∨ 39 < code then none
  else if code ∈ [4, 15, 16, 21, 22] then some .works
  else if code ∈ [3, 11, 12, 13, 14, 23, 24, 25, 27, 28, 30, 33, 34, 35, 36, 37, 38] then some .either
  else some .security

/-- R177: a request's code. -/
def Request.code : Request → Nat
  | .setClock _ => 1
  | .alignClock => 2
  | .readClock => 3
  | .setMark _ => 4
  | .writeRoom _ => 5
  | .writeMap _ => 6
  | .setFreeze _ => 7
  | .clearFreeze _ => 8
  | .writeTimings _ => 9
  | .lockConfiguration => 10
  | .readRoom _ => 11
  | .readMap => 12
  | .readFreeze => 13
  | .readTimings => 14
  | .draftPermit _ => 15
  | .amendPermit _ => 16
  | .countersign _ _ => 17
  | .suspendPermit _ _ => 18
  | .resumePermit _ => 19
  | .revokePermit _ => 20
  | .closePermit _ => 21
  | .purgePermit _ => 22
  | .readPermit _ => 23
  | .listPermits _ _ _ => 24
  | .readOccupancy _ => 25
  | .reconcileRoom _ _ => 26
  | .readStation _ => 27
  | .readDoor _ => 28
  | .allClear => 29
  | .readSweep => 30
  | .suspendFirm _ _ => 31
  | .resumeFirm _ => 32
  | .takeNotice => 33
  | .setNoticeMask _ => 34
  | .setAttentionMode _ => 35
  | .readJournal _ _ => 36
  | .setCounter _ => 37
  | .readCounter _ => 38
  | .restart => 39

/-- R177: whether a request may be taken on link `l`. -/
def Request.allowedOn (r : Request) (l : Link) : Bool := (codeOwner r.code).any (·.allows l)

/-- A time of five octets (section 11.3). -/
def readMinute (y mo d h mi : Byte) : CivilMinute := ⟨2000 + y.toNat, mo.toNat, d.toNat, h.toNat, mi.toNat⟩

/-- A slot octet. -/
def readSlot (o : Byte) : SlotNo := ⟨o.toNat, o.isLt⟩

/-- A field of the mark: FFh is ANY (section 11.3). -/
def readMarkField (o : Byte) : Option Nat := if o = 0xFF then none else some o.toNat

/-- The tail of a draft or an amend (section 11.3): the pattern where flag bit 4 is set and six octets or more are left, the room
count, and every octet after it as a room. R175 allows the lengths that one to eight rooms give, with or without a pattern. -/
def readPermitTail (flags : Byte) (tail : List Byte) : Option (Option PatternBody × Nat × List Nat) :=
  if tail.length < 2 ∨ 14 < tail.length then none
  else
    match flags.getLsbD 4, tail with
    | true, w :: a :: b :: c :: d :: n :: rooms =>
      some (some ⟨w, number [a, b], number [c, d]⟩, n.toNat, rooms.map (·.toNat))
    | _, n :: rooms => some (none, n.toNat, rooms.map (·.toNat))
    | _, [] => none

/-- LIST PERMITS's filter (section 11.3): a kind octet and its argument. A kind whose argument has another width is taken as no kind of the
table, and its owner refuses it (DESIGN CHOICE, log entry 53). -/
def readListFilter (kind : Byte) (arg : List Byte) : ListFilter :=
  match kind.toNat, arg with
  | 0, [] => .all
  | 1, [a, b, c] => .badge (number [a, b, c])
  | 2, [a, b] => .firm (number [a, b])
  | 3, [a] => .state a.toNat
  | _, _ => .undefined

/-- R175, section 11.3: the request that a code and a body spell; `none` where the body's length is not one the request allows,
or the code is unknown. The counts of LIST PERMITS and READ JOURNAL are one octet each (DEDUCED, log entry 43). -/
def decodeRequest (code : Nat) (body : List Byte) : Option Request :=
  match code with
  | 1 => match body with
    | [y, mo, d, h, mi, s] => some (.setClock ⟨2000 + y.toNat, mo.toNat, d.toNat, h.toNat, mi.toNat, s.toNat⟩)
    | _ => none
  | 2 => if body = [] then some .alignClock else none
  | 3 => if body = [] then some .readClock else none
  | 4 => match body with
    | [a, b, c, d] => some (.setMark ⟨readMarkField a, readMarkField b, readMarkField c, readMarkField d⟩)
    | _ => none
  | 5 => match body with
    | [a, b, c, d] => some (.writeRoom ⟨a.toNat, b.toNat, c.toNat, d.toNat⟩)
    | _ => none
  | 6 => match body with
    | [a, b, c, d] => some (.writeMap ⟨a.toNat, b.toNat, c.toNat, d.toNat⟩)
    | _ => none
  | 7 => match body with
    | [n, a, b, c, d, e, a', b', c', d', e', k] =>
      some (.setFreeze ⟨n.toNat, readMinute a b c d e, readMinute a' b' c' d' e', k⟩)
    | _ => none
  | 8 => match body with
    | [n] => some (.clearFreeze n.toNat)
    | _ => none
  | 9 => match body with
    | [a, b, c, d, e, f] => some (.writeTimings ⟨a.toNat, number [b, c], d.toNat, e.toNat, f.toNat⟩)
    | _ => none
  | 10 => if body = [] then some .lockConfiguration else none
  | 11 => match body with
    | [r] => some (.readRoom r.toNat)
    | _ => none
  | 12 => if body = [] then some .readMap else none
  | 13 => if body = [] then some .readFreeze else none
  | 14 => if body = [] then some .readTimings else none
  | 15 => match body with
    | p :: p' :: f :: f' :: b :: b' :: b'' :: fl :: sl :: a :: c :: d :: e :: g :: a' :: c' :: d' :: e' :: g' :: tail =>
      (readPermitTail fl tail).map fun (pat, n, rooms) =>
        .draftPermit ⟨number [p, p'], number [f, f'], number [b, b', b''], fl, readSlot sl, readMinute a c d e g,
          readMinute a' c' d' e' g', pat, n, rooms⟩
    | _ => none
  | 16 => match body with
    | p :: p' :: fl :: a :: c :: d :: e :: g :: a' :: c' :: d' :: e' :: g' :: tail =>
      (readPermitTail fl tail).map fun (pat, n, rooms) =>
        .amendPermit ⟨number [p, p'], fl, readMinute a c d e g, readMinute a' c' d' e' g', pat, n, rooms⟩
    | _ => none
  | 17 => match body with
    | [a, b, r] => some (.countersign (number [a, b]) r.toNat)
    | _ => none
  | 18 => match body with
    | [a, b, r] => some (.suspendPermit (number [a, b]) r.toNat)
    | _ => none
  | 19 => match body with
    | [a, b] => some (.resumePermit (number [a, b]))
    | _ => none
  | 20 => match body with
    | [a, b] => some (.revokePermit (number [a, b]))
    | _ => none
  | 21 => match body with
    | [a, b] => some (.closePermit (number [a, b]))
    | _ => none
  | 22 => match body with
    | [a, b] => some (.purgePermit (number [a, b]))
    | _ => none
  | 23 => match body with
    | [a] => some (.readPermit (.slot (readSlot a)))
    | [a, b] => some (.readPermit (.number (number [a, b])))
    | _ => none
  | 24 => match body with
    | [s, k, c] => some (.listPermits (readSlot s) (readListFilter k []) c.toNat)
    | [s, k, a, c] => some (.listPermits (readSlot s) (readListFilter k [a]) c.toNat)
    | [s, k, a, b, c] => some (.listPermits (readSlot s) (readListFilter k [a, b]) c.toNat)
    | [s, k, a, b, d, c] => some (.listPermits (readSlot s) (readListFilter k [a, b, d]) c.toNat)
    | _ => none
  | 25 => match body with
    | [r] => some (.readOccupancy (.room r.toNat))
    | [a, b, c] => some (.readOccupancy (.badge (number [a, b, c])))
    | _ => none
  | 26 => match body with
    | [r] => some (.reconcileRoom r.toNat none)
    | [r, a, b, c] => some (.reconcileRoom r.toNat (some (number [a, b, c])))
    | _ => none
  | 27 => match body with
    | [a] => some (.readStation a.toNat)
    | _ => none
  | 28 => match body with
    | [r] => some (.readDoor r.toNat)
    | _ => none
  | 29 => if body = [] then some .allClear else none
  | 30 => if body = [] then some .readSweep else none
  | 31 => match body with
    | [a, b, r] => some (.suspendFirm (number [a, b]) r.toNat)
    | _ => none
  | 32 => match body with
    | [a, b] => some (.resumeFirm (number [a, b]))
    | _ => none
  | 33 => if body = [] then some .takeNotice else none
  | 34 => match body with
    | [m] => some (.setNoticeMask m.toNat)
    | _ => none
  | 35 => match body with
    | [m] => some (.setAttentionMode m.toNat)
    | _ => none
  | 36 => match body with
    | [a, b, c, d, n] => some (.readJournal (BitVec.ofNat 32 (number [a, b, c, d])) n.toNat)
    | _ => none
  | 37 => match body with
    | [n, s, r, f, k, a, b, c, d] =>
      some (.setCounter ⟨n.toNat, s.toNat, r.toNat, f.toNat, k.toNat, BitVec.ofNat 32 (number [a, b, c, d])⟩)
    | _ => none
  | 38 => match body with
    | [n] => some (.readCounter n.toNat)
    | _ => none
  | 39 => if body = [] then some .restart else none
  | _ => none

/-- A time in five octets (section 11.3). -/
def minuteOctets (t : CivilMinute) : List Byte :=
  octets 1 (t.year - 2000) ++ octets 1 t.month ++ octets 1 t.day ++ octets 1 t.hour ++ octets 1 t.minute

/-- A time in six octets (section 11.3). -/
def timeOctets (t : CivilTime) : List Byte :=
  octets 1 (t.year - 2000) ++ octets 1 t.month ++ octets 1 t.day ++ octets 1 t.hour ++ octets 1 t.minute ++ octets 1 t.second

/-- A field of the mark in its octet; ANY is FFh (section 11.3). -/
def markFieldOctets (f : Option Nat) : List Byte := octets 1 (f.getD 255)

/-- The mark in four octets. -/
def markOctets (m : Mark) : List Byte :=
  markFieldOctets m.minute ++ markFieldOctets m.hour ++ markFieldOctets m.weekday ++ markFieldOctets m.day

/-- The tail of a draft or an amend (section 11.3). -/
def permitTailOctets (pattern : Option PatternBody) (count : Nat) (rooms : List Nat) : List Byte :=
  (match pattern with
    | some p => p.weekdays :: (octets 2 p.starts ++ octets 2 p.ends)
    | none => []) ++ octets 1 count ++ rooms.map (BitVec.ofNat 8)

/-- The body of a request (R175, section 11.3). A `ListFilter.undefined` is written with a kind octet of FFh. Counts are one
octet each (DEDUCED, log entry 43). -/
def Request.body : Request → List Byte
  | .setClock t => timeOctets t
  | .setMark m => markOctets m
  | .writeRoom b => octets 1 b.room ++ octets 1 b.configured ++ octets 1 b.roomClass ++ octets 1 b.maximum
  | .writeMap b => octets 1 b.number ++ octets 1 b.first ++ octets 1 b.size ++ octets 1 b.room
  | .setFreeze b => octets 1 b.entry ++ minuteOctets b.start ++ minuteOctets b.stop ++ [b.classes]
  | .clearFreeze e => octets 1 e
  | .writeTimings t => octets 1 t.release ++ octets 2 t.heldOpen ++ octets 1 t.pairing ++ octets 1 t.lone ++ octets 1 t.grace
  | .readRoom r => octets 1 r
  | .draftPermit b => octets 2 b.permit ++ octets 2 b.firm ++ octets 3 b.badge ++ [b.flags] ++ octets 1 b.slot.val ++
      minuteOctets b.start ++ minuteOctets b.stop ++ permitTailOctets b.pattern b.count b.rooms
  | .amendPermit b => octets 2 b.permit ++ [b.flags] ++ minuteOctets b.start ++ minuteOctets b.stop ++
      permitTailOctets b.pattern b.count b.rooms
  | .countersign p r => octets 2 p ++ octets 1 r
  | .suspendPermit p r => octets 2 p ++ octets 1 r
  | .resumePermit p => octets 2 p
  | .revokePermit p => octets 2 p
  | .closePermit p => octets 2 p
  | .purgePermit p => octets 2 p
  | .readPermit (.slot i) => octets 1 i.val
  | .readPermit (.number p) => octets 2 p
  | .listPermits s f c => octets 1 s.val ++
      (match f with
        | .all => octets 1 0
        | .badge b => octets 1 1 ++ octets 3 b
        | .firm x => octets 1 2 ++ octets 2 x
        | .state x => octets 1 3 ++ octets 1 x
        | .undefined => octets 1 255) ++ octets 1 c
  | .readOccupancy (.room r) => octets 1 r
  | .readOccupancy (.badge b) => octets 3 b
  | .reconcileRoom r none => octets 1 r
  | .reconcileRoom r (some b) => octets 1 r ++ octets 3 b
  | .readStation a => octets 1 a
  | .readDoor r => octets 1 r
  | .suspendFirm f r => octets 2 f ++ octets 1 r
  | .resumeFirm f => octets 2 f
  | .setNoticeMask l => octets 1 l
  | .setAttentionMode m => octets 1 m
  | .readJournal q c => octets 4 q.toNat ++ octets 1 c
  | .setCounter b => octets 1 b.number ++ octets 1 b.select ++ octets 1 b.reason ++ octets 1 b.filter ++ octets 1 b.notify ++
      octets 4 b.value.toNat
  | .readCounter c => octets 1 c
  | .alignClock | .readClock | .lockConfiguration | .readMap | .readFreeze | .readTimings | .allClear | .readSweep
  | .takeNotice | .restart => []

/-- A request's whole frame from its length octet on (section 11.1); the start octet 7Eh goes before it. -/
def Request.frame (r : Request) : List Byte := frameOf r.code r.body

end Sys2Proof
end

