-- ==== Sys2Proof/Machine/Calendar.lean ====
section
/-! DEFINITION. Civil time and absolute minutes (R1 to R3, R8, R10, R60 to R62): the arithmetic that every minute-based rule uses. -/

namespace Sys2Proof

/-- R1: February has 29 days in every year whose number is divisible by 4. -/
def leapYear (year : Nat) : Bool := year % 4 == 0

/-- R1: the month lengths. -/
def monthLength (year month : Nat) : Nat :=
  if month = 2 then (if leapYear year then 29 else 28)
  else if month = 4 ∨ month = 6 ∨ month = 9 ∨ month = 11 then 30
  else 31

/-- R1, R6: the fields of a time without seconds are in their ranges. -/
def CivilMinute.inRange (t : CivilMinute) : Bool :=
  decide (2000 ≤ t.year) && decide (t.year ≤ 2099) && decide (1 ≤ t.month) && decide (t.month ≤ 12) && decide (1 ≤ t.day)
    && decide (t.day ≤ monthLength t.year t.month) && decide (t.hour ≤ 23) && decide (t.minute ≤ 59)

/-- The time with its seconds dropped. -/
def CivilTime.minutePart (t : CivilTime) : CivilMinute := ⟨t.year, t.month, t.day, t.hour, t.minute⟩

/-- R1, R6: all six fields are in their ranges. -/
def CivilTime.inRange (t : CivilTime) : Bool := t.minutePart.inRange && decide (t.second ≤ 59)

/-- R60: the days before a year, with y = year − 2000. -/
def daysBeforeYear (y : Nat) : Nat := 365 * y + (y + 3) / 4

/-- R60: the table of days before a month in a non-leap year. -/
def daysBeforeMonthPlain : Nat → Nat
  | 1 => 0
  | 2 => 31
  | 3 => 59
  | 4 => 90
  | 5 => 120
  | 6 => 151
  | 7 => 181
  | 8 => 212
  | 9 => 243
  | 10 => 273
  | 11 => 304
  | 12 => 334
  | _ => 0

/-- R60: the days before a month, with 1 added for March and every later month when y mod 4 = 0. -/
def daysBeforeMonth (y month : Nat) : Nat := daysBeforeMonthPlain month + (if 3 ≤ month ∧ y % 4 = 0 then 1 else 0)

/-- R60: the day number of a date. -/
def dayNumber (year month day : Nat) : Nat :=
  daysBeforeYear (year - 2000) + daysBeforeMonth (year - 2000) month + (day - 1)

/-- R60: the weekday of a day number, 0 for Sunday. -/
def weekdayOf (d : Nat) : Nat := (d + 6) % 7

/-- R61: the absolute minute of a date and time. -/
def absMinute (t : CivilMinute) : Nat := dayNumber t.year t.month t.day * 1440 + t.hour * 60 + t.minute

/-- R61: the absolute minute of a civil time, its seconds dropped. -/
def CivilTime.abs (t : CivilTime) : Nat := absMinute t.minutePart

/-- R60: the weekday of a civil time's date. -/
def CivilTime.weekday (t : CivilTime) : Nat := weekdayOf (dayNumber t.year t.month t.day)

/-- R62: the largest y not above `k` for which the days before year y do not exceed `d`. -/
def yearFrom (d : Nat) : Nat → Nat
  | 0 => 0
  | k + 1 => if daysBeforeYear (k + 1) ≤ d then k + 1 else yearFrom d k

/-- R62: the latest month not above `k` whose days before, in year y, do not exceed `d`. -/
def monthFrom (y d : Nat) : Nat → Nat
  | 0 => 1
  | k + 1 => if daysBeforeMonth y (k + 1) ≤ d then k + 1 else monthFrom y d k

/-- R62: an absolute minute converted back to calendar fields. Year 2100 is within reach for a grace end (R62). -/
def civilOf (m : Nat) : CivilMinute :=
  let d := m / 1440
  let y := yearFrom d 100
  let inYear := d - daysBeforeYear y
  let mo := monthFrom y inYear 12
  ⟨2000 + y, mo, inYear - daysBeforeMonth y mo + 1, m % 1440 / 60, m % 1440 % 60⟩

/-- R2, R3, R8: the next minute's fields, carried through hour, day, month and year, 2099-12-31 23:59 wrapping to 2000. -/
def CivilMinute.next (t : CivilMinute) : CivilMinute :=
  if t.minute < 59 then { t with minute := t.minute + 1 }
  else if t.hour < 23 then { t with hour := t.hour + 1, minute := 0 }
  else if t.day < monthLength t.year t.month then { t with day := t.day + 1, hour := 0, minute := 0 }
  else if t.month < 12 then { t with month := t.month + 1, day := 1, hour := 0, minute := 0 }
  else if t.year < 2099 then ⟨t.year + 1, 1, 1, 0, 0⟩
  else ⟨2000, 1, 1, 0, 0⟩

/-- A civil time from a minute and a second. -/
def CivilMinute.withSecond (t : CivilMinute) (second : Nat) : CivilTime :=
  ⟨t.year, t.month, t.day, t.hour, t.minute, second⟩

/-- R2: the clock one second later. -/
def CivilTime.tick (t : CivilTime) : CivilTime :=
  if t.second < 59 then { t with second := t.second + 1 } else t.minutePart.next.withSecond 0

/-- R10: one field of the mark against its part of a minute. -/
def markFieldMatches (f : Option Nat) (v : Nat) : Bool := f.all (· == v)

/-- R10: the mark matches a minute when every field that is not ANY equals its part. -/
def Mark.matchesTime (k : Mark) (t : CivilTime) : Bool :=
  markFieldMatches k.minute t.minute && markFieldMatches k.hour t.hour && markFieldMatches k.weekday t.weekday
    && markFieldMatches k.day t.day

/-- R11: a field of the mark is ANY or in its range. -/
def markFieldInRange (f : Option Nat) (low high : Nat) : Bool := f.all fun v => decide (low ≤ v) && decide (v ≤ high)

/-- R10, R11: every field of the mark is in its range. -/
def Mark.inRange (k : Mark) : Bool :=
  markFieldInRange k.minute 0 59 && markFieldInRange k.hour 0 23 && markFieldInRange k.weekday 0 6
    && markFieldInRange k.day 1 31

end Sys2Proof
end

