-- ==== Sys2Proof/Config.lean ====
section
/-! DEFINITION. What the handbook fixes once and for all (capacities, fixed ages and limits), and the free values: what the
handbook leaves open although the part goes on. A free value is an opaque constant, so nothing can be proved of it. -/

namespace Sys2Proof.Config

/-- R151: each notice queue holds up to 32 notices. -/
def noticeCapacity : Nat := 32

/-- R162: the journal holds up to 512 records. -/
def journalCapacity : Nat := 512

/-- R122: the misses that make a station OFFLINE. -/
def missesToOffline : Nat := 3

/-- R173: a port's transmit queue holds up to 4 reply frames. -/
def transmitCapacity : Nat := 4

/-- R99: the presence pool has 128 records. -/
def poolCapacity : Nat := 128

/-- R32, R39: the longest span of a permit, in minutes. -/
def maxSpan : Nat := 44640

/-- R140: the auto-purge age, in minutes. -/
def autoPurgeAge : Nat := 1440

/-- R33: the most permits of one badge in live-or-held states. -/
def badgeLimit : Nat := 4

/-- R71: the largest figure of minutes remaining. -/
def maxRemaining : Nat := 1439

/-- R14, R136, R149, R161: the top of a 16-bit count or value. -/
def top16 : Nat := 65535

/-- Free value (log entry 2): whether, in the `k`-th choice of a run, the Event Counters are served before the Minute Sweep
by one minute-boundary event. R4: the two deliveries "take place in no particular order with respect to each other". -/
opaque countersFirst : Nat → Bool

/-- Free value (log entry 3): which of several supervisors removed in one change an UNESCORTED report names, in the `k`-th
choice of a run. R108 speaks of "the badge of the supervisor removed" and states nothing for two at once. -/
opaque supervisorPick : Nat → Nat

/-- Free value (log entry 20): the seconds reported, in the `k`-th choice of a run, for a repeated read of an ARRIVING badge whose
door is not RELEASED. R81 states only the running release's; the range is R125's, 1 to 30. -/
opaque secondsWithoutRelease : Nat → Fin 30

end Sys2Proof.Config
end

