-- ==== Sys2Proof/Machine/State.lean ====
section
/-! DEFINITION. All the state the handbook gives the part, block by block, as plain data; the outcomes' reasons; and the machine
right after a cold start. -/

namespace Sys2Proof.Machine

/-- No command of the part faults: each has an effect, a refusal reply or no effect by the handbook. Nothing raises a fault, so
this closed type has no constructor (safe: a claim about faults is vacuous). -/
inductive Fault
deriving DecidableEq, Repr

/-- Why the model refuses a command. -/
inductive Refusal where
  /-- Raised by `exec` alone, for a command that has no meaning yet (safe: the run stops). No arm raises it now. -/
  | notModelled (mnemonic : String)
deriving DecidableEq, Repr

/-! ### Codes (section 11.4) -/

/-- Reply statuses, in the order of their codes 0 to 17 (section 11.4). -/
inductive Status where
  | done | clamped | busy | unknownRequest | badLength | notYours | locked | noSuchPermit | stale | wrongState | tableFull
  | duplicate | badgeLimit | badRoom | badTime | alreadyOver | occupied | empty
deriving DecidableEq, Repr

/-- Denial reasons, in the order of their codes 1 to 17 (section 11.4). -/
inductive Reason where
  | unmapped | mapConflict | clockUnset | evacuation | noPermit | notCountersigned | suspended | notThisRoom | notYet | over
  | outOfSlot | frozen | passback | roomFull | poolFull | noCompanion | noEscort
deriving DecidableEq, Repr

/-! ### Calendar Clock (chapter 1) -/

/-- The supply state (R12). -/
inductive Supply where
  | normal
  | backup
deriving DecidableEq, Repr

/-! ### Room Table, Station Map, Freeze Calendar (chapter 2) -/

/-- A room's criticality (R16). -/
inductive RoomClass where
  | a | b | c
deriving DecidableEq, Repr

/-- A configured room's record (R16, R17). -/
structure RoomConfig where
  roomClass : RoomClass
  maximum : Nat
deriving DecidableEq, Repr

/-- A non-empty map descriptor (R19). -/
structure Descriptor where
  first : Nat
  size : Nat
  room : Nat
deriving DecidableEq, Repr

/-- A set of room classes (R24). -/
structure ClassSet where
  a : Bool
  b : Bool
  c : Bool
deriving DecidableEq, Repr

/-- A non-empty freeze entry (R24), in absolute minutes. -/
structure Freeze where
  start : Nat
  stop : Nat
  classes : ClassSet
deriving DecidableEq, Repr

/-! ### Permit Table (chapter 3) -/

/-- The states a slot can be in, in the order of their codes 0 to 8 (section 11.3). -/
inductive PermitState where
  | vacant | pending | active | provisional | suspended | lapsed | expired | revoked | closed
deriving DecidableEq, Repr

/-- The state a SUSPENDED permit returns to (R32). -/
inductive ReturnState where
  | pending | active | provisional
deriving DecidableEq, Repr

/-- The four terminal states (section 3.2). -/
inductive Ending where
  | lapsed | expired | revoked | closed
deriving DecidableEq, Repr

/-- A permit's state with the fields that are present in it alone (R32): a return state, a reason and the firm-held mark while
SUSPENDED, a terminal minute once it has ended. -/
inductive Standing where
  | pending
  | active
  | provisional
  | suspended (back : ReturnState) (reason : Nat) (firmHeld : Bool)
  | ended (how : Ending) (terminal : Nat)
deriving DecidableEq, Repr

/-- A permit's role. -/
inductive Role where
  | worker
  | supervisor
deriving DecidableEq, Repr

/-- A slot pattern (section 3.1): the weekdays on which a daily period begins (bit 0 Sunday), and two minutes of the day. -/
structure Pattern where
  weekdays : BitVec 7
  starts : Nat
  ends : Nat
deriving DecidableEq, Repr

/-- A permit record (section 3.1, R32). The slot number is its place in the table. -/
structure Permit where
  number : Nat
  revision : BitVec 8
  standing : Standing
  firm : Nat
  badge : Nat
  role : Role
  rooms : List RoomNo
  spanStart : Nat
  spanEnd : Nat
  pattern : Option Pattern
  urgent : Bool
  escort : Bool
  drafted : Nat
  graceEnd : Option Nat
  countersigned : Option Nat
deriving DecidableEq, Repr

/-- A badge read waiting to be decided (R74). -/
structure Read where
  address : LoopAddr
  badge : Nat
deriving DecidableEq, Repr

/-- Who holds a table turn (R52). A decision's turn holds the read it took from the queue, and whether that read is to be
cleared at its station when the decision ends (R120). -/
inductive TurnUser where
  | decision (read : Read) (clearAfter : Bool)
  | request (l : Link)
  | walkStep
  | sweepStep
deriving DecidableEq, Repr

/-- A table turn in progress (R52), with the clock's reading at which it began (R72, R75). -/
structure Turn where
  user : TurnUser
  began : CivilTime
deriving DecidableEq, Repr

/-! ### Decision Unit (chapter 5) -/

/-- What a hold needs of a partner (R82, R86). -/
inductive Needs where
  | companion
  | escort
  | both
deriving DecidableEq, Repr

/-- An open hold at a room (R86). -/
structure Hold where
  badge : Nat
  slot : SlotNo
  role : Role
  minutes : Nat
  needs : Needs
  opened : CivilTime
  ticks : Nat
deriving DecidableEq, Repr

/-! ### Occupancy Register (chapter 6) -/

/-- Presence states, in the order of their codes 0 to 3 (R161). -/
inductive PresenceState where
  | arriving | inside | leaving | unverified
deriving DecidableEq, Repr

/-- A presence (R101). Lone-since is held once, in the room's lone state; what it is carried on is held once, in the release. -/
structure Presence where
  badge : Nat
  slot : SlotNo
  room : RoomNo
  entry : Nat
  state : PresenceState
  overstay : Bool
deriving DecidableEq, Repr

/-- A lone period in progress (R106). -/
structure Lone where
  who : PoolIx
  since : Nat
  reported : Bool
deriving DecidableEq, Repr

/-- A room's occupancy: its presence list in entry order (R100), its lone state (R106) and its uncertain mark (R110). -/
structure RoomOccupancy where
  list : List PoolIx
  lone : Option Lone
  uncertain : Bool
deriving DecidableEq, Repr

/-- An effect on presences reported by the loop and the doors, with the presences it is reported for (R104, R126). -/
inductive PresenceEffect where
  /-- The presences join the tied set of the room's door. -/
  | tie (r : RoomNo) (who : List PoolIx)
  /-- The presences are resolved as opened. -/
  | opened (who : List PoolIx)
  /-- The presences are resolved as unused. -/
  | unused (who : List PoolIx)
  /-- The presences cease to be carried and keep their states. -/
  | drop (who : List PoolIx)
deriving DecidableEq, Repr

/-! ### Loop Controller (chapter 7) -/

/-- A station's state (R117). -/
inductive StationState where
  | unknown | online | offline | conflict
deriving DecidableEq, Repr

/-- A decision command (R76, R118). A RELEASE holds the presences it carries. -/
inductive DecisionCommand where
  | release (seconds minutes : Nat) (carries : List PoolIx)
  | wait
  | refuse (why : Reason)
deriving DecidableEq, Repr

/-- A mode command (R118). -/
inductive ModeCommand where
  | evacRelease
  | resumeNormal
deriving DecidableEq, Repr

/-- The phase of a pending read (R117). -/
inductive ReadPhase where
  | deciding
  | answered
deriving DecidableEq, Repr

/-- A read taken from a station and not yet answered (R117). -/
structure PendingRead where
  badge : Nat
  phase : ReadPhase
deriving DecidableEq, Repr

/-- A station record (R117). -/
structure Station where
  state : StationState
  misses : Nat
  decision : Option DecisionCommand
  mode : Option ModeCommand
  read : Option PendingRead
  tamper : Bool
deriving DecidableEq, Repr

/-- Which slot's command a POLL carries (R118). -/
inductive Carried where
  | nothing
  | mode
  | decision
deriving DecidableEq, Repr

/-- The POLL that waits for its reply or its timeout (R117). -/
structure OutstandingPoll where
  address : LoopAddr
  carried : Carried
deriving DecidableEq, Repr

/-! ### Door Supervisor (chapter 7) -/

/-- How an UNKNOWN door is settled by the next report (R130). -/
inductive Resumption where
  | back
  | clear
deriving DecidableEq, Repr

/-- A door's state with the timer it holds (R125). -/
inductive DoorState where
  | secure
  | released (ticks : Nat)
  | opened (ticks : Nat)
  | held
  | forced
  | unknown (resumption : Resumption)
  | evacuation
deriving DecidableEq, Repr

/-- A door record (R125). `contact`: `some true` open, `some false` closed, `none` none. -/
structure Door where
  state : DoorState
  tied : List PoolIx
  contact : Option Bool
  pushMark : Bool
  openingPending : Bool
deriving DecidableEq, Repr

/-! ### Minute Sweep and firm walks (chapter 8) -/

/-- The phase of a sweep with its cursor (R136). -/
inductive SweepPlace where
  | permits (cursor : SlotNo)
  | presences (cursor : PoolIx)
deriving DecidableEq, Repr

/-- A sweep in progress (R136). -/
structure SweepRun where
  place : SweepPlace
  minute : Nat
  full : Bool
deriving DecidableEq, Repr

/-- The Minute Sweep (R136). `run = none` is IDLE. -/
structure Sweep where
  run : Option SweepRun
  pending : Bool
  pendingFull : Bool
  overruns : Nat
deriving DecidableEq, Repr

/-- The kind of a firm walk (R145). -/
inductive WalkKind where
  | suspend (reason : Nat)
  | resume
deriving DecidableEq, Repr

/-- The walk record of the Security Link Port (R145). -/
structure Walk where
  kind : WalkKind
  firm : Nat
  cursor : SlotNo
  changed : Nat
deriving DecidableEq, Repr

/-! ### Notice Unit (chapter 9) -/

/-- Notice kinds, in the order of their codes 1 to 19 (R150). -/
inductive NoticeKind where
  | evacuation | forcedDoor | loneWorker | tamper | overstay | heldDoor | unescorted | provisionalIssued | lapsed
  | stationOffline | supplyReturn | unreadEgress | exitMismatch | counterOverflow | review | exitUnmatched | stationOnline
  | sweepOverrun | clockSet
deriving DecidableEq, Repr

/-- The figures a notice carries (R149): a value, or REVIEW's four counts. -/
inductive Figures where
  | none
  | value (v : Nat)
  | counts (presences provisional overstays pending : Nat)
deriving DecidableEq, Repr

/-- What a posting block supplies (R149). -/
structure NoticeBody where
  kind : NoticeKind
  room : Option RoomNo := none
  station : Option LoopAddr := none
  badge : Option Nat := none
  permit : Option Nat := none
  figures : Figures := .none
deriving DecidableEq, Repr

/-- A notice record (R149). -/
structure Notice where
  body : NoticeBody
  level : Nat
  time : CivilTime
deriving DecidableEq, Repr

/-- A notice queue, oldest first, with its lost flag (R151). -/
structure NoticeQueue where
  notices : List Notice
  lost : Bool
deriving DecidableEq, Repr

/-- A port's attention mode (R157). -/
inductive AttentionMode where
  | level
  | pulse
deriving DecidableEq, Repr

/-! ### Access Journal and Event Counters (chapter 10) -/

/-- Journal kinds, in the order of their codes 1 to 29 (section 10.1). -/
inductive JournalKind where
  | entryGrant | entryDeny | reEntry | holdOpen | holdTimeout | holdCancelled | entered | grantUnused | exit | exitUnused
  | exitMismatch | exitUnmatched | reconciledAuto | reconcile | unreadEgress | forced | held | overstay | lone | unescorted
  | permitChange | clockSet | configChange | evacStart | allClear | supplyReturn | restart | stationOffline | stationOnline
deriving DecidableEq, Repr

/-- The outcome field of a journal record (R161). -/
inductive JournalOutcome where
  | status (s : Status)
  | reason (r : Reason)
  | permit (p : PermitState)
deriving DecidableEq, Repr

/-- Who changed a permit (R38), in the order of their codes 1 to 3. -/
inductive Source where
  | works | security | sweep
deriving DecidableEq, Repr

/-- The permit-change part of a PERMIT-CHANGE record (R38, R161). -/
structure PermitChangePart where
  slot : SlotNo
  oldState : PermitState
  source : Source
  revision : BitVec 8
deriving DecidableEq, Repr

/-- What a writing block supplies (R161). -/
structure JournalBody where
  kind : JournalKind
  station : Option LoopAddr := none
  room : Option RoomNo := none
  badge : Option Nat := none
  permit : Option Nat := none
  outcome : Option JournalOutcome := none
  value : Option Nat := none
  change : Option PermitChangePart := none
deriving DecidableEq, Repr

/-- A journal record (R161). -/
structure JournalRecord where
  sequence : Word32
  time : CivilTime
  body : JournalBody
deriving DecidableEq, Repr

/-- A counter's event select (R167), in the order of its codes 0 to 12. -/
inductive Select where
  | grants | denials | denialOf (why : Reason) | entries | exits | occupancyMinutes | holdTimeouts | doorForced | doorHeld
  | overstays | stationMisses | unreadEgress | off
deriving DecidableEq, Repr

/-- A counter (R166). `filter = none` is ALL. -/
structure Counter where
  select : Select
  filter : Option RoomNo
  notify : Bool
  value : Word32
  sticky : Bool
deriving DecidableEq, Repr

/-! ### Replies and link ports (chapter 11) -/

/-- The state of the sweep as READ SWEEP reports it (R54, R136). -/
inductive SweepState where
  | idle | running | suspended
deriving DecidableEq, Repr

/-- A presence as READ OCCUPANCY returns it (R112). -/
structure OccupantView where
  badge : Nat
  permit : Option Nat
  slot : SlotNo
  role : Role
  escort : Bool
  state : PresenceState
  entry : Nat
  overstay : Bool
  carried : Bool
  tied : Bool
deriving DecidableEq, Repr

/-- An address's case in the Station Map (R21). -/
inductive MapOutcome where
  | unpolled
  | mapped (r : RoomNo) (configured : Bool)
  | conflict
deriving DecidableEq, Repr

/-- What a reply carries after its status, by the rule of the request it answers. Minutes are absolute; `Reply.octets` writes
them as calendar fields. -/
inductive ReplyContent where
  | nothing
  | clock (t : CivilTime) (weekday : Nat) (unset : Bool)
  | mark (m : Mark)
  | room (config : Option RoomConfig) (count : Nat)
  | map (descriptors : List (Option Descriptor))
  | freezes (entries : List (Option Freeze))
  | timings (t : Timings)
  | timingsAndLock (t : Timings) (locked : Bool)
  | drafted (slot : SlotNo) (revision : BitVec 8) (state : PermitState) (grace : Option Nat)
  | amended (revision : BitVec 8) (state : PermitState)
  | countersigned (state : PermitState) (revision : BitVec 8)
  | resumed (state : PermitState)
  | permit (slot : SlotNo) (p : Permit) (presence : Option (RoomNo × PresenceState))
  | slots (found : List SlotNo) (next : Nat)
  | roomOccupancy (config : Option RoomConfig) (count : Nat) (uncertain : Bool) (lone : Option (Nat × Nat × Bool))
      (occupants : List OccupantView)
  | badgeOccupancy (found : Option (OccupantView × RoomNo × Nat))
  | reconciled (count : Nat)
  | station (outcome : MapOutcome) (address : LoopAddr) (record : Station)
  | door (state : DoorState) (contact : Option Bool) (tied : List Nat) (evacuating lineHigh : Bool) (edges : Nat)
      (hold : Option Hold)
  | sweep (state : SweepState) (run : Option SweepRun) (pending pendingFull : Bool) (overruns : Nat) (walk : Option Walk)
  | walked (changed : Nat) (last : SlotNo)
  | notice (lost : Bool) (left : Nat) (taken : Option Notice)
  | mask (level : Nat)
  | mode (m : AttentionMode)
  | journal (gap : Bool) (skipped : Nat) (next : Word32) (records : List JournalRecord)
  | counter (c : Counter)
deriving DecidableEq, Repr

/-- A reply frame in a transmit queue (R176). `answers` marks the reply to the request in flight. -/
structure Reply where
  code : Nat
  status : Status
  content : ReplyContent
  answers : Bool
deriving DecidableEq, Repr

/-- The reception phase with the receive buffer (R173): the octets of the frame from its length octet on. -/
inductive Reception where
  | awaitingStart
  | inFrame (octets : List Byte)
deriving DecidableEq, Repr

/-- How far a request in flight has come: handed to its owner and not yet served, walking the table (R145), or answered with its
reply not yet sent (R175). -/
inductive Stage where
  | handed
  | walking
  | answered
deriving DecidableEq, Repr

/-- A request in flight (R175). -/
structure InFlight where
  request : Request
  stage : Stage
deriving DecidableEq, Repr

/-- A link port (R173). It is busy while it has a request in flight. `attention` is the level of its attention line, ATTN-W or
ATTN-S; in PULSE mode it is asserted while a pulse is driven. `sent` is the model's own: the octets of the last reply frame sent in full. -/
structure Port where
  reception : Reception
  inFlight : Option InFlight
  transmit : List Reply
  mask : Nat
  mode : AttentionMode
  attention : Bool
  sent : List Byte
deriving DecidableEq, Repr

/-- The whole part. -/
structure State where
  /-- Calendar Clock: civil time (R1). -/
  clock : CivilTime
  /-- Calendar Clock: CLOCK-UNSET (R1, R5). -/
  clockUnset : Bool
  /-- Calendar Clock: the housekeeping mark (R10). -/
  mark : Mark
  /-- Calendar Clock: the supply state (R12). -/
  supply : Supply
  /-- Calendar Clock: minute-boundary events raised in BACKUP (R4, R14). -/
  backupMinutes : Nat
  /-- Calendar Clock: the phase of the 1 Hz time base (R7, R15), as the number of times it has been restarted. -/
  tickPhase : Nat
  /-- Pin SUPPLY-OK: true high (section 11.5). -/
  supplyLine : Bool
  /-- Pin EVACUATE: true high (section 11.5). -/
  evacuateLine : Bool
  /-- Room Table (R16). `none` is not configured. -/
  rooms : Table 64 (Option RoomConfig)
  /-- Room Table: the timings (R26). -/
  timings : Timings
  /-- Room Table: the configuration lock (R28). -/
  locked : Bool
  /-- Station Map (R19). -/
  stationMap : Table 8 (Option Descriptor)
  /-- Freeze Calendar (R24). -/
  freezes : Table 8 (Option Freeze)
  /-- Permit Table (R32). `none` is VACANT. -/
  permits : Table 256 (Option Permit)
  /-- Table arbiter: the turn in progress (R52). -/
  turn : Option Turn
  /-- Table arbiter: the link last served (R53). -/
  lastServed : Link
  /-- Decision Unit: the read queue, oldest first (R74). -/
  readQueue : List Read
  /-- Decision Unit: the hold list, at most one a room (R86). -/
  holds : Table 64 (Option Hold)
  /-- Occupancy Register: the presence pool (R99). -/
  pool : Table 128 (Option Presence)
  /-- Occupancy Register: each room's list, lone state and uncertain mark (R100, R106, R110). -/
  occupancy : Table 64 RoomOccupancy
  /-- Occupancy Register: effects reported during a turn and held until it ends, oldest first (R104, R126). -/
  heldEffects : List PresenceEffect
  /-- Loop Controller: the station records (R117). -/
  stations : Table 128 Station
  /-- Loop Controller: the address last polled, from which the pass goes on (R117). -/
  lastPolled : Option LoopAddr
  /-- Loop Controller: the addresses that ceased to be polled during the pass in progress and are left out from the next (R23). -/
  passKept : List LoopAddr
  /-- Loop Controller: the POLL in progress (R117). -/
  polling : Option OutstandingPoll
  /-- Door Supervisor: the door records (R125). -/
  doors : Table 64 Door
  /-- Door Supervisor: the evacuation state, true EVACUATING (R132). -/
  evacuating : Bool
  /-- Door Supervisor: the edge count (R132). -/
  edgeCount : Nat
  /-- Door Supervisor: the EVACUATE line's level as last taken (R132). -/
  evacuateTaken : Bool
  /-- Minute Sweep (R136). -/
  sweep : Sweep
  /-- Security Link Port: the firm walk (R145). -/
  walk : Option Walk
  /-- Notice Unit: the two queues (R151). -/
  notices : Both NoticeQueue
  /-- Access Journal: the records, oldest first (R162). -/
  journal : List JournalRecord
  /-- Access Journal: the next sequence number (R162). -/
  nextSequence : Word32
  /-- Access Journal: a RESTART record due at the warm return (R163). -/
  restartDue : Bool
  /-- Event Counters (R166). -/
  counters : Table 8 Counter
  /-- The link ports (R173). -/
  ports : Both Port
  /-- The model's own: how many free values have been used (log entries 2 and 3). -/
  freeUsed : Nat
  /-- The model's own: the commands that wait, first in, first out. -/
  pending : List Instr
deriving DecidableEq, Repr

/-- A station record after a reset (R135). -/
def Station.initial : Station := ⟨.unknown, 0, none, none, none, false⟩

/-- A door record after a reset (R135). -/
def Door.initial : Door := ⟨.unknown .back, [], none, false, false⟩

/-- A room's occupancy when it has never held a presence (R116). -/
def RoomOccupancy.initial : RoomOccupancy := ⟨[], none, false⟩

/-- A counter after a cold start (R172). -/
def Counter.initial : Counter := ⟨.off, none, false, 0, false⟩

/-- A port after a cold start (R160, R173). -/
def Port.initial : Port := ⟨.awaitingStart, none, [], 0, .level, false, []⟩

/-- The machine right after a cold start (R15, R31, R32, R55, R98, R116, R135, R136, R160, R163, R166, R172, R173), its lines
SUPPLY-OK high and EVACUATE low (log entry 1), with no command waiting. -/
def State.reset : State where
  clock := ⟨2000, 1, 1, 0, 0, 0⟩
  clockUnset := true
  mark := ⟨some 0, some 3, none, none⟩
  supply := .normal
  backupMinutes := 0
  tickPhase := 0
  supplyLine := true
  evacuateLine := false
  rooms := fill none
  timings := ⟨5, 60, 30, 5, 60⟩
  locked := false
  stationMap := fill none
  freezes := fill none
  permits := fill none
  turn := none
  lastServed := .security
  readQueue := []
  holds := fill none
  pool := fill none
  occupancy := fill RoomOccupancy.initial
  heldEffects := []
  stations := fill Station.initial
  lastPolled := none
  passKept := []
  polling := none
  doors := fill Door.initial
  evacuating := false
  edgeCount := 0
  evacuateTaken := false
  sweep := ⟨none, false, false, 0⟩
  walk := none
  notices := ⟨⟨[], false⟩, ⟨[], false⟩⟩
  journal := []
  nextSequence := 0
  restartDue := false
  counters := fill Counter.initial
  ports := ⟨Port.initial, Port.initial⟩
  freeUsed := 0
  pending := []

end Sys2Proof.Machine
end

