-- ==== Sys2Proof/Machine/Ops.lean ====
section
/-! DEFINITION. The operations every family uses: reading and writing the tables, posting a notice with its attention line
(R149 to R153, R156 to R158), writing the journal (R161, R162), and reporting to the Event Counters (R166 to R169). -/

namespace Sys2Proof.Machine

/-! ### Records -/

/-- One link's half of a pair. -/
def side {α : Type} (b : Both α) : Link → α
  | .works => b.works
  | .security => b.security

/-- The pair with one link's half replaced. -/
def withSide {α : Type} (b : Both α) (l : Link) (x : α) : Both α :=
  match l with
  | .works => { b with works := x }
  | .security => { b with security := x }

/-- The port of a link. -/
def State.port (s : State) (l : Link) : Port := side s.ports l

/-- The state with a link's port replaced. -/
def State.setPort (s : State) (l : Link) (p : Port) : State := { s with ports := withSide s.ports l p }

/-- The notice queue of a link. -/
def State.queue (s : State) (l : Link) : NoticeQueue := side s.notices l

/-- The state with a link's notice queue replaced. -/
def State.setQueue (s : State) (l : Link) (q : NoticeQueue) : State := { s with notices := withSide s.notices l q }

/-- The station record of an address. -/
def State.station (s : State) (a : LoopAddr) : Station := look s.stations a

/-- The state with a station record replaced. -/
def State.setStation (s : State) (a : LoopAddr) (x : Station) : State := { s with stations := put s.stations a x }

/-- The door record of a room. -/
def State.door (s : State) (r : RoomNo) : Door := look s.doors r

/-- The state with a door record replaced. -/
def State.setDoor (s : State) (r : RoomNo) (d : Door) : State := { s with doors := put s.doors r d }

/-- The permit in a slot, if it is not VACANT. -/
def State.permit (s : State) (i : SlotNo) : Option Permit := look s.permits i

/-- The state with a slot replaced. -/
def State.setPermit (s : State) (i : SlotNo) (p : Option Permit) : State := { s with permits := put s.permits i p }

/-- The presence in a pool record, if it is not free. -/
def State.presence (s : State) (i : PoolIx) : Option Presence := look s.pool i

/-- The state with a pool record replaced. -/
def State.setPresence (s : State) (i : PoolIx) (p : Option Presence) : State := { s with pool := put s.pool i p }

/-- A room's list, lone state and uncertain mark. -/
def State.roomState (s : State) (r : RoomNo) : RoomOccupancy := look s.occupancy r

/-- The state with a room's occupancy replaced. -/
def State.setRoomState (s : State) (r : RoomNo) (o : RoomOccupancy) : State := { s with occupancy := put s.occupancy r o }

/-- The hold open at a room. -/
def State.hold (s : State) (r : RoomNo) : Option Hold := look s.holds r

/-- The state with a room's hold replaced. -/
def State.setHold (s : State) (r : RoomNo) (h : Option Hold) : State := { s with holds := put s.holds r h }

/-- A room's record, if it is configured. -/
def State.room (s : State) (r : RoomNo) : Option RoomConfig := look s.rooms r

/-- A room number within 0 to 63. -/
def roomNo? (n : Nat) : Option RoomNo := if h : n < 64 then some ⟨n, h⟩ else none

/-- A loop address within 0 to 127. -/
def loopAddr? (n : Nat) : Option LoopAddr := if h : n < 128 then some ⟨n, h⟩ else none

/-- An index within 0 to 7: a map descriptor, a freeze entry, a counter. -/
def index8? (n : Nat) : Option (Fin 8) := if h : n < 8 then some ⟨n, h⟩ else none

/-- R149, R161: a figure above 65,535 is carried as 65,535. -/
def cap16 (v : Nat) : Nat := min v Config.top16

/-- R14, R136: a count that stays at 65,535 once there. -/
def countUp16 (v : Nat) : Nat := if v < Config.top16 then v + 1 else Config.top16

/-! ### Code tables (section 11.4) -/

/-- Section 11.4: a denial reason's code. -/
def Reason.code : Reason → Nat
  | .unmapped => 1
  | .mapConflict => 2
  | .clockUnset => 3
  | .evacuation => 4
  | .noPermit => 5
  | .notCountersigned => 6
  | .suspended => 7
  | .notThisRoom => 8
  | .notYet => 9
  | .over => 10
  | .outOfSlot => 11
  | .frozen => 12
  | .passback => 13
  | .roomFull => 14
  | .poolFull => 15
  | .noCompanion => 16
  | .noEscort => 17

/-- Section 11.4: the denial reason of a code. -/
def reasonOfCode? : Nat → Option Reason
  | 1 => some .unmapped
  | 2 => some .mapConflict
  | 3 => some .clockUnset
  | 4 => some .evacuation
  | 5 => some .noPermit
  | 6 => some .notCountersigned
  | 7 => some .suspended
  | 8 => some .notThisRoom
  | 9 => some .notYet
  | 10 => some .over
  | 11 => some .outOfSlot
  | 12 => some .frozen
  | 13 => some .passback
  | 14 => some .roomFull
  | 15 => some .poolFull
  | 16 => some .noCompanion
  | 17 => some .noEscort
  | _ => none

/-- R161: the code of a presence's state, as RECONCILE carries it. -/
def PresenceState.code : PresenceState → Nat
  | .arriving => 0
  | .inside => 1
  | .leaving => 2
  | .unverified => 3

/-- R85, R161: the needs code. -/
def Needs.code : Needs → Nat
  | .companion => 1
  | .escort => 2
  | .both => 3

/-! ### Notices (chapter 9) -/

/-- R150: a kind's level. -/
def NoticeKind.level : NoticeKind → Nat
  | .evacuation => 7
  | .forcedDoor => 6
  | .loneWorker | .tamper => 5
  | .overstay | .heldDoor | .unescorted => 4
  | .provisionalIssued | .lapsed | .stationOffline | .supplyReturn => 3
  | .unreadEgress | .exitMismatch | .counterOverflow | .review => 2
  | .exitUnmatched | .stationOnline | .sweepOverrun | .clockSet => 1

/-- R149: the figures with the value capped. -/
def Figures.capped : Figures → Figures
  | .none => .none
  | .value v => .value (cap16 v)
  | .counts a b c d => .counts (cap16 a) (cap16 b) (cap16 c) (cap16 d)

/-- R150, R169: the queue or queues a notice goes to. A COUNTER-OVERFLOW goes to its owner's: works for counters 0 to 3. -/
def NoticeBody.queues (b : NoticeBody) : List Link :=
  match b.kind with
  | .evacuation | .overstay | .lapsed | .stationOffline | .supplyReturn | .stationOnline => [.works, .security]
  | .forcedDoor | .loneWorker | .tamper | .heldDoor | .unescorted | .provisionalIssued | .unreadEgress | .exitMismatch
  | .exitUnmatched => [.security]
  | .review | .sweepOverrun | .clockSet => [.works]
  | .counterOverflow =>
    match b.figures with
    | .value v => if v ≤ 3 then [.works] else [.security]
    | _ => [.works]

/-- R152: the lowest level present. -/
def lowestLevel : List Notice → Nat
  | [] => 8
  | n :: ns => min n.level (lowestLevel ns)

/-- R154: the highest level present. -/
def highestLevel : List Notice → Nat
  | [] => 0
  | n :: ns => max n.level (highestLevel ns)

/-- R151, R152: a notice offered to a queue, and whether it was placed in it. -/
def NoticeQueue.offer (q : NoticeQueue) (n : Notice) : NoticeQueue × Bool :=
  if q.notices.length < Config.noticeCapacity then (⟨q.notices ++ [n], q.lost⟩, true)
  else if lowestLevel q.notices < n.level then
    (⟨q.notices.eraseP (fun m => m.level == lowestLevel q.notices) ++ [n], true⟩, true)
  else (⟨q.notices, true⟩, false)

/-- R156, R157: whether a queue holds a notice above a mask. -/
def NoticeQueue.above (q : NoticeQueue) (mask : Nat) : Bool := q.notices.any fun n => decide (mask < n.level)

/-- R13, R157: in LEVEL mode the attention line follows the queue and the mask; in BACKUP it is released. -/
def judgeAttention (l : Link) (s : State) : State :=
  let p := s.port l
  match s.supply, p.mode with
  | .backup, _ => s.setPort l { p with attention := false }
  | .normal, .level => s.setPort l { p with attention := (s.queue l).above p.mask }
  | .normal, .pulse => s

/-- R158: in PULSE mode a notice of this level, placed in the queue above the mask, drives the line. -/
def pulseFor (l : Link) (level : Nat) (s : State) : State :=
  let p := s.port l
  match p.mode with
  | .pulse => if p.mask < level then s.setPort l { p with attention := true } else s
  | .level => s

/-- R151, R152, R157, R158: one copy of a notice offered to one queue. -/
def postTo (l : Link) (n : Notice) (s : State) : State :=
  let q := (s.queue l).offer n
  let s := judgeAttention l (s.setQueue l q.1)
  if q.2 then pulseFor l n.level s else s

/-- R149, R150: a notice posted, stamped with the clock's reading, to the queue or queues of its kind. No notice is added in
BACKUP (R13). -/
def post (b : NoticeBody) (s : State) : State :=
  match s.supply with
  | .backup => s
  | .normal => b.queues.foldl (fun s l => postTo l ⟨{ b with figures := b.figures.capped }, b.kind.level, s.clock⟩ s) s

/-! ### Access Journal (chapter 10) -/

/-- R161, R162: a record written with the next sequence number and the clock's reading; the oldest is discarded when the journal
holds 512. No record is written in BACKUP. -/
def writeJournal (b : JournalBody) (s : State) : State :=
  match s.supply with
  | .backup => s
  | .normal =>
    { s with
      journal := s.journal.drop (s.journal.length + 1 - Config.journalCapacity) ++
        [⟨s.nextSequence, s.clock, { b with value := b.value.map cap16 }⟩]
      nextSequence := s.nextSequence + 1 }

/-! ### Event Counters (chapter 10) -/

/-- The events of R167 that the blocks report, but OCCUPANCY-MINUTES. -/
inductive CountEvent where
  | grants
  | denial (why : Reason)
  | entries
  | exits
  | holdTimeout
  | doorForced
  | doorHeld
  | overstay
  | stationMiss
  | unreadEgress
deriving DecidableEq, Repr

/-- R167: whether a select names a reported event. -/
def Select.names : Select → CountEvent → Bool
  | .grants, .grants => true
  | .denials, .denial _ => true
  | .denialOf w, .denial w' => w == w'
  | .entries, .entries => true
  | .exits, .exits => true
  | .holdTimeouts, .holdTimeout => true
  | .doorForced, .doorForced => true
  | .doorHeld, .doorHeld => true
  | .overstays, .overstay => true
  | .stationMisses, .stationMiss => true
  | .unreadEgress, .unreadEgress => true
  | _, _ => false

/-- R167: a room filter selects reports carrying that room, ALL every report. -/
def filterSelects (filter room : Option RoomNo) : Bool :=
  match filter with
  | none => true
  | some r => room == some r

/-- R169: `n` added to a counter modulo 2^32, with its sticky overflow and its COUNTER-OVERFLOW notice. -/
def addToCounter (c : CounterNo) (n : Nat) (s : State) : State :=
  let k := look s.counters c
  if k.value.toNat + n < 2 ^ 32 then
    { s with counters := put s.counters c { k with value := k.value + BitVec.ofNat 32 n } }
  else
    let s := { s with counters := put s.counters c { k with value := k.value + BitVec.ofNat 32 n, sticky := true } }
    if k.notify && !k.sticky then post { kind := .counterOverflow, figures := .value c.val } s else s

/-- R167: a counted event reported with its room and amount; counters are served in ascending number (R169). No report is made
in BACKUP. -/
def report (e : CountEvent) (room : Option RoomNo) (n : Nat) (s : State) : State :=
  match s.supply with
  | .backup => s
  | .normal =>
    (List.finRange 8).foldl (fun s c =>
      let k := look s.counters c
      if k.select.names e && filterSelects k.filter room then addToCounter c n s else s) s

/-- R100: the presences in the whole pool. -/
def poolCount (s : State) : Nat := (s.pool.toList.filter (·.isSome)).length

/-- R100: a room's presence count. -/
def roomCount (s : State) (r : RoomNo) : Nat := (s.roomState r).list.length

/-- R168: the presences an OCCUPANCY-MINUTES counter selects. -/
def presencesSelected (s : State) (filter : Option RoomNo) : Nat :=
  match filter with
  | none => poolCount s
  | some r => roomCount s r

/-- R168: a delivered minute-boundary event at the Event Counters. -/
def countOccupancyMinutes (s : State) : State :=
  (List.finRange 8).foldl (fun s c =>
    let k := look s.counters c
    if k.select == .occupancyMinutes then addToCounter c (presencesSelected s k.filter) s else s) s

end Sys2Proof.Machine
end

