-- ==== Sys2Proof/Machine/Layout.lean ====
section
/-! DEFINITION. What the layout answers (chapter 2): an address's case in the Station Map, a room's stations, the polled set,
and whether a class is frozen. -/

namespace Sys2Proof.Machine

/-- R19: a descriptor covers the addresses from its first to first + size − 1. -/
def Descriptor.covers (d : Descriptor) (a : LoopAddr) : Bool := decide (d.first ≤ a.val) && decide (a.val < d.first + d.size)

/-- R20: the room of a covered address, first room + floor(k/2) for the offset k. -/
def Descriptor.roomAt (d : Descriptor) (a : LoopAddr) : RoomNo := Fin.ofNat 64 (d.room + (a.val - d.first) / 2)

/-- R21: the case of an address under a map and a room table. -/
def outcomeUnder (m : Table 8 (Option Descriptor)) (rooms : Table 64 (Option RoomConfig)) (a : LoopAddr) : MapOutcome :=
  match (m.toList.filterMap id).filter (·.covers a) with
  | [] => .unpolled
  | [d] => .mapped (d.roomAt a) (look rooms (d.roomAt a)).isSome
  | _ => .conflict

/-- R21: the case of an address as the layout stands. -/
def mapOutcome (s : State) (a : LoopAddr) : MapOutcome := outcomeUnder s.stationMap s.rooms a

/-- The room an address is mapped to. -/
def MapOutcome.room? : MapOutcome → Option RoomNo
  | .mapped r _ => some r
  | _ => none

/-- R21: whether an address of this case is polled. -/
def MapOutcome.isPolled : MapOutcome → Bool
  | .unpolled => false
  | _ => true

/-- The room of an address as the layout stands, where it is mapped. -/
def roomOf (s : State) (a : LoopAddr) : Option RoomNo := (mapOutcome s a).room?

/-- R20: an even address is an entry station, an odd one an exit station. -/
def isEntry (a : LoopAddr) : Bool := a.val % 2 == 0

/-- R19, R20: the address of a room's entry station under a map, if it has one. -/
def entryUnder (m : Table 8 (Option Descriptor)) (rooms : Table 64 (Option RoomConfig)) (r : RoomNo) : Option LoopAddr :=
  (List.finRange 128).find? fun a => isEntry a && (outcomeUnder m rooms a).room? == some r

/-- The address of a room's entry station. -/
def entryStation (s : State) (r : RoomNo) : Option LoopAddr := entryUnder s.stationMap s.rooms r

/-- The address of a room's exit station. -/
def exitStation (s : State) (r : RoomNo) : Option LoopAddr :=
  (List.finRange 128).find? fun a => !isEntry a && roomOf s a == some r

/-- R117: the polled addresses, ascending: those mapped or in map conflict. -/
def polledAddresses (s : State) : List LoopAddr := (List.finRange 128).filter fun a => (mapOutcome s a).isPolled

/-- R24: a class is in a class set. -/
def ClassSet.has (k : ClassSet) : RoomClass → Bool
  | .a => k.a
  | .b => k.b
  | .c => k.c

/-- R24: a class is frozen at an absolute minute. -/
def frozen (s : State) (k : RoomClass) (m : Nat) : Bool :=
  (s.freezes.toList.filterMap id).any fun f => decide (f.start ≤ m) && decide (m < f.stop) && f.classes.has k

/-- R17, R22: the sizes a descriptor may have. -/
def mapSizes : List Nat := [2, 4, 8, 16, 32, 64, 128]

/-- R19, R22: a descriptor's fields are in their ranges and agree with each other. -/
def Descriptor.valid (d : Descriptor) : Bool :=
  decide (d.first ≤ 127) && mapSizes.contains d.size && decide (d.room ≤ 63) && decide (d.first % d.size = 0)
    && decide (d.room + d.size / 2 ≤ 64)

/-- R19, R22: two descriptors cover a common room. -/
def Descriptor.sharesRoom (d e : Descriptor) : Bool :=
  decide (d.room < e.room + e.size / 2) && decide (e.room < d.room + d.size / 2)

end Sys2Proof.Machine
end

