-- ==== Sys2Proof/Machine/Evaluate.lean ====
section
/-! DEFINITION. The Window Evaluator (chapter 4): whether a permit admits a room at a minute, and for how long. -/

namespace Sys2Proof.Machine

/-- What an evaluation is for (R63). -/
inductive Purpose where
  | entry
  | overstay
deriving DecidableEq, Repr

/-- The result of an evaluation (R63): a failure's reason and stage, or a pass's validity end and minutes remaining. -/
inductive Verdict where
  | fails (why : Reason) (stage : Nat)
  | passes (validityEnd minutes : Nat)
deriving DecidableEq, Repr

/-- The state a standing shows (R32). -/
def Standing.state : Standing → PermitState
  | .pending => .pending
  | .active => .active
  | .provisional => .provisional
  | .suspended _ _ _ => .suspended
  | .ended .lapsed _ => .lapsed
  | .ended .expired _ => .expired
  | .ended .revoked _ => .revoked
  | .ended .closed _ => .closed

/-- R64: stage 1's reason for a standing, `none` for a live one. -/
def Standing.refusal : Standing → Option Reason
  | .active | .provisional => none
  | .pending => some .notCountersigned
  | .suspended _ _ _ => some .suspended
  | .ended _ _ => some .noPermit

/-- R66: the validity end. -/
def Permit.validityEnd (p : Permit) : Nat :=
  match p.standing, p.graceEnd with
  | .provisional, some g => min p.spanEnd g
  | _, _ => p.spanEnd

/-- The weekday is in the pattern's set. -/
def Pattern.onDay (k : Pattern) (w : Nat) : Bool := k.weekdays.getLsbD w

/-- R67 to R69: the slot end when minute `n` falls in a period of the pattern, `none` when it falls in none. -/
def Pattern.slotEnd (k : Pattern) (n : Nat) : Option Nat :=
  let m := n % 1440
  let w := weekdayOf (n / 1440)
  let yesterday := (w + 6) % 7
  if k.starts < k.ends then
    if k.onDay w && decide (k.starts ≤ m) && decide (m < k.ends) then some (n - m + k.ends) else none
  else if k.starts ≤ m then
    if k.onDay w then some (n - m + 1440 + k.ends) else none
  else if m < k.ends then
    if k.onDay yesterday then some (n - m + k.ends) else none
  else none

/-- R71: minutes remaining, the lesser of what the span and the slot leave, at most 1439. -/
def minutesRemaining (validityEnd n : Nat) (slot : Option Nat) : Nat :=
  min Config.maxRemaining (match slot with
    | none => validityEnd - n
    | some e => min (validityEnd - n) (e - n))

/-- R70: stage 5 bars a permit that is not urgent where the room's class is frozen; a room that is not configured has none. -/
def frozenFor (s : State) (p : Permit) (r : RoomNo) (n : Nat) : Bool :=
  !p.urgent && (s.room r).any fun c => frozen s c.roomClass n

/-- R63 to R71: the five stages in order, stage 5 for the purpose ENTRY only. -/
def evaluate (s : State) (p : Permit) (r : RoomNo) (n : Nat) (purpose : Purpose) : Verdict :=
  match p.standing.refusal with
  | some why => .fails why 1
  | none =>
    if r ∉ p.rooms then .fails .notThisRoom 2
    else if n < p.spanStart then .fails .notYet 3
    else if p.validityEnd ≤ n then .fails .over 3
    else
      let slot := p.pattern.map (·.slotEnd n)
      if slot = some none then .fails .outOfSlot 4
      else if purpose = .entry ∧ frozenFor s p r n = true then .fails .frozen 5
      else .passes p.validityEnd (minutesRemaining p.validityEnd n slot.join)

end Sys2Proof.Machine
end

