-- ==== Sys2Proof/Machine/Occupancy.lean ====
section
/-! DEFINITION. The Occupancy Register's operations (chapter 6): adding and removing presences, what they are carried on, the
resolutions of R102 and R103, the re-examination of R105, and the effects held during a turn (R104). -/

namespace Sys2Proof.Machine

/-- The clock's current absolute minute, seconds dropped (R61). -/
def nowMinute (s : State) : Nat := s.clock.abs

/-- The pool record of a badge's presence (R99: at most one). -/
def findBadge (s : State) (badge : Nat) : Option PoolIx :=
  (List.finRange 128).find? fun i => (s.presence i).any (·.badge == badge)

/-- The pool record of the presence that refers to a slot (R49: at most one). -/
def findSlot (s : State) (i : SlotNo) : Option PoolIx :=
  (List.finRange 128).find? fun k => (s.presence k).any (·.slot == i)

/-- R49: whether any presence refers to a slot. -/
def slotReferred (s : State) (i : SlotNo) : Bool := (findSlot s i).isSome

/-- The permit a presence refers to, as its record stands. -/
def permitOf (s : State) (p : Presence) : Option Permit := s.permit p.slot

/-- The number of the permit in a slot. -/
def permitNumber (s : State) (i : SlotNo) : Option Nat := (s.permit i).map (·.number)

/-- A presence's permit has role SUPERVISOR (R82, R108). -/
def isSupervisor (s : State) (p : Presence) : Bool := (permitOf s p).any (·.role == .supervisor)

/-- A presence's permit has escort required yes and role WORKER (R108). -/
def needsEscort (s : State) (p : Presence) : Bool := (permitOf s p).any fun q => q.escort && q.role == .worker

/-- The presences of a room in list order (R100). -/
def roomPresences (s : State) (r : RoomNo) : List Presence := (s.roomState r).list.filterMap s.presence

/-! ### What a presence is carried on (R101) -/

/-- A decision command without the presences named. -/
def DecisionCommand.without (who : List PoolIx) : DecisionCommand → DecisionCommand
  | .release seconds minutes carries => .release seconds minutes (carries.filter (· ∉ who))
  | c => c

/-- The presences a decision command carries. -/
def DecisionCommand.carries : DecisionCommand → List PoolIx
  | .release _ _ carries => carries
  | _ => []

/-- An effect without the presences named. -/
def PresenceEffect.without (who : List PoolIx) : PresenceEffect → PresenceEffect
  | .tie r l => .tie r (l.filter (· ∉ who))
  | .opened l => .opened (l.filter (· ∉ who))
  | .unused l => .unused (l.filter (· ∉ who))
  | .drop l => .drop (l.filter (· ∉ who))

/-- The presences an effect names. -/
def PresenceEffect.names : PresenceEffect → List PoolIx
  | .tie _ l => l
  | .opened l => l
  | .unused l => l
  | .drop l => l

/-- The presences an effect is to tie to a room's door. -/
def PresenceEffect.tiesAt (r : RoomNo) : PresenceEffect → List PoolIx
  | .tie q l => if q = r then l else []
  | _ => []

/-- The presences cease to be carried on any release: pending at a station, delivered with its effect held, or tied. -/
def uncarry (who : List PoolIx) (s : State) : State :=
  { s with
    stations := mapAll (fun x => { x with decision := x.decision.map (·.without who) }) s.stations
    doors := mapAll (fun d => { d with tied := d.tied.filter (· ∉ who) }) s.doors
    heldEffects := s.heldEffects.map (·.without who) }

/-- R101: a presence is tied to a door. -/
def isTied (s : State) (i : PoolIx) : Bool := s.doors.toList.any fun d => d.tied.contains i

/-- R101: a presence is carried on a release, pending or tied. -/
def isCarried (s : State) (i : PoolIx) : Bool :=
  isTied s i || s.stations.toList.any (fun x => x.decision.any fun c => c.carries.contains i)
    || s.heldEffects.any (fun e => e.names.contains i)

/-! ### Adding, changing and removing -/

/-- R84, R99, R100: a presence takes the lowest-numbered free record and goes last in its room's list. With no free record
nothing is added; the fullness tests keep this from happening (R83). -/
def addPresence (p : Presence) (s : State) : State × List PoolIx :=
  match (List.finRange 128).find? fun i => (s.presence i).isNone with
  | none => (s, [])
  | some i =>
    let o := s.roomState p.room
    ((s.setPresence i (some p)).setRoomState p.room { o with list := o.list ++ [i] }, [i])

/-- R99, R100: a presence's record becomes free, it leaves its room's list, and it is carried on nothing. -/
def removePresence (i : PoolIx) (s : State) : State :=
  match s.presence i with
  | none => s
  | some p =>
    let o := s.roomState p.room
    uncarry [i] ((s.setPresence i none).setRoomState p.room { o with list := o.list.erase i })

/-- A presence's state changed, its place and its other fields kept (R100). -/
def setPresenceState (i : PoolIx) (x : PresenceState) (s : State) : State :=
  match s.presence i with
  | none => s
  | some p => s.setPresence i (some { p with state := x })

/-! ### Re-examination (R105 to R108, R110) -/

/-- R106: the lone presence of a room as it stands: class A and exactly one presence in a state other than ARRIVING. -/
def lonePresence (s : State) (r : RoomNo) : Option PoolIx :=
  match s.room r with
  | some ⟨.a, _⟩ =>
    match (s.roomState r).list.filter fun i => (s.presence i).any (·.state != .arriving) with
    | [i] => some i
    | _ => none
  | _ => none

/-- R106: the lone state after a change, from the lone state before it. -/
def loneAfter (before : Option Lone) (now : Option PoolIx) (minute : Nat) : Option Lone :=
  match before, now with
  | _, none => none
  | none, some i => some ⟨i, minute, false⟩
  | some l, some i => if l.who = i then some l else some ⟨i, minute, false⟩

/-- R105 steps 1 and 3: the lone rule, and the uncertain mark cleared where the list is empty. -/
def refreshRoom (r : RoomNo) (s : State) : State :=
  let o := s.roomState r
  s.setRoomState r
    { o with lone := loneAfter o.lone (lonePresence s r) (nowMinute s), uncertain := o.uncertain && !o.list.isEmpty }

/-- R108: the supervisor an UNESCORTED report names. With several removed in one change the choice is free (log entry 3). -/
def reportedSupervisor (gone : List Nat) (k : Nat) : Option Nat :=
  match gone with
  | [b] => some b
  | bs => bs[Config.supervisorPick k % bs.length]?

/-- R105 step 2, R108: the escort check after the removal of the supervisors whose badges are named. -/
def escortCheck (r : RoomNo) (gone : List Nat) (s : State) : State :=
  let here := roomPresences s r
  let left := (here.filter (needsEscort s)).length
  if gone.isEmpty || here.any (isSupervisor s) || left == 0 then s
  else
    let badge := reportedSupervisor gone s.freeUsed
    let s := if gone.length = 1 then s else { s with freeUsed := s.freeUsed + 1 }
    writeJournal { kind := .unescorted, room := some r, badge := badge, value := some left }
      (post { kind := .unescorted, room := some r, badge := badge, figures := .value left } s)

/-- R105: a room re-examined at the end of a change that removed the supervisors named. -/
def reexamine (r : RoomNo) (gone : List Nat) (s : State) : State := escortCheck r gone (refreshRoom r s)

/-- The badge of a presence if its removal now is a supervisor's (R108). -/
def supervisorBadge (s : State) (i : PoolIx) : List Nat :=
  match s.presence i with
  | some p => if isSupervisor s p then [p.badge] else []
  | none => []

/-! ### Resolutions (R102, R103) -/

/-- R102: one presence resolved as opened; the second part collects the supervisors removed. The station of the record is that of the presence's
room as the map stands when this is carried out, and absent where the room then has none (DESIGN CHOICE, log entry 51). -/
def resolveOpened (i : PoolIx) (x : State × List Nat) : State × List Nat :=
  match x.1.presence i with
  | none => x
  | some p =>
    let record (kind : JournalKind) (station : Option LoopAddr) (s : State) : State :=
      writeJournal
        { kind := kind, station := station, room := some p.room, badge := some p.badge, permit := permitNumber s p.slot } s
    match p.state with
    | .arriving =>
      ⟨report .entries (some p.room) 1 (record .entered (entryStation x.1 p.room) (setPresenceState i .inside x.1)), x.2⟩
    | .leaving =>
      ⟨report .exits (some p.room) 1 (record .exit (exitStation x.1 p.room) (removePresence i x.1)),
        x.2 ++ supervisorBadge x.1 i⟩
    | .inside | .unverified => x

/-- R103: one presence resolved as unused. -/
def resolveUnused (i : PoolIx) (x : State × List Nat) : State × List Nat :=
  match x.1.presence i with
  | none => x
  | some p =>
    let record (kind : JournalKind) (s : State) : State :=
      writeJournal { kind := kind, room := some p.room, badge := some p.badge, permit := permitNumber s p.slot } s
    match p.state with
    | .arriving => ⟨record .grantUnused (removePresence i x.1), x.2 ++ supervisorBadge x.1 i⟩
    | .leaving => ⟨record .exitUnused (setPresenceState i .inside x.1), x.2⟩
    | .inside | .unverified => x

/-- R102, R103: the presences of one room, in list order, each resolved, and the room re-examined once. -/
def resolveRoom (one : PoolIx → State × List Nat → State × List Nat) (who : List PoolIx) (s : State) (r : RoomNo) : State :=
  let x := ((s.roomState r).list.filter (· ∈ who)).foldl (fun x i => one i x) (s, [])
  reexamine r x.2 x.1

/-- The rooms of the presences named, each once, in the order in which the presences are named: should a release carry presences of two
rooms, no rule orders them (DESIGN CHOICE, log entry 9). -/
def roomsOfPresences (s : State) (who : List PoolIx) : List RoomNo :=
  ((who.filterMap s.presence).map (·.room)).eraseDups

/-- R102, R103: the presences named cease to be carried and are resolved, room by room. -/
def resolve (one : PoolIx → State × List Nat → State × List Nat) (who : List PoolIx) (s : State) : State :=
  (roomsOfPresences s who).foldl (resolveRoom one who) (uncarry who s)

/-! ### Effects reported by the loop and the doors (R104, R126) -/

/-- An effect carried out. -/
def applyEffect (e : PresenceEffect) (s : State) : State :=
  match e with
  | .tie r who =>
    let s := uncarry who s
    s.setDoor r { s.door r with tied := (s.door r).tied ++ who }
  | .opened who => resolve resolveOpened who s
  | .unused who => resolve resolveUnused who s
  | .drop who => uncarry who s

/-- R104: an effect reported. While a turn is in progress, or others are still held, it is held behind them. One that names no
presence is no matter for the register (R102). -/
def reportEffect (e : PresenceEffect) (s : State) : State :=
  if e.names.isEmpty then s
  else if s.turn.isSome || !s.heldEffects.isEmpty then { s with heldEffects := s.heldEffects ++ [e] }
  else applyEffect e s

/-- R125, R126: the presences on a door's running release: its tied set, then those whose tie is held until a turn ends. -/
def onRelease (s : State) (r : RoomNo) : List PoolIx := (s.door r).tied ++ s.heldEffects.flatMap (·.tiesAt r)

/-- R127, R129, R130: the presences on a door's running release are handed over to be resolved, and its tied set is empty from then
on; they stay carried until the resolution is carried out (log entry 22). -/
def handOver (resolution : List PoolIx → PresenceEffect) (r : RoomNo) (s : State) : State :=
  let who := onRelease s r
  if who.isEmpty then s else reportEffect (resolution who) (uncarry who s)

/-- R111: the presences on a door's running release cease to be carried and keep their states. -/
def untie (r : RoomNo) (s : State) : State :=
  let who := onRelease s r
  if who.isEmpty then s else uncarry who s

/-- R104: an effect of the turn in progress itself (`own`) is carried out within it; any other is reported. -/
def effect (own : Bool) (e : PresenceEffect) (s : State) : State := if own then applyEffect e s else reportEffect e s

/-- R104: the held effects carried out, oldest first, at most `k` of them. -/
def drainHeld : Nat → State → State
  | 0, s => s
  | k + 1, s =>
    match s.heldEffects with
    | [] => s
    | e :: es => drainHeld k (applyEffect e { s with heldEffects := es })

end Sys2Proof.Machine
end

