-- ==== Sys2Proof/Machine/Arbiter.lean ====
section
/-! DEFINITION. The table arbiter (R52 to R55) and the link ports' part in a request (R36, R175, R176): who waits for a turn, who
is granted the next, how a request is taken, refused and answered. -/

namespace Sys2Proof.Machine

/-! ### The arbiter -/

/-- R52: the requests that wait for a table turn; every other is served as soon as it is handed over (R175). -/
def needsTurn : Request → Bool
  | .draftPermit _ | .amendPermit _ | .countersign _ _ | .suspendPermit _ _ | .resumePermit _ | .revokePermit _
  | .closePermit _ | .purgePermit _ | .readPermit _ | .listPermits _ _ _ | .readOccupancy _ | .reconcileRoom _ _
  | .writeRoom _ | .writeMap _ | .setFreeze _ | .clearFreeze _ | .allClear => true
  | _ => false

/-- R54: the kinds of request whose turn makes a sweep in progress SUSPENDED. -/
def writesTable : Request → Bool
  | .draftPermit _ | .amendPermit _ | .countersign _ _ | .suspendPermit _ _ | .resumePermit _ | .revokePermit _
  | .closePermit _ | .purgePermit _ | .reconcileRoom _ _ | .writeMap _ | .allClear => true
  | _ => false

/-- R36, R52: a link waits for a turn while its request in flight needs one and is not served, and the Security Link while a
firm walk runs. -/
def linkWaits (s : State) (l : Link) : Bool :=
  (match (s.port l).inFlight with
    | some f => f.stage == .handed && needsTurn f.request
    | none => false) || (l == .security && s.walk.isSome)

/-- R53: the user of a turn granted to a link; while a firm walk runs the Security Link's turns go to the walk. -/
def linkUser (s : State) (l : Link) : TurnUser := if l = .security ∧ s.walk.isSome = true then .walkStep else .request l

/-- R53: the link served next among those that wait. -/
def nextLink (s : State) : Option Link :=
  match linkWaits s .works, linkWaits s .security with
  | true, true => some (if s.lastServed = .works then .security else .works)
  | true, false => some .works
  | false, true => some .security
  | false, false => none

/-- R52, R53: with no turn in progress and no held effect left (R104), the next turn is granted: to the Decision Unit, which takes
its oldest read (R74), else to a link, else to the sweep. -/
def grantNext (s : State) : State :=
  if s.turn.isSome || !s.heldEffects.isEmpty || s.supply == .backup then s
  else
    match s.readQueue with
    | rd :: rest => { s with turn := some ⟨.decision rd false, s.clock⟩, readQueue := rest }
    | [] =>
      match nextLink s with
      | some l => { s with turn := some ⟨linkUser s l, s.clock⟩, lastServed := l }
      | none => if s.sweep.run.isSome then { s with turn := some ⟨.sweepStep, s.clock⟩ } else s

/-- R53: the turn in progress ends and the next is granted. -/
def endTurn (s : State) : State := grantNext { s with turn := none }

/-- R34, R72, R147: the current absolute minute of a turn is the clock's when the turn is taken. The same minute serves R36, R39, R45
and R47, which name no instant of the turn, and CLOCK-UNSET is read when the turn's user is served (DESIGN CHOICE, log entry 44). -/
def turnMinute (s : State) : Nat :=
  match s.turn with
  | some t => t.began.abs
  | none => s.clock.abs

/-- R54, R136: the sweep's state as READ SWEEP reports it. A sweep that starts during the turn of a user that writes is SUSPENDED at once
(DEDUCED, log entry 52). -/
def sweepState (s : State) : SweepState :=
  match s.sweep.run with
  | none => .idle
  | some _ =>
    match s.turn with
    | some ⟨.walkStep, _⟩ => .suspended
    | some ⟨.request l, _⟩ =>
      match (s.port l).inFlight with
      | some f => if writesTable f.request then .suspended else .running
      | none => .running
    | _ => .running

/-! ### Link ports -/

/-- R173, R175: a port is busy while it has a request in flight. -/
def Port.busy (p : Port) : Bool := p.inFlight.isSome

/-- R176: the places of the transmit queue open to refusals: all 4, but for one kept for the reply to a request in flight while
that waits, which refusals alone cannot fill (log entry 8). -/
def Port.placesForRefusals (p : Port) : Nat :=
  if p.inFlight.any (·.stage != .answered) then Config.transmitCapacity - 1 else Config.transmitCapacity

/-- R175, R176: a refusal by the port, length 2, placed last in the transmit queue, or discarded where its places are taken. -/
def refuse (l : Link) (code : Nat) (why : Status) (s : State) : State :=
  let p := s.port l
  if p.transmit.length < p.placesForRefusals then
    s.setPort l { p with transmit := p.transmit ++ [⟨code, why, .nothing, false⟩] }
  else s

/-- R175: a request that passes the port's checks makes it busy and is handed to its owner, who may ask for a turn. -/
def hand (l : Link) (r : Request) (s : State) : State :=
  let s := s.setPort l { s.port l with inFlight := some ⟨r, .handed⟩ }
  if needsTurn r then grantNext s else s

/-- R175 checks 1 and 3 (2 and 4 cannot fail for a request already spelt): BUSY, NOT-YOURS, or handed over. -/
def takeRequest (l : Link) (r : Request) (s : State) : State :=
  if (s.port l).busy then refuse l r.code .busy s
  else if !r.allowedOn l then refuse l r.code .notYours s
  else hand l r s

/-- The request is in flight on the link, handed over and not yet served. -/
def inHand (l : Link) (r : Request) (s : State) : Bool := (s.port l).inFlight == some ⟨r, .handed⟩

/-- A request row's request brought to its owner: as FRAME_RECEIVED left it, or else taken now (log entry 5). -/
def present (l : Link) (r : Request) (s : State) : State := if inHand l r s then s else takeRequest l r s

/-- R176: the reply to the request in flight, placed last in the transmit queue; the port stays busy until it has been sent. A
request has one reply, and it is never discarded: the newest of four refusals that were waiting when the request came gives way to
it (log entry 8). -/
def reply (l : Link) (st : Status) (content : ReplyContent) (s : State) : State :=
  let p := s.port l
  match p.inFlight with
  | none | some ⟨_, .answered⟩ => s
  | some ⟨r, _⟩ =>
    s.setPort l
      { p with
        inFlight := some ⟨r, .answered⟩
        transmit := p.transmit.take (Config.transmitCapacity - 1) ++ [⟨r.code, st, content, true⟩] }

/-- The first check that fails gives the reply status (R36, R175). -/
def firstFailing : List (Bool × Status) → Option Status
  | [] => none
  | (true, st) :: _ => some st
  | (false, _) :: rest => firstFailing rest

/-- A request's own checks in their order, each true where it fails; a request that passes them all is accepted. -/
def checked (l : Link) (checks : List (Bool × Status)) (accept : State → State) (s : State) : State :=
  match firstFailing checks with
  | some st => reply l st .nothing s
  | none => accept s

/-- A request served as soon as it is handed over (R175). The ports are stopped in BACKUP (R13). -/
def atOnce (l : Link) (r : Request) (serve : State → State) (s : State) : State :=
  match s.supply with
  | .backup => s
  | .normal =>
    let s := present l r s
    if inHand l r s then serve s else s

/-- The link holds the turn for its request. -/
def holdsTurn (l : Link) (s : State) : Bool := s.turn.map Turn.user == some (TurnUser.request l)

/-- A request served in a table turn (R36, R52): where the turn has been granted it is served and the turn ends; otherwise it
waits. The ports are stopped in BACKUP (R13). -/
def inTurn (l : Link) (r : Request) (serve : State → State) (s : State) : State :=
  match s.supply with
  | .backup => s
  | .normal =>
    let s := present l r s
    if inHand l r s && holdsTurn l s then endTurn (serve s) else s

end Sys2Proof.Machine
end

