-- ==== Sys2Proof/Machine/Loop.lean ====
section
/-! DEFINITION. The Loop Controller's and Door Supervisor's operations (chapter 7): queueing and discarding commands, pending reads,
a door losing its station, a delivered RELEASE, contact and push-bar reports, and the closing of holds they bring about. -/

namespace Sys2Proof.Machine

/-! ### Commands and pending reads (R118, R120, R121) -/

/-- A POLL that carries the given slot's command at an address no longer carries it: the command is lost (R121, log entry 10). -/
def loseCarried (a : LoopAddr) (c : Carried) (s : State) : State :=
  match s.polling with
  | some p => if p.address = a ∧ p.carried = c then { s with polling := some { p with carried := .nothing } } else s
  | none => s

/-- R103, R121: the presences of a decision command that is replaced or discarded are resolved as unused. -/
def loseCommand (own : Bool) (c : Option DecisionCommand) (s : State) : State :=
  match c with
  | some (.release _ _ (i :: is)) => effect own (.unused (i :: is)) s
  | _ => s

/-- R76, R121: a decision command queued at a station, replacing any pending one. -/
def queueDecision (own : Bool) (a : LoopAddr) (c : DecisionCommand) (s : State) : State :=
  let x := s.station a
  loseCommand own x.decision (loseCarried a .decision (s.setStation a { x with decision := some c }))

/-- R120: a station's pending read cleared. A read still DECIDING leaves the read queue too; if its decision's turn is in
progress it is cleared when that decision ends instead. -/
def clearRead (a : LoopAddr) (s : State) : State :=
  let x := s.station a
  match x.read with
  | none => s
  | some ⟨_, .answered⟩ => s.setStation a { x with read := none }
  | some ⟨_, .deciding⟩ =>
    match s.turn with
    | some ⟨.decision rd _, began⟩ =>
      if rd.address = a then { s with turn := some ⟨.decision rd true, began⟩ }
      else { s.setStation a { x with read := none } with readQueue := s.readQueue.filter (·.address ≠ a) }
    | _ => { s.setStation a { x with read := none } with readQueue := s.readQueue.filter (·.address ≠ a) }

/-- R103, R121: a station's pending decision command discarded. -/
def discardDecision (own : Bool) (a : LoopAddr) (s : State) : State :=
  let x := s.station a
  loseCommand own x.decision (loseCarried a .decision (s.setStation a { x with decision := none }))

/-- R121: a mode command queued at a station, replacing any pending one. EVAC-RELEASE also discards the pending decision command,
and then the pending read is cleared (R120). -/
def queueMode (own : Bool) (m : ModeCommand) (a : LoopAddr) (s : State) : State :=
  let s := loseCarried a .mode (s.setStation a { s.station a with mode := some m })
  match m, (s.station a).decision with
  | .evacRelease, some _ => clearRead a (discardDecision own a s)
  | _, _ => s

/-- R132 step 3, R134 step 2, R135: a mode command queued at every polled station, in ascending order of address. -/
def queueModeEverywhere (own : Bool) (m : ModeCommand) (s : State) : State :=
  (polledAddresses s).foldl (fun s a => queueMode own m a s) s

/-! ### Holds that end (R90 to R92) -/

/-- The HOLD-TIMEOUT or HOLD-CANCELLED record of a room's hold, at its entry station `a` (R90 to R92). -/
def holdRecord (kind : JournalKind) (a : Option LoopAddr) (r : RoomNo) (h : Hold) (why : Option Reason) (s : State) : State :=
  writeJournal
    { kind := kind, station := a, room := some r, badge := some h.badge, permit := permitNumber s h.slot
      outcome := why.map .reason } s

/-- R92: a room's hold cancelled with no command and no denial. -/
def cancelHold (a : Option LoopAddr) (why : Option Reason) (s : State) (r : RoomNo) : State :=
  match s.hold r with
  | none => s
  | some h => holdRecord .holdCancelled a r h why (s.setHold r none)

/-- R90, R91: a REFUSE queued at a room's entry station, where it has one. -/
def refuseAtEntry (own : Bool) (r : RoomNo) (why : Reason) (s : State) : State :=
  match entryStation s r with
  | some a => queueDecision own a (.refuse why) s
  | none => s

/-- R91: a room's hold re-tested after a change to a slot: cancelled with stage 1's reason unless the slot is in a live state. -/
def retestHold (i : SlotNo) (badge : Nat) (s : State) (r : RoomNo) : State :=
  match s.hold r with
  | none => s
  | some h =>
    if h.slot = i ∧ h.badge = badge then
      match (match s.permit i with
        | some p => p.standing.refusal
        | none => some .noPermit) with
      | none => s
      | some why =>
        report (.denial why) (some r) 1
          (holdRecord .holdCancelled (entryStation s r) r h (some why) (refuseAtEntry true r why (s.setHold r none)))
    else s

/-- R35, R91: at the end of a turn that changes a permit record, the holds are re-tested. -/
def retestHolds (i : SlotNo) (badge : Nat) (s : State) : State := (List.finRange 64).foldl (retestHold i badge) s

/-! ### Doors (R125 to R130) -/

/-- R130: a room's door becomes UNKNOWN (RETURN), unless it is in EVACUATION, and its tied set is handed over as unused. -/
def loseDoor (r : RoomNo) (s : State) : State :=
  match (s.door r).state with
  | .evacuation => s
  | _ =>
    handOver .unused r
      (s.setDoor r { s.door r with state := .unknown .back, contact := none, pushMark := false, openingPending := false })

/-- R126: a RELEASE delivered at one of a room's stations. -/
def deliverRelease (r : RoomNo) (seconds : Nat) (carries : List PoolIx) (s : State) : State :=
  let d := s.door r
  match d.state with
  | .secure | .released _ => reportEffect (.tie r carries) (s.setDoor r { d with state := .released seconds })
  | .opened _ | .held | .forced => reportEffect (.opened carries) s
  | .unknown _ => reportEffect (.unused carries) s
  | .evacuation => reportEffect (.drop carries) s

/-- R128, R130: a door becomes HELD: HELD-DOOR posted and journalled, DOOR-HELD reported. -/
def holdDoor (r : RoomNo) (s : State) : State :=
  let a := entryStation s r
  report .doorHeld (some r) 1
    (writeJournal { kind := .held, station := a, room := some r }
      (post { kind := .heldDoor, station := a, room := some r } (s.setDoor r { s.door r with state := .held })))

/-- R127, R128, R130: a contact report of a room's entry station, `isOpen` for open. -/
def contactReport (r : RoomNo) (isOpen : Bool) (s : State) : State :=
  let d := { s.door r with contact := some isOpen }
  match d.state, isOpen, (s.door r).contact == some true with
  | .unknown _, false, _ => s.setDoor r { d with state := .secure }
  | .unknown .back, true, _ => holdDoor r (s.setDoor r d)
  | .unknown .clear, true, _ => s.setDoor r { d with state := .opened s.timings.heldOpen }
  | .released _, true, false => handOver .opened r (s.setDoor r { d with state := .opened s.timings.heldOpen })
  | .secure, true, false => s.setDoor r { d with openingPending := true }
  | .opened _, false, true => s.setDoor r { d with state := .secure }
  | .held, false, true => s.setDoor r { d with state := .secure }
  | .forced, false, true => s.setDoor r { d with state := .secure }
  | _, _, _ => s.setDoor r d

/-- R127: a pending opening judged at the exit station's reply or miss; `bar` is that reply's push-bar report. -/
def judgeOpening (r : RoomNo) (bar : Bool) (s : State) : State :=
  let d := s.door r
  let s' := s.setDoor r { d with pushMark := false, openingPending := false }
  if !d.openingPending then s
  else if bar || d.pushMark then
    let a := exitStation s r
    let s := s'.setDoor r { s'.door r with state := .opened s.timings.heldOpen }
    let s := post { kind := .unreadEgress, station := a, room := some r } s
    let s := report .unreadEgress (some r) 1 (writeJournal { kind := .unreadEgress, station := a, room := some r } s)
    s.setRoomState r { s.roomState r with uncertain := true }
  else
    let a := entryStation s r
    let s := post { kind := .forcedDoor, station := a, room := some r } (s'.setDoor r { s'.door r with state := .forced })
    report .doorForced (some r) 1 (writeJournal { kind := .forced, station := a, room := some r } s)

/-- R125: the push-bar mark at a good reply of the exit station, after any judgement (`judged`) that reply made. A judgement uses the
report of the reply that makes it, whether or not the mark was already set (log entry 35). -/
def pushBarReport (r : RoomNo) (bar judged : Bool) (s : State) : State :=
  s.setDoor r { s.door r with pushMark := bar && !judged }

/-! ### Station health (R122) -/

/-- R92, R130: a room whose entry station `a` is OFFLINE or lost: its door becomes UNKNOWN and its hold is cancelled. After a WRITE MAP
the record of HOLD-CANCELLED names the address lost (DESIGN CHOICE, log entry 54). -/
def loseEntryStation (a : LoopAddr) (r : RoomNo) (s : State) : State := cancelHold (some a) none (loseDoor r s) r

/-- R122: a station goes OFFLINE. -/
def goOffline (a : LoopAddr) (s : State) : State :=
  let s := s.setStation a { s.station a with state := .offline, misses := Config.missesToOffline }
  let room := roomOf s a
  let s := report .stationMiss room 1 s
  let s := writeJournal { kind := .stationOffline, station := some a, room := room }
    (post { kind := .stationOffline, station := some a, room := room } s)
  let s := clearRead a (discardDecision false a s)
  match room with
  | some r => if isEntry a then loseEntryStation a r s else s
  | none => s

/-- R21, R122: the state a station is held in: CONFLICT for as long as its address is in map conflict, and else the record's. The two
differ after a warm return or a restart alone, which set every record UNKNOWN (R14, R135; log entry 15). -/
def stationState (s : State) (a : LoopAddr) : StationState :=
  match mapOutcome s a with
  | .conflict => .conflict
  | .unpolled | .mapped _ _ => (s.station a).state

/-- R122: a miss counted at an address. -/
def countMiss (a : LoopAddr) (s : State) : State :=
  let x := s.station a
  match stationState s a with
  | .offline | .conflict => s
  | .unknown | .online =>
    if x.misses + 1 < Config.missesToOffline then
      report .stationMiss (roomOf s a) 1 (s.setStation a { x with misses := x.misses + 1 })
    else goOffline a s

/-- R122, R132: a good reply's effect on the station state. A station that becomes ONLINE in EVACUATING is queued EVAC-RELEASE
if none is pending. -/
def comeOnline (a : LoopAddr) (s : State) : State :=
  let x := s.station a
  let s' := s.setStation a { x with state := .online, misses := 0 }
  let alarm (s : State) : State :=
    if s.evacuating && (s.station a).mode != some .evacRelease then queueMode false .evacRelease a s else s
  match stationState s a with
  | .conflict => s
  | .online => s'
  | .unknown => alarm s'
  | .offline =>
    let room := roomOf s a
    alarm (writeJournal { kind := .stationOnline, station := some a, room := room }
      (post { kind := .stationOnline, station := some a, room := room } s'))

/-- R123: the tamper input of a good reply. -/
def tamperReport (a : LoopAddr) (isSet : Bool) (s : State) : State :=
  let x := s.station a
  let s' := s.setStation a { x with tamper := isSet }
  if isSet && !x.tamper then post { kind := .tamper, station := some a, room := roomOf s a } s' else s'

/-- R120: the read a good reply offers, taken once and handed to the Decision Unit's read queue. -/
def offerRead (a : LoopAddr) (badge : Nat) (s : State) : State :=
  let x := s.station a
  if badge = 0 ∨ x.read.isSome = true then s
  else
    let s := s.setStation a { x with read := some ⟨badge, .deciding⟩ }
    grantNext { s with readQueue := s.readQueue ++ [⟨a, badge⟩] }

end Sys2Proof.Machine
end

