-- ==== Sys2Proof/Machine/Clock.lean ====
section
/-! DEFINITION. The Calendar Clock's commands (chapter 1): the tick, the minute-boundary event, SET CLOCK, ALIGN CLOCK, READ CLOCK
and SET MARK. -/

namespace Sys2Proof.Machine

/-! ### The minute-boundary event (R4) -/

/-- R137: a delivered event at the Minute Sweep, for the clock's minute; `full` is whether the mark matched. -/
def sweepEvent (full : Bool) (s : State) : State :=
  let w := s.sweep
  match w.run, w.pending with
  | none, _ => grantNext { s with sweep := { w with run := some ⟨.permits 0, nowMinute s, full⟩ } }
  | some _, false => { s with sweep := { w with pending := true, pendingFull := full } }
  | some _, true =>
    let n := countUp16 w.overruns
    post { kind := .sweepOverrun, figures := .value n }
      { s with sweep := { w with overruns := n, pendingFull := w.pendingFull || full } }

/-- An OCCUPANCY-MINUTES counter of the works group would post COUNTER-OVERFLOW at this event (R169). -/
def worksCounterOverflows (s : State) : Bool :=
  (List.finRange 8).any fun c =>
    let k := look s.counters c
    decide (c.val ≤ 3) && k.select == .occupancyMinutes && k.notify && !k.sticky
      && decide (2 ^ 32 ≤ k.value.toNat + presencesSelected s k.filter)

/-- R4: an event delivered to the Minute Sweep and to the Event Counters, in no particular order. The order shows only where
both post to the works queue, and is then a free value (log entry 2). -/
def deliverEvent (full : Bool) (s : State) : State :=
  if s.sweep.run.isSome && s.sweep.pending && worksCounterOverflows s then
    let s' := { s with freeUsed := s.freeUsed + 1 }
    if Config.countersFirst s.freeUsed then sweepEvent full (countOccupancyMinutes s')
    else countOccupancyMinutes (sweepEvent full s')
  else countOccupancyMinutes (sweepEvent full s)

/-- R4: a minute-boundary event for the clock's minute. In BACKUP it is only counted. -/
def raiseEvent (s : State) : State :=
  match s.supply with
  | .normal => deliverEvent (s.mark.matchesTime s.clock) s
  | .backup => { s with backupMinutes := countUp16 s.backupMinutes }

/-! ### TICK (R2, R3) -/

/-- R125: a door's timer lowered by one tick. -/
def Door.tick (d : Door) : Door :=
  match d.state with
  | .released n => { d with state := .released (n - 1) }
  | .opened n => { d with state := .opened (n - 1) }
  | _ => d

/-- R86: a hold's ticks left lowered by one. -/
def Hold.tick (h : Hold) : Hold := { h with ticks := h.ticks - 1 }

/-- R2: a tick of the 1 Hz time base. -/
def execTick (s : State) : Host.Outcome State Fault Refusal :=
  let s' := { s with
    clock := s.clock.tick
    holds := mapAll (Option.map Hold.tick) s.holds
    doors := mapAll Door.tick s.doors }
  .next (if s.clock.second < 59 then s' else raiseEvent s')

/-! ### Requests -/

/-- R7: the 1 Hz time base restarted. -/
def rephase (s : State) : State := { s with tickPhase := s.tickPhase + 1 }

/-- R6: an accepted SET CLOCK. -/
def acceptSetClock (l : Link) (t : CivilTime) (s : State) : State :=
  let s := raiseEvent (rephase { s with clock := t, clockUnset := false })
  let s := writeJournal { kind := .clockSet, outcome := some (.status .done) } (post { kind := .clockSet } s)
  reply l .done .nothing s

/-- R6: SET CLOCK served. -/
def serveSetClock (l : Link) (t : CivilTime) (s : State) : State :=
  checked l [(!t.inRange, .badTime)] (acceptSetClock l t) s

/-- R6. -/
def execSetClock (l : Link) (t : CivilTime) (s : State) : Host.Outcome State Fault Refusal :=
  .next (atOnce l (.setClock t) (serveSetClock l t) s)

/-- R8: an ALIGN CLOCK's journal record, with the seconds held. It is written once the clock has been aligned and is stamped with the
aligned time, as R6 says for SET CLOCK and R8 does not say (DEDUCED, log entry 38). -/
def journalAlign (held : Nat) (s : State) : State :=
  writeJournal { kind := .clockSet, outcome := some (.status .done), value := some held } s

/-- R8: an accepted ALIGN CLOCK, by the seconds held. -/
def acceptAlignClock (l : Link) (s : State) : State :=
  let held := s.clock.second
  let s :=
    if held = 0 then s
    else if held < 30 then journalAlign held (rephase { s with clock := { s.clock with second := 0 } })
    else journalAlign held (raiseEvent (rephase { s with clock := s.clock.minutePart.next.withSecond 0 }))
  reply l .done .nothing s

/-- R8: ALIGN CLOCK served. -/
def serveAlignClock (l : Link) (s : State) : State := checked l [(s.clockUnset, .wrongState)] (acceptAlignClock l) s

/-- R8. -/
def execAlignClock (l : Link) (s : State) : Host.Outcome State Fault Refusal :=
  .next (atOnce l .alignClock (serveAlignClock l) s)

/-- R9: READ CLOCK served. -/
def serveReadClock (l : Link) (s : State) : State := reply l .done (.clock s.clock s.clock.weekday s.clockUnset) s

/-- R9. -/
def execReadClock (l : Link) (s : State) : Host.Outcome State Fault Refusal :=
  .next (atOnce l .readClock (serveReadClock l) s)

/-- R11: SET MARK served. -/
def serveSetMark (l : Link) (m : Mark) (s : State) : State :=
  checked l [(!m.inRange, .badTime)] (fun s => reply l .done (.mark m) { s with mark := m }) s

/-- R11. -/
def execSetMark (l : Link) (m : Mark) (s : State) : Host.Outcome State Fault Refusal :=
  .next (atOnce l (.setMark m) (serveSetMark l m) s)

end Sys2Proof.Machine
end

