-- ==== Sys2Proof/Machine/LayoutRequests.lean ====
section
/-! DEFINITION. The layout's requests (chapter 2): WRITE ROOM, WRITE MAP with its effects (R23), the freezes, the timings, the
configuration lock, and the four reads. -/

namespace Sys2Proof.Machine

/-- R29: a CONFIG-CHANGE record. -/
def journalConfig (st : Status) (room : Option RoomNo) (value : Nat) (s : State) : State :=
  writeJournal { kind := .configChange, room := room, outcome := some (.status st), value := some value } s

/-! ### WRITE ROOM (R17) -/

/-- Section 11.3: the class of a code. -/
def classOfCode? : Nat → Option RoomClass
  | 0 => some .a
  | 1 => some .b
  | 2 => some .c
  | _ => none

/-- R17: the record a WRITE ROOM carries, `none` for removed; its codes are defined. -/
def RoomBody.record (b : RoomBody) : Option RoomConfig :=
  if b.configured = 0 then none else (classOfCode? b.roomClass).map (⟨·, b.maximum⟩)

/-- A code that is not defined, which is refused with BAD-LENGTH (log entry 13). -/
def RoomBody.badCode (b : RoomBody) : Bool :=
  decide (1 < b.configured) || (b.configured == 1 && (classOfCode? b.roomClass).isNone)

/-- R17 check 2. -/
def RoomBody.badRoom (b : RoomBody) : Bool :=
  decide (63 < b.room) || match RoomBody.record b with
    | some c => decide (c.maximum < 1) || decide (16 < c.maximum) || (c.roomClass == .a && c.maximum == 1)
    | none => false

/-- R17 check 3: the room holds a presence or an open hold. -/
def roomOccupied (s : State) (room : Nat) : Bool :=
  match roomNo? room with
  | some r => !(s.roomState r).list.isEmpty || (s.hold r).isSome
  | none => false

/-- R17: an accepted WRITE ROOM. -/
def acceptWriteRoom (l : Link) (b : RoomBody) (s : State) : State :=
  match roomNo? b.room with
  | none => s
  | some r =>
    reply l .done .nothing
      (journalConfig .done (some r) (if (RoomBody.record b).isSome then 1 else 0)
        { s with rooms := put s.rooms r (RoomBody.record b) })

/-- R17: WRITE ROOM served in its turn. A code that is not defined is looked at after the lock (log entry 13). -/
def serveWriteRoom (l : Link) (b : RoomBody) (s : State) : State :=
  checked l [(s.locked, .locked), (RoomBody.badCode b, .badLength), (RoomBody.badRoom b, .badRoom),
    (roomOccupied s b.room, .occupied)] (acceptWriteRoom l b) s

/-- R17. -/
def execWriteRoom (l : Link) (b : RoomBody) (s : State) : Host.Outcome State Fault Refusal :=
  .next (inTurn l (.writeRoom b) (serveWriteRoom l b) s)

/-! ### WRITE MAP (R22, R23) -/

/-- Section 11.3: "empty" is a size of 0, with the first address and first room 0. -/
def MapBody.isEmpty (b : MapBody) : Bool := b.first == 0 && b.size == 0 && b.room == 0

/-- The descriptor a WRITE MAP carries. -/
def MapBody.descriptor (b : MapBody) : Option Descriptor := if MapBody.isEmpty b then none else some ⟨b.first, b.size, b.room⟩

/-- R22 check 2, which "empty" passes whatever the descriptor number. -/
def MapBody.badField (b : MapBody) : Bool :=
  !MapBody.isEmpty b && (decide (7 < b.number) || !Descriptor.valid ⟨b.first, b.size, b.room⟩)

/-- R22 check 3: the room range shares a room with another non-empty descriptor's. -/
def MapBody.clashes (b : MapBody) (s : State) : Bool :=
  !MapBody.isEmpty b && (List.finRange 8).any fun i =>
    decide (i.val ≠ b.number) && (look s.stationMap i).any fun e => Descriptor.sharesRoom ⟨b.first, b.size, b.room⟩ e

/-- R23, R121: every pending command and the pending read of a station discarded. The presences of a discarded RELEASE are resolved
within the WRITE MAP's turn, those of a door that is lost after it (log entry 32). -/
def discardAll (a : LoopAddr) (s : State) : State :=
  let s := discardDecision true a (clearRead a s)
  loseCarried a .mode (s.setStation a { s.station a with mode := none })

/-- A station put in a state with no misses. -/
def restation (a : LoopAddr) (x : StationState) (s : State) : State :=
  s.setStation a { s.station a with state := x, misses := 0 }

/-- R23: an address that ceases to be polled stays in the order of the pass in progress and is left out from the next. -/
def leaveOrder (a : LoopAddr) (s : State) : State :=
  if s.lastPolled.any fun b => decide (b < a) then { s with passKept := a :: s.passKept } else s

/-- R23, R103: the presences of a RELEASE pending at an address that comes to decode to another room are resolved as unused, since their
room has lost its entry station. The command and the read stay, as no rule discards them (DEDUCED, log entry 45). -/
def loseRoom (a : LoopAddr) (s : State) : State := loseCommand true (s.station a).decision s

/-- R23, R121: one address's change of case, from `before` to `after`. -/
def addressChanges (before after : MapOutcome) (a : LoopAddr) (s : State) : State :=
  if before = after then s
  else
    match before, after with
    | _, .unpolled => leaveOrder a (restation a .unknown (discardAll a s))
    | _, .conflict => restation a .conflict (discardAll a s)
    | .unpolled, .mapped _ _ => restation a .unknown s
    | .conflict, .mapped _ _ => restation a .unknown s
    | .mapped r _, .mapped q _ => if r = q then s else loseRoom a s

/-- R23: a room whose even address ceases to decode to it loses its entry station. -/
def entryChanges (before after : MapOutcome) (a : LoopAddr) (s : State) : State :=
  match before.room? with
  | some r => if isEntry a && after.room? != some r then loseEntryStation a r s else s
  | none => s

/-- R23: each address's case under the old descriptors compared with its case under the new, in ascending order of address. -/
def mapChangeEffects (old : Table 8 (Option Descriptor)) (s : State) : State :=
  (List.finRange 128).foldl (fun s a =>
    let before := outcomeUnder old s.rooms a
    let after := mapOutcome s a
    entryChanges before after a (addressChanges before after a s)) s

/-- R22: the map with the descriptor written. "Empty" for a number above 7 names no descriptor and leaves the map as it is (log entry
14). -/
def writtenMap (b : MapBody) (old : Table 8 (Option Descriptor)) : Table 8 (Option Descriptor) :=
  match index8? b.number with
  | some i => put old i (MapBody.descriptor b)
  | none => old

/-- R22: an accepted WRITE MAP. -/
def acceptWriteMap (l : Link) (b : MapBody) (s : State) : State :=
  let old := s.stationMap
  let s := journalConfig .done none (10 + b.number) { s with stationMap := writtenMap b old }
  reply l .done .nothing (mapChangeEffects old s)

/-- R22: WRITE MAP served in its turn. -/
def serveWriteMap (l : Link) (b : MapBody) (s : State) : State :=
  checked l [(s.locked, .locked), (MapBody.badField b, .badRoom), (MapBody.clashes b s, .badRoom)] (acceptWriteMap l b) s

/-- R22. -/
def execWriteMap (l : Link) (b : MapBody) (s : State) : Host.Outcome State Fault Refusal :=
  .next (inTurn l (.writeMap b) (serveWriteMap l b) s)

/-! ### Freezes (R25) -/

/-- Section 11.3: a class set's octet. -/
def classSetOf (o : Byte) : ClassSet := ⟨o.getLsbD 0, o.getLsbD 1, o.getLsbD 2⟩

/-- R25: an accepted SET FREEZE. -/
def acceptSetFreeze (l : Link) (b : FreezeBody) (s : State) : State :=
  match index8? b.entry with
  | none => s
  | some i =>
    reply l .done .nothing
      (journalConfig .done none (20 + b.entry)
        { s with freezes := put s.freezes i (some ⟨absMinute b.start, absMinute b.stop, classSetOf b.classes⟩) })

/-- R25: SET FREEZE served in its turn. A bit of the class set outside those defined fails the form check, which comes before check 1
(log entry 13). -/
def serveSetFreeze (l : Link) (b : FreezeBody) (s : State) : State :=
  checked l [(b.classes &&& 0xF8 != 0, .badLength), (decide (7 < b.entry) || b.classes == 0, .badRoom),
    (!b.start.inRange || !b.stop.inRange || decide (absMinute b.stop ≤ absMinute b.start), .badTime)] (acceptSetFreeze l b) s

/-- R25. -/
def execSetFreeze (l : Link) (b : FreezeBody) (s : State) : Host.Outcome State Fault Refusal :=
  .next (inTurn l (.setFreeze b) (serveSetFreeze l b) s)

/-- R25: an accepted CLEAR FREEZE. -/
def acceptClearFreeze (l : Link) (entry : Nat) (s : State) : State :=
  match index8? entry with
  | none => s
  | some i => reply l .done .nothing (journalConfig .done none (30 + entry) { s with freezes := put s.freezes i none })

/-- R25: CLEAR FREEZE served in its turn. -/
def serveClearFreeze (l : Link) (entry : Nat) (s : State) : State :=
  checked l [(decide (7 < entry), .badRoom)] (acceptClearFreeze l entry) s

/-- R25. -/
def execClearFreeze (l : Link) (entry : Nat) (s : State) : Host.Outcome State Fault Refusal :=
  .next (inTurn l (.clearFreeze entry) (serveClearFreeze l entry) s)

/-! ### Timings and the lock (R26 to R28) -/

/-- R27: a value raised or lowered into its range. -/
def clampTo (low high v : Nat) : Nat := max low (min high v)

/-- R26, R27: the five timings, each in its range. -/
def clampTimings (t : Timings) : Timings :=
  ⟨clampTo 1 30 t.release, clampTo 10 600 t.heldOpen, clampTo 10 120 t.pairing, clampTo 1 30 t.lone, clampTo 15 240 t.grace⟩

/-- R27: WRITE TIMINGS accepted. -/
def acceptWriteTimings (l : Link) (t : Timings) (s : State) : State :=
  let held := clampTimings t
  let st : Status := if held = t then .done else .clamped
  reply l st (.timings held) (journalConfig st none 40 { s with timings := held })

/-- R27: WRITE TIMINGS served. -/
def serveWriteTimings (l : Link) (t : Timings) (s : State) : State :=
  checked l [(s.locked, .locked)] (acceptWriteTimings l t) s

/-- R27. -/
def execWriteTimings (l : Link) (t : Timings) (s : State) : Host.Outcome State Fault Refusal :=
  .next (atOnce l (.writeTimings t) (serveWriteTimings l t) s)

/-- R28: LOCK CONFIGURATION served. -/
def serveLockConfiguration (l : Link) (s : State) : State :=
  reply l .done .nothing (if s.locked then s else journalConfig .done none 50 { s with locked := true })

/-- R28. -/
def execLockConfiguration (l : Link) (s : State) : Host.Outcome State Fault Refusal :=
  .next (atOnce l .lockConfiguration (serveLockConfiguration l) s)

/-! ### Reads (R30) -/

/-- R30: READ ROOM served. -/
def serveReadRoom (l : Link) (room : Nat) (s : State) : State :=
  match roomNo? room with
  | none => reply l .badRoom .nothing s
  | some r => reply l .done (.room (s.room r) (roomCount s r)) s

/-- R30. -/
def execReadRoom (l : Link) (room : Nat) (s : State) : Host.Outcome State Fault Refusal :=
  .next (atOnce l (.readRoom room) (serveReadRoom l room) s)

/-- R30: READ MAP served. -/
def serveReadMap (l : Link) (s : State) : State := reply l .done (.map s.stationMap.toList) s

/-- R30. -/
def execReadMap (l : Link) (s : State) : Host.Outcome State Fault Refusal :=
  .next (atOnce l .readMap (serveReadMap l) s)

/-- R30: READ FREEZE served. -/
def serveReadFreeze (l : Link) (s : State) : State := reply l .done (.freezes s.freezes.toList) s

/-- R30. -/
def execReadFreeze (l : Link) (s : State) : Host.Outcome State Fault Refusal :=
  .next (atOnce l .readFreeze (serveReadFreeze l) s)

/-- R30: READ TIMINGS served. -/
def serveReadTimings (l : Link) (s : State) : State := reply l .done (.timingsAndLock s.timings s.locked) s

/-- R30. -/
def execReadTimings (l : Link) (s : State) : Host.Outcome State Fault Refusal :=
  .next (atOnce l .readTimings (serveReadTimings l) s)

end Sys2Proof.Machine
end

