-- ==== Sys2Proof/Machine/PermitRequests.lean ====
section
/-! DEFINITION. The permit requests (chapter 3): drafting, amending, standing, ending, purging, reading and listing. -/

namespace Sys2Proof.Machine

/-! ### Looking up and recording -/

/-- Section 11.3: the permit state of a code. -/
def permitStateOfCode? : Nat → Option PermitState
  | 0 => some .vacant
  | 1 => some .pending
  | 2 => some .active
  | 3 => some .provisional
  | 4 => some .suspended
  | 5 => some .lapsed
  | 6 => some .expired
  | 7 => some .revoked
  | 8 => some .closed
  | _ => none

/-- The state a slot is in (R32). -/
def slotState (s : State) (i : SlotNo) : PermitState :=
  match s.permit i with
  | none => .vacant
  | some p => p.standing.state

/-- R33: a standing is live-or-held. -/
def Standing.liveOrHeld : Standing → Bool
  | .ended _ _ => false
  | _ => true

/-- R37: the slot that holds a permit number, searched among the non-VACANT slots. -/
def findPermit (s : State) (number : Nat) : Option SlotNo :=
  (List.finRange 256).find? fun i => (s.permit i).any (·.number == number)

/-- R37: the lookup check, then the rest of the request on the permit found. -/
def lookup (l : Link) (number : Nat) (found : SlotNo → Permit → State → State) (s : State) : State :=
  match findPermit s number with
  | none => reply l .noSuchPermit .nothing s
  | some i =>
    match s.permit i with
    | none => reply l .noSuchPermit .nothing s
    | some p => found i p s

/-- R38: a PERMIT-CHANGE record of permit `p`, as it stands after the change, in slot `i`. -/
def journalChange (i : SlotNo) (old new : PermitState) (p : Permit) (source : Source) (s : State) : State :=
  writeJournal
    { kind := .permitChange, badge := some p.badge, permit := some p.number, outcome := some (.permit new)
      change := some ⟨i, old, source, p.revision⟩ } s

/-- R38: a permit record replaced, with its PERMIT-CHANGE record. -/
def changePermit (i : SlotNo) (old : PermitState) (p : Permit) (source : Source) (s : State) : State :=
  journalChange i old p.standing.state p source (s.setPermit i (some p))

/-- R38, R49, R140: a slot made VACANT, with its PERMIT-CHANGE record. The revision is the discarded record's (log entry 17). -/
def vacate (i : SlotNo) (p : Permit) (source : Source) (s : State) : State :=
  journalChange i p.standing.state .vacant p source (s.setPermit i none)

/-- R34: a permit put in a terminal state at a minute; what a suspension added is removed, all else is kept. -/
def Permit.finished (p : Permit) (how : Ending) (minute : Nat) : Permit := { p with standing := .ended how minute }

/-- R47, R139, R147: the LAPSED notice of a permit. -/
def postLapsed (p : Permit) (s : State) : State := post { kind := .lapsed, badge := some p.badge, permit := some p.number } s

/-! ### The content of a draft or an amend (R39, R40, R42) -/

/-- The fields that a draft and an amend both carry, as clamped by R40. -/
structure PermitContent where
  rooms : List RoomNo
  spanStart : Nat
  spanEnd : Nat
  pattern : Option Pattern
  role : Role
  escort : Bool
  clamped : Bool
deriving DecidableEq, Repr

/-- R37: the tail of the body disagrees with itself: a room count outside 1 to 8 or not that of the rooms carried, a pattern
carried unflagged or flagged and not carried, or a weekday set with bit 7 (log entry 13). -/
def badTail (flags : Byte) (pattern : Option PatternBody) (count : Nat) (rooms : List Nat) : Bool :=
  decide (count < 1) || decide (8 < count) || decide (count ≠ rooms.length) || (pattern.isSome != flags.getLsbD 4)
    || pattern.any (·.weekdays.getLsbD 7)

/-- R39 check 4: a room outside 0 to 63, not configured, or named twice. -/
def badRooms (s : State) (rooms : List Nat) : Bool :=
  (rooms.any fun r => ((roomNo? r).bind s.room).isNone) || !decide rooms.Nodup

/-- R39 check 5: a calendar field or a pattern minute out of range, or a span that does not start before it ends. -/
def badSpan (start stop : CivilMinute) (pattern : Option PatternBody) : Bool :=
  !start.inRange || !stop.inRange || (pattern.any fun k => decide (1439 < k.starts) || decide (1439 < k.ends))
    || decide (absMinute stop ≤ absMinute start)

/-- R40: the pattern as held; an empty weekday set makes it absent. -/
def heldPattern (pattern : Option PatternBody) : Option Pattern :=
  match pattern with
  | some k => if k.weekdays.setWidth 7 = 0 then none else some ⟨k.weekdays.setWidth 7, k.starts, k.ends⟩
  | none => none

/-- R39, R40, R42: the content carried, with both clamps applied. -/
def contentOf (flags : Byte) (start stop : CivilMinute) (pattern : Option PatternBody) (rooms : List Nat) : PermitContent where
  rooms := rooms.filterMap roomNo?
  spanStart := absMinute start
  spanEnd := min (absMinute stop) (absMinute start + Config.maxSpan)
  pattern := heldPattern pattern
  role := if flags.getLsbD 0 then .supervisor else .worker
  escort := flags.getLsbD 2
  clamped := decide (absMinute start + Config.maxSpan < absMinute stop) || (pattern.isSome && (heldPattern pattern).isNone)

/-- DONE, or CLAMPED where a clamp was applied. -/
def PermitContent.status (c : PermitContent) : Status := if c.clamped then .clamped else .done

/-! ### DRAFT PERMIT (R39 to R41) -/

/-- The content of a draft. -/
def draftContent (b : DraftBody) : PermitContent := contentOf b.flags b.start b.stop b.pattern b.rooms

/-- The lowest-numbered VACANT slot. -/
def vacantSlot (s : State) : Option SlotNo := (List.finRange 256).find? fun i => (s.permit i).isNone

/-- R40: the slot a draft would use. -/
def draftSlot (b : DraftBody) (s : State) : Option SlotNo := if b.flags.getLsbD 3 then vacantSlot s else some b.slot

/-- R33: how many permits of a badge are live-or-held. -/
def liveOrHeldOf (s : State) (badge : Nat) : Nat :=
  (s.permits.toList.filter fun p => p.any fun q => q.badge == badge && q.standing.liveOrHeld).length

/-- R37, R39, R40: a draft's checks in their order. CLOCK-UNSET is read when the request is served, the current minute is that of its
turn's grant (DESIGN CHOICE, log entry 44). -/
def draftChecks (b : DraftBody) (s : State) : List (Bool × Status) :=
  [(badTail b.flags b.pattern b.count b.rooms || b.flags &&& 0xE0 != 0 || b.permit == 0 || b.firm == 0 || decide (999 < b.firm)
      || b.badge == 0, .badLength),
    (s.clockUnset, .badTime),
    ((findPermit s b.permit).isSome, .duplicate),
    ((vacantSlot s).isNone, .tableFull),
    (!b.flags.getLsbD 3 && (s.permit b.slot).isSome, .wrongState),
    (badRooms s b.rooms, .badRoom),
    (badSpan b.start b.stop b.pattern, .badTime),
    (decide ((draftContent b).spanEnd ≤ turnMinute s), .alreadyOver),
    (decide (Config.badgeLimit ≤ liveOrHeldOf s b.badge), .badgeLimit)]

/-- R41: the record an accepted draft fills its slot with. -/
def draftedPermit (b : DraftBody) (s : State) : Permit :=
  let c := draftContent b
  let urgent := b.flags.getLsbD 1
  { number := b.permit, revision := 0, standing := if urgent then .provisional else .pending, firm := b.firm, badge := b.badge
    role := c.role, rooms := c.rooms, spanStart := c.spanStart, spanEnd := c.spanEnd, pattern := c.pattern, urgent := urgent
    escort := c.escort, drafted := turnMinute s, graceEnd := if urgent then some (turnMinute s + s.timings.grace) else none
    countersigned := none }

/-- R41: an accepted draft. -/
def acceptDraft (l : Link) (b : DraftBody) (s : State) : State :=
  match draftSlot b s with
  | none => s
  | some i =>
    let p := draftedPermit b s
    let t := changePermit i .vacant p .works s
    let t := if p.urgent then
        post { kind := .provisionalIssued, badge := some p.badge, permit := some p.number, figures := .value s.timings.grace } t
      else t
    reply l (draftContent b).status (.drafted i p.revision p.standing.state p.graceEnd) (retestHolds i p.badge t)

/-- R39: DRAFT PERMIT served in its turn. -/
def serveDraftPermit (l : Link) (b : DraftBody) (s : State) : State := checked l (draftChecks b s) (acceptDraft l b) s

/-- R39 to R41. -/
def execDraftPermit (l : Link) (b : DraftBody) (s : State) : Host.Outcome State Fault Refusal :=
  .next (inTurn l (.draftPermit b) (serveDraftPermit l b) s)

/-! ### AMEND PERMIT (R42 to R44) -/

/-- The content of an amend. -/
def amendContent (b : AmendBody) : PermitContent := contentOf b.flags b.start b.stop b.pattern b.rooms

/-- R43: the new content only takes away from the permit. -/
def narrows (p : Permit) (c : PermitContent) : Bool :=
  c.rooms.all (fun r => decide (r ∈ p.rooms)) && decide (p.spanStart ≤ c.spanStart) && decide (c.spanEnd ≤ p.spanEnd)
    && decide (c.pattern = p.pattern) && (c.escort || !p.escort) && (c.role == .worker || p.role == .supervisor)

/-- R42: the five fields replaced whole and the revision incremented modulo 256. -/
def replaceContent (p : Permit) (c : PermitContent) : Permit :=
  { p with
    rooms := c.rooms, spanStart := c.spanStart, spanEnd := c.spanEnd, pattern := c.pattern, role := c.role, escort := c.escort
    revision := p.revision + 1 }

/-- R44: the permit after an accepted amend. -/
def amendedPermit (p : Permit) (c : PermitContent) : Permit :=
  let q := replaceContent p c
  if narrows p c then q
  else
    match p.standing with
    | .pending | .suspended .pending _ _ | .ended _ _ => q
    | .active => { q with standing := .pending, countersigned := none }
    | .provisional => { q with standing := .pending, graceEnd := none }
    | .suspended _ reason firmHeld =>
      { q with standing := .suspended .pending reason firmHeld, countersigned := none, graceEnd := none }

/-- R42: an amend's checks after the lookup, in their order. -/
def amendChecks (b : AmendBody) (p : Permit) (s : State) : List (Bool × Status) :=
  [(s.clockUnset, .badTime), (!p.standing.liveOrHeld, .wrongState), (badRooms s b.rooms, .badRoom),
    (badSpan b.start b.stop b.pattern, .badTime), (decide ((amendContent b).spanEnd ≤ turnMinute s), .alreadyOver)]

/-- R42, R44: an accepted amend. -/
def acceptAmend (l : Link) (b : AmendBody) (i : SlotNo) (p : Permit) (s : State) : State :=
  let q := amendedPermit p (amendContent b)
  reply l (amendContent b).status (.amended q.revision q.standing.state)
    (retestHolds i q.badge (changePermit i p.standing.state q .works s))

/-- R42: AMEND PERMIT served in its turn. -/
def serveAmendPermit (l : Link) (b : AmendBody) (s : State) : State :=
  checked l [(badTail b.flags b.pattern b.count b.rooms || b.flags &&& 0xEA != 0, .badLength)]
    (lookup l b.permit fun i p => checked l (amendChecks b p s) (acceptAmend l b i p)) s

/-- R42 to R44. -/
def execAmendPermit (l : Link) (b : AmendBody) (s : State) : Host.Outcome State Fault Refusal :=
  .next (inTurn l (.amendPermit b) (serveAmendPermit l b) s)

/-! ### COUNTERSIGN (R45) -/

/-- R45: the permit countersigned at a minute. -/
def Permit.countersignedAt (p : Permit) (minute : Nat) : Permit :=
  { p with standing := .active, countersigned := some minute, graceEnd := none }

/-- R45: COUNTERSIGN on the permit found. -/
def countersignFound (l : Link) (revision : Nat) (i : SlotNo) (p : Permit) (s : State) : State :=
  if p.revision.toNat ≠ revision then reply l .stale .nothing s
  else
    match p.standing with
    | .pending | .provisional =>
      let q := p.countersignedAt (turnMinute s)
      reply l .done (.countersigned .active q.revision)
        (retestHolds i q.badge (changePermit i p.standing.state q .security s))
    | .active => reply l .done (.countersigned .active p.revision) s
    | .suspended _ _ _ | .ended _ _ => reply l .wrongState .nothing s

/-- R45: COUNTERSIGN served in its turn. -/
def serveCountersign (l : Link) (permit revision : Nat) (s : State) : State := lookup l permit (countersignFound l revision) s

/-- R45. -/
def execCountersign (l : Link) (permit revision : Nat) (s : State) : Host.Outcome State Fault Refusal :=
  .next (inTurn l (.countersign permit revision) (serveCountersign l permit revision) s)

/-! ### SUSPEND and RESUME PERMIT (R46, R47) -/

/-- R46, R146: a permit suspended, its former state recorded; one already SUSPENDED keeps its return state. -/
def suspendedStanding (x : Standing) (reason : Nat) (firmHeld : Bool) : Option Standing :=
  match x with
  | .pending => some (.suspended .pending reason firmHeld)
  | .active => some (.suspended .active reason firmHeld)
  | .provisional => some (.suspended .provisional reason firmHeld)
  | .suspended back _ _ => some (.suspended back reason firmHeld)
  | .ended _ _ => none

/-- R46: SUSPEND PERMIT on the permit found. -/
def suspendFound (l : Link) (reason : Nat) (i : SlotNo) (p : Permit) (s : State) : State :=
  match suspendedStanding p.standing reason false with
  | none => reply l .wrongState .nothing s
  | some x =>
    reply l .done .nothing
      (retestHolds i p.badge (changePermit i p.standing.state { p with standing := x } .security s))

/-- R46: SUSPEND PERMIT served in its turn. -/
def serveSuspendPermit (l : Link) (permit reason : Nat) (s : State) : State :=
  checked l [(reason == 0, .badLength)] (lookup l permit (suspendFound l reason)) s

/-- R46. -/
def execSuspendPermit (l : Link) (permit reason : Nat) (s : State) : Host.Outcome State Fault Refusal :=
  .next (inTurn l (.suspendPermit permit reason) (serveSuspendPermit l permit reason) s)

/-- R47, R147: the permit after a resume at a minute, `none` where it is not SUSPENDED. A return state of PROVISIONAL is taken only
while the grace end lies later. -/
def resumedPermit (p : Permit) (minute : Nat) : Option Permit :=
  match p.standing with
  | .suspended .pending _ _ => some { p with standing := .pending }
  | .suspended .active _ _ => some { p with standing := .active }
  | .suspended .provisional _ _ =>
    if p.graceEnd.any fun g => decide (minute < g) then some { p with standing := .provisional }
    else some (p.finished .lapsed minute)
  | _ => none

/-- R47, R147: a resumed permit put in its slot, with its PERMIT-CHANGE record, a LAPSED notice where it lapsed, and the holds
re-tested. -/
def settleResumed (i : SlotNo) (q : Permit) (s : State) : State :=
  let s := changePermit i .suspended q .security s
  retestHolds i q.badge (if q.standing.state == .lapsed then postLapsed q s else s)

/-- R47: RESUME PERMIT on the permit found. -/
def resumeFound (l : Link) (i : SlotNo) (p : Permit) (s : State) : State :=
  match resumedPermit p (turnMinute s) with
  | none => reply l .wrongState .nothing s
  | some q => reply l .done (.resumed q.standing.state) (settleResumed i q s)

/-- R47: RESUME PERMIT served in its turn. -/
def serveResumePermit (l : Link) (permit : Nat) (s : State) : State := lookup l permit (resumeFound l) s

/-- R47. -/
def execResumePermit (l : Link) (permit : Nat) (s : State) : Host.Outcome State Fault Refusal :=
  .next (inTurn l (.resumePermit permit) (serveResumePermit l permit) s)

/-! ### REVOKE, CLOSE and PURGE PERMIT (R48, R49) -/

/-- R34, R48: REVOKE or CLOSE on the permit found. -/
def finishFound (l : Link) (how : Ending) (source : Source) (i : SlotNo) (p : Permit) (s : State) : State :=
  if p.standing.liveOrHeld then
    reply l .done .nothing
      (retestHolds i p.badge (changePermit i p.standing.state (p.finished how (turnMinute s)) source s))
  else reply l .wrongState .nothing s

/-- R48: REVOKE PERMIT served in its turn. -/
def serveRevokePermit (l : Link) (permit : Nat) (s : State) : State := lookup l permit (finishFound l .revoked .security) s

/-- R48. -/
def execRevokePermit (l : Link) (permit : Nat) (s : State) : Host.Outcome State Fault Refusal :=
  .next (inTurn l (.revokePermit permit) (serveRevokePermit l permit) s)

/-- R48: CLOSE PERMIT served in its turn. -/
def serveClosePermit (l : Link) (permit : Nat) (s : State) : State := lookup l permit (finishFound l .closed .works) s

/-- R48. -/
def execClosePermit (l : Link) (permit : Nat) (s : State) : Host.Outcome State Fault Refusal :=
  .next (inTurn l (.closePermit permit) (serveClosePermit l permit) s)

/-- R49: PURGE PERMIT on the permit found. -/
def purgeFound (l : Link) (i : SlotNo) (p : Permit) (s : State) : State :=
  if p.standing.liveOrHeld then reply l .wrongState .nothing s
  else if slotReferred s i then reply l .occupied .nothing s
  else reply l .done .nothing (retestHolds i p.badge (vacate i p .works s))

/-- R49: PURGE PERMIT served in its turn. -/
def servePurgePermit (l : Link) (permit : Nat) (s : State) : State := lookup l permit (purgeFound l) s

/-- R49. -/
def execPurgePermit (l : Link) (permit : Nat) (s : State) : Host.Outcome State Fault Refusal :=
  .next (inTurn l (.purgePermit permit) (servePurgePermit l permit) s)

/-! ### READ PERMIT and LIST PERMITS (R50, R51) -/

/-- R50: the reply for a permit found. -/
def readFound (l : Link) (i : SlotNo) (p : Permit) (s : State) : State :=
  reply l .done (.permit i p (((findSlot s i).bind s.presence).map fun x => (x.room, x.state))) s

/-- R50: READ PERMIT served in its turn. -/
def serveReadPermit (l : Link) (which : PermitRef) (s : State) : State :=
  match which with
  | .number n => lookup l n (readFound l) s
  | .slot i =>
    match s.permit i with
    | none => reply l .noSuchPermit .nothing s
    | some p => readFound l i p s

/-- R50. -/
def execReadPermit (l : Link) (which : PermitRef) (s : State) : Host.Outcome State Fault Refusal :=
  .next (inTurn l (.readPermit which) (serveReadPermit l which) s)

/-- R51: a filter's code is not defined (R37, log entry 13). A badge of 0 or a firm outside 1 to 999 in a filter matches nothing and is
not refused (log entry 31). -/
def badFilter : ListFilter → Bool
  | .undefined => true
  | .state c => (permitStateOfCode? c).isNone
  | _ => false

/-- R51: a slot matches a filter. -/
def filterMatches (s : State) (f : ListFilter) (i : SlotNo) : Bool :=
  match f with
  | .all => (s.permit i).isSome
  | .badge b => (s.permit i).any (·.badge == b)
  | .firm x => (s.permit i).any (·.firm == x)
  | .state c => permitStateOfCode? c == some (slotState s i)
  | .undefined => false

/-- R51: the slots found among those left to examine, at most `k`, and the next slot. -/
def listFrom (hit : SlotNo → Bool) : Nat → List SlotNo → List SlotNo × Nat
  | _, [] => ([], 256)
  | k, i :: is =>
    if hit i then
      if k ≤ 1 then ([i], i.val + 1)
      else
        let x := listFrom hit (k - 1) is
        (i :: x.1, x.2)
    else listFrom hit k is

/-- R51: the count as taken, 1 to 16. -/
def listCount (count : Nat) : Nat := clampTo 1 16 count

/-- R51: LIST PERMITS served in its turn. -/
def serveListPermits (l : Link) (start : SlotNo) (f : ListFilter) (count : Nat) (s : State) : State :=
  checked l [(badFilter f, .badLength)]
    (fun s =>
      let x := listFrom (filterMatches s f) (listCount count) ((List.finRange 256).drop start.val)
      reply l (if listCount count = count then .done else .clamped) (.slots x.1 x.2) s) s

/-- R51. -/
def execListPermits (l : Link) (start : SlotNo) (f : ListFilter) (count : Nat) (s : State) : Host.Outcome State Fault Refusal :=
  .next (inTurn l (.listPermits start f count) (serveListPermits l start f count) s)

end Sys2Proof.Machine
end

