-- ==== Sys2Proof/Machine/Decisions.lean ====
section
/-! DEFINITION. The Decision Unit (chapter 5): entry decisions with their holds and partners, exit decisions, and a hold's
deadline. -/

namespace Sys2Proof.Machine

/-- R75: the clock's reading at the start of the turn. -/
def turnReading (s : State) : CivilTime :=
  match s.turn with
  | some t => t.began
  | none => s.clock

/-! ### Answers (R76, R85) -/

/-- R76: a RELEASE with the release time held now. -/
def queueRelease (a : LoopAddr) (minutes : Nat) (carries : List PoolIx) (s : State) : State :=
  queueDecision true a (.release s.timings.release minutes carries) s

/-- R76, R85: an entry read refused: REFUSE queued, ENTRY-DENY journalled, the denial reported. -/
def deny (a : LoopAddr) (room : Option RoomNo) (badge : Nat) (why : Reason) (permit : Option Nat) (s : State) : State :=
  report (.denial why) room 1
    (writeJournal
      { kind := .entryDeny, station := some a, room := room, badge := some badge, permit := permit, outcome := some (.reason why) }
      (queueDecision true a (.refuse why) s))

/-- R85: an ENTRY-GRANT, RE-ENTRY or HOLD-OPEN record. -/
def journalEntry (kind : JournalKind) (a : LoopAddr) (r : RoomNo) (badge : Nat) (slot : SlotNo) (value : Nat) (s : State) : State :=
  writeJournal
    { kind := kind, station := some a, room := some r, badge := some badge, permit := permitNumber s slot, value := some value } s

/-! ### Step 4, permits (R78, R79) -/

/-- The permit chosen at step 4 with what later steps use of it (R78). -/
structure Chosen where
  slot : SlotNo
  role : Role
  escort : Bool
  validityEnd : Nat
  minutes : Nat
deriving DecidableEq, Repr

/-- R78: the candidates of a badge, ascending by slot. -/
def candidates (s : State) (badge : Nat) : List (SlotNo × Permit) :=
  (List.finRange 256).filterMap fun i => ((s.permit i).filter (·.badge == badge)).map fun p => (i, p)

/-- R78: the eligible candidate with the latest validity end, the lowest slot among equals. -/
def choose (s : State) (r : RoomNo) (n : Nat) : List (SlotNo × Permit) → Option Chosen → Option Chosen
  | [], best => best
  | (i, p) :: rest, best =>
    match evaluate s p r n .entry with
    | .fails _ _ => choose s r n rest best
    | .passes e m =>
      if best.any fun c => decide (e ≤ c.validityEnd) then choose s r n rest best
      else choose s r n rest (some ⟨i, p.role, p.escort, e, m⟩)

/-- R79: the failure at the highest stage, the lowest slot among equals: its reason, stage and permit number. -/
def furthest (s : State) (r : RoomNo) (n : Nat) :
    List (SlotNo × Permit) → Option (Reason × Nat × Nat) → Option (Reason × Nat × Nat)
  | [], best => best
  | (_, p) :: rest, best =>
    match evaluate s p r n .entry with
    | .passes _ _ => furthest s r n rest best
    | .fails why stage =>
      if best.any fun x => decide (stage ≤ x.2.1) then furthest s r n rest best
      else furthest s r n rest (some (why, stage, p.number))

/-- R78, R79: step 4. A chosen permit goes on; otherwise the read is refused with the furthest candidate's reason. -/
def withPermit (a : LoopAddr) (r : RoomNo) (badge : Nat) (go : Chosen → State → State) (s : State) : State :=
  let cs := candidates s badge
  match choose s r (turnMinute s) cs none with
  | some c => go c s
  | none =>
    match furthest s r (turnMinute s) cs none with
    | some (why, _, number) => deny a (some r) badge why (some number) s
    | none => deny a (some r) badge .noPermit none s

/-! ### Step 5, passback (R80, R81) -/

/-- R80: the badge is the first badge of a hold open at a room other than `r`. -/
def holdsElsewhere (s : State) (r : RoomNo) (badge : Nat) : Bool :=
  (List.finRange 64).any fun q => decide (q ≠ r) && (s.hold q).any (·.badge == badge)

/-- R81: the seconds the Door Supervisor reports remaining of the running release. -/
def secondsRemaining (s : State) (r : RoomNo) : Nat :=
  match (s.door r).state with
  | .released n => n
  | _ => (Config.secondsWithoutRelease s.freeUsed).val + 1

/-- R81: a repeated read of an ARRIVING badge. Between the TICK that brings the release's ticks to 0 and RELEASE_END the seconds
remaining are 0 (log entry 20). -/
def repeatArriving (a : LoopAddr) (r : RoomNo) (c : Chosen) (s : State) : State :=
  match (s.door r).state with
  | .released n => queueDecision true a (.release n c.minutes []) s
  | _ => queueDecision true a (.release (secondsRemaining s r) c.minutes []) { s with freeUsed := s.freeUsed + 1 }

/-- R81: a re-entry of the presence in record `i`. -/
def reEnter (a : LoopAddr) (r : RoomNo) (badge : Nat) (c : Chosen) (i : PoolIx) (p : Presence) (s : State) : State :=
  let s := (uncarry [i] s).setPresence i (some { p with state := .inside, slot := c.slot })
  let s := queueRelease a c.minutes [] s
  reexamine r [] (report .grants (some r) 1 (journalEntry .reEntry a r badge c.slot c.minutes s))

/-- R80: an UNVERIFIED presence in another room yields to the read: removed and journalled RECONCILED-AUTO. -/
def yieldPresence (i : PoolIx) (p : Presence) (s : State) : State :=
  reexamine p.room (supervisorBadge s i)
    (writeJournal
      { kind := .reconciledAuto, room := some p.room, badge := some p.badge, permit := permitNumber s p.slot } (removePresence i s))

/-- R80, R81: step 5; `here` takes the badge's presence in the read's own room, `go` continues at step 6. -/
def passback (a : LoopAddr) (r : RoomNo) (badge : Nat) (here : PoolIx → Presence → State → State) (go : State → State)
    (s : State) : State :=
  match findBadge s badge with
  | none => if holdsElsewhere s r badge then deny a (some r) badge .passback none s else go s
  | some i =>
    match s.presence i with
    | none => go s
    | some p =>
      if p.room = r then here i p s
      else if p.state = .unverified then go (yieldPresence i p s)
      else deny a (some r) badge .passback none s

/-! ### Steps 6 and 7 (R82 to R84, R86) -/

/-- R82: whether a class A room is empty, so that a companion is needed. -/
def needsCompanion (s : State) (r : RoomNo) : Bool :=
  (s.room r).any (·.roomClass == .a) && (s.roomState r).list.isEmpty

/-- R82: whether the chosen permit needs an escort that the room does not hold. -/
def needsEscortIn (s : State) (r : RoomNo) (c : Chosen) : Bool :=
  c.escort && c.role == .worker && !(roomPresences s r).any (isSupervisor s)

/-- R82: step 6. -/
def needOf (s : State) (r : RoomNo) (c : Chosen) : Option Needs :=
  match needsCompanion s r, needsEscortIn s r c with
  | true, true => some .both
  | true, false => some .companion
  | false, true => some .escort
  | false, false => none

/-- R83: step 7's refusal for a number to admit, `none` where they fit. -/
def fullness (s : State) (r : RoomNo) (incoming : Nat) : Option Reason :=
  if (s.room r).any fun c => decide (c.maximum < roomCount s r + incoming) then some .roomFull
  else if Config.poolCapacity < poolCount s + incoming then some .poolFull
  else none

/-- R84: the presence a grant adds. -/
def arrival (r : RoomNo) (badge : Nat) (slot : SlotNo) (s : State) : Presence :=
  ⟨badge, slot, r, turnMinute s, .arriving, false⟩

/-- R84, R85: a grant to one person. -/
def grantAlone (a : LoopAddr) (r : RoomNo) (badge : Nat) (c : Chosen) (s : State) : State :=
  let x := addPresence (arrival r badge c.slot s) s
  let s := queueRelease a c.minutes x.2 x.1
  reexamine r [] (report .grants (some r) 1 (journalEntry .entryGrant a r badge c.slot c.minutes s))

/-- R86: a hold opened. -/
def openHold (a : LoopAddr) (r : RoomNo) (badge : Nat) (c : Chosen) (needs : Needs) (s : State) : State :=
  let s := s.setHold r (some ⟨badge, c.slot, c.role, c.minutes, needs, turnReading s, s.timings.pairing⟩)
  journalEntry .holdOpen a r badge c.slot needs.code (queueDecision true a .wait s)

/-- R82 to R84, R86: steps 6 and 7, and the grant or the hold. -/
def admitOrHold (a : LoopAddr) (r : RoomNo) (badge : Nat) (c : Chosen) (s : State) : State :=
  match needOf s r c with
  | none =>
    match fullness s r 1 with
    | some why => deny a (some r) badge why none s
    | none => grantAlone a r badge c s
  | some needs =>
    match fullness s r 2 with
    | some why => deny a (some r) badge why none s
    | none => openHold a r badge c needs s

/-- R78 to R86: steps 4 to 7 at a room with no hold. -/
def decideOpen (a : LoopAddr) (r : RoomNo) (badge : Nat) (s : State) : State :=
  withPermit a r badge (fun c s =>
    passback a r badge
      (fun i p s => if p.state = .arriving then repeatArriving a r c s else reEnter a r badge c i p s)
      (admitOrHold a r badge c) s) s

/-! ### Partner candidates (R87 to R89) -/

/-- R88: an escort requirement that the pair leaves unmet. -/
def escortUnmet (h : Hold) (c : Chosen) : Bool :=
  (h.needs != .companion && c.role != .supervisor) || (c.escort && c.role == .worker && h.role != .supervisor)

/-- R89: the pair admitted on one release. -/
def admitPair (a : LoopAddr) (r : RoomNo) (h : Hold) (badge : Nat) (c : Chosen) (s : State) : State :=
  let x := addPresence (arrival r h.badge h.slot s) (s.setHold r none)
  let y := addPresence (arrival r badge c.slot s) x.1
  let s := queueRelease a (min h.minutes c.minutes) (x.2 ++ y.2) y.1
  let s := journalEntry .entryGrant a r h.badge h.slot h.minutes s
  let s := journalEntry .entryGrant a r badge c.slot c.minutes s
  reexamine r [] (report .grants (some r) 2 s)

/-- R88, R89: the pair test. -/
def testPair (a : LoopAddr) (r : RoomNo) (h : Hold) (badge : Nat) (c : Chosen) (s : State) : State :=
  if escortUnmet h c then deny a (some r) badge .noEscort none s
  else
    match fullness s r 2 with
    | some why => deny a (some r) badge why none s
    | none => admitPair a r h badge c s

/-- R87: the state of a badge's presence in a room, if it has one there. -/
def presenceIn (s : State) (r : RoomNo) (badge : Nat) : Option PresenceState :=
  (roomPresences s r).findSome? fun p => if p.badge = badge then some p.state else none

/-- R87: a read at a room where a hold is open. -/
def decidePartner (a : LoopAddr) (r : RoomNo) (h : Hold) (badge : Nat) (s : State) : State :=
  if h.badge = badge then queueDecision true a .wait s
  else
    match presenceIn s r badge with
    | some .arriving => withPermit a r badge (fun c s => repeatArriving a r c s) s
    | some _ => deny a (some r) badge .passback none s
    | none =>
      withPermit a r badge (fun c s =>
        passback a r badge (fun _ _ s => deny a (some r) badge .passback none s) (testPair a r h badge c) s) s

/-! ### The entry decision (R75, R77) -/

/-- R75, R77: an entry read decided. One whose address is no longer polled is dropped. -/
def decideEntry (a : LoopAddr) (badge : Nat) (s : State) : State :=
  match mapOutcome s a with
  | .unpolled => s
  | .conflict => deny a none badge .mapConflict none s
  | .mapped r false => deny a (some r) badge .unmapped none s
  | .mapped r true =>
    if s.clockUnset then deny a (some r) badge .clockUnset none s
    else if s.evacuating then deny a (some r) badge .evacuation none s
    else
      match s.hold r with
      | some h => decidePartner a r h badge s
      | none => decideOpen a r badge s

/-! ### The exit decision (R94 to R96) -/

/-- R95, R96: an unmatched exit read recorded. -/
def unmatched (a : LoopAddr) (room : Option RoomNo) (badge : Nat) (why : Option Reason) (s : State) : State :=
  post { kind := .exitUnmatched, station := some a, room := room, badge := some badge }
    (writeJournal
      { kind := .exitUnmatched, station := some a, room := room, badge := some badge, outcome := why.map .reason } s)

/-- R95: an exit read of a badge present in this room. -/
def leave (a : LoopAddr) (r : RoomNo) (i : PoolIx) (s : State) : State :=
  reexamine r [] (queueRelease a 0 [i] (setPresenceState i .leaving (uncarry [i] s)))

/-- R95: an exit read of a badge present in another room; both rooms are re-examined (R105). -/
def mismatch (a : LoopAddr) (r : RoomNo) (i : PoolIx) (p : Presence) (s : State) : State :=
  let gone := supervisorBadge s i
  let s := queueRelease a 0 [] (removePresence i s)
  let s := writeJournal
    { kind := .exitMismatch, station := some a, room := some r, badge := some p.badge, value := some p.room.val } s
  let s := post
    { kind := .exitMismatch, station := some a, room := some r, badge := some p.badge, figures := .value p.room.val } s
  reexamine r [] (reexamine p.room gone s)

/-- R75, R94: an exit read decided. -/
def decideExit (a : LoopAddr) (badge : Nat) (s : State) : State :=
  match mapOutcome s a with
  | .unpolled => s
  | .conflict => unmatched a none badge (some .mapConflict) (queueRelease a 0 [] s)
  | .mapped r false => unmatched a (some r) badge (some .unmapped) (queueRelease a 0 [] s)
  | .mapped r true =>
    match findBadge s badge with
    | none => unmatched a (some r) badge none (queueRelease a 0 [] s)
    | some i =>
      match s.presence i with
      | none => s
      | some p => if p.room = r then leave a r i s else mismatch a r i p s

/-! ### The decision's end (R120) -/

/-- R120: at the end of a decision the pending read becomes ANSWERED, or is cleared where that was asked meanwhile or the read was
dropped. -/
def endRead (a : LoopAddr) (clearAfter : Bool) (s : State) : State :=
  let x := s.station a
  if clearAfter || !(mapOutcome s a).isPolled then s.setStation a { x with read := none }
  else s.setStation a { x with read := x.read.map fun q => { q with phase := .answered } }

/-- R74, R75: the decision of a read in the turn in progress. -/
def serveDecision (rd : Read) (clearAfter : Bool) (s : State) : State :=
  endRead rd.address clearAfter
    (if isEntry rd.address then decideEntry rd.address rd.badge s else decideExit rd.address rd.badge s)

/-- R77: an entry decision, in the turn granted for it. With no such turn in progress there is nothing to decide (log entry 6). -/
def execEntryDecision (s : State) : Host.Outcome State Fault Refusal :=
  .next (match s.turn with
    | some ⟨.decision rd clearAfter, _⟩ => if isEntry rd.address then endTurn (serveDecision rd clearAfter s) else s
    | _ => s)

/-- R94: an exit decision, in the turn granted for it (log entry 6). -/
def execExitDecision (s : State) : Host.Outcome State Fault Refusal :=
  .next (match s.turn with
    | some ⟨.decision rd clearAfter, _⟩ => if isEntry rd.address then s else endTurn (serveDecision rd clearAfter s)
    | _ => s)

/-! ### A hold's deadline (R90) -/

/-- R90: the reason a hold's deadline refuses its first badge with. -/
def deadlineReason (n : Needs) : Reason :=
  match n with
  | .escort => .noEscort
  | .companion | .both => .noCompanion

/-- R90: a hold closed at its deadline. HOLD-TIMEOUTS and DENIALS are two reports, in that order (DESIGN CHOICE, log entry 50). -/
def closeHold (r : RoomNo) (h : Hold) (s : State) : State :=
  let why := deadlineReason h.needs
  let s := refuseAtEntry false r why (s.setHold r none)
  let s := holdRecord .holdTimeout (entryStation s r) r h (some why) s
  report (.denial why) (some r) 1 (report .holdTimeout (some r) 1 s)

/-- R90: the deadline of a room's hold, once its ticks have run out (log entry 6). -/
def execHoldDeadline (r : RoomNo) (s : State) : Host.Outcome State Fault Refusal :=
  .next (match s.supply, s.hold r with
    | .normal, some h => if h.ticks = 0 then closeHold r h s else s
    | _, _ => s)

end Sys2Proof.Machine
end

