-- ==== Sys2Proof/Machine/OccupancyRequests.lean ====
section
/-! DEFINITION. The requests on the occupancy, the stations and the doors (R112, R113, R124, R131). -/

namespace Sys2Proof.Machine

/-! ### READ OCCUPANCY (R112) -/

/-- R112: what the reply gives of one presence. -/
def occupantView (s : State) (i : PoolIx) (p : Presence) : OccupantView where
  badge := p.badge
  permit := permitNumber s p.slot
  slot := p.slot
  role := if isSupervisor s p then .supervisor else .worker
  escort := (permitOf s p).any (·.escort)
  state := p.state
  entry := p.entry
  overstay := p.overstay
  carried := isCarried s i
  tied := isTied s i

/-- R112: a room's occupants in list order. -/
def occupants (s : State) (r : RoomNo) : List OccupantView :=
  (s.roomState r).list.filterMap fun i => (s.presence i).map (occupantView s i)

/-- R112: the lone state reported: the lone badge, its lone-since and the reported flag. -/
def loneView (s : State) (r : RoomNo) : Option (Nat × Nat × Bool) :=
  (s.roomState r).lone.bind fun l => (s.presence l.who).map fun p => (p.badge, l.since, l.reported)

/-- R112: the reply for a room. -/
def roomOccupancyReply (s : State) (r : RoomNo) : ReplyContent :=
  .roomOccupancy (s.room r) (roomCount s r) (s.roomState r).uncertain (loneView s r) (occupants s r)

/-- R112: the reply for a badge, with its room and its position in the room's list, counted from 0 (log entry 33). -/
def badgeOccupancyReply (s : State) (badge : Nat) : ReplyContent :=
  .badgeOccupancy ((findBadge s badge).bind fun i =>
    (s.presence i).map fun p => (occupantView s i p, p.room, (s.roomState p.room).list.idxOf i))

/-- R112: READ OCCUPANCY served in its turn. -/
def serveReadOccupancy (l : Link) (o : OccupancyRef) (s : State) : State :=
  match o with
  | .badge b => checked l [(b == 0, .badLength)] (fun s => reply l .done (badgeOccupancyReply s b) s) s
  | .room n =>
    match roomNo? n with
    | none => reply l .badRoom .nothing s
    | some r => reply l .done (roomOccupancyReply s r) s

/-- R112. -/
def execReadOccupancy (l : Link) (o : OccupancyRef) (s : State) : Host.Outcome State Fault Refusal :=
  .next (inTurn l (.readOccupancy o) (serveReadOccupancy l o) s)

/-! ### RECONCILE ROOM (R113) -/

/-- R113: one presence removed and journalled RECONCILE; the second part collects the supervisors removed. -/
def reconcileOne (i : PoolIx) (x : State × List Nat) : State × List Nat :=
  match x.1.presence i with
  | none => x
  | some p =>
    ⟨writeJournal
        { kind := .reconcile, room := some p.room, badge := some p.badge, permit := permitNumber x.1 p.slot
          value := some p.state.code } (removePresence i x.1),
      x.2 ++ supervisorBadge x.1 i⟩

/-- R113: the presences named removed in their order, and the room re-examined once. -/
def reconcile (r : RoomNo) (who : List PoolIx) (s : State) : State :=
  let x := who.foldl (fun x i => reconcileOne i x) (s, [])
  reexamine r x.2 x.1

/-- R113: RECONCILE ROOM with a badge. -/
def reconcileBadge (l : Link) (r : RoomNo) (badge : Nat) (s : State) : State :=
  match (s.roomState r).list.filter fun i => (s.presence i).any (·.badge == badge) with
  | [] => reply l .empty (.reconciled 0) s
  | who => reply l .done (.reconciled 1) (reconcile r who s)

/-- R113: RECONCILE ROOM for ALL, which also clears the uncertain mark. -/
def reconcileAll (l : Link) (r : RoomNo) (s : State) : State :=
  let who := (s.roomState r).list
  let s := reconcile r who s
  reply l .done (.reconciled who.length) (s.setRoomState r { s.roomState r with uncertain := false })

/-- R113: RECONCILE ROOM served in its turn. The form check comes first (log entry 19). -/
def serveReconcileRoom (l : Link) (room : Nat) (badge : Option Nat) (s : State) : State :=
  checked l [(badge == some 0, .badLength), ((roomNo? room).isNone, .badRoom)]
    (fun s =>
      match roomNo? room, badge with
      | some r, some b => reconcileBadge l r b s
      | some r, none => reconcileAll l r s
      | none, _ => s) s

/-- R113. -/
def execReconcileRoom (l : Link) (room : Nat) (badge : Option Nat) (s : State) : Host.Outcome State Fault Refusal :=
  .next (inTurn l (.reconcileRoom room badge) (serveReconcileRoom l room badge) s)

/-! ### READ STATION and READ DOOR (R124, R131) -/

/-- R21, R124: the station record as reported, with the state it is held in. An address that is not polled is reported UNKNOWN with no
pending commands. -/
def stationView (s : State) (a : LoopAddr) : Station :=
  if (mapOutcome s a).isPolled then { s.station a with state := stationState s a }
  else { s.station a with state := .unknown, decision := none, mode := none }

/-- R124: READ STATION served. -/
def serveReadStation (l : Link) (address : Nat) (s : State) : State :=
  match loopAddr? address with
  | none => reply l .badRoom .nothing s
  | some a => reply l .done (.station (mapOutcome s a) a (stationView s a)) s

/-- R124. -/
def execReadStation (l : Link) (address : Nat) (s : State) : Host.Outcome State Fault Refusal :=
  .next (atOnce l (.readStation address) (serveReadStation l address) s)

/-- R131: the badges of a door's tied set, in order. -/
def tiedBadges (s : State) (r : RoomNo) : List Nat := ((s.door r).tied.filterMap s.presence).map (·.badge)

/-- R131: READ DOOR served. -/
def serveReadDoor (l : Link) (room : Nat) (s : State) : State :=
  match roomNo? room with
  | none => reply l .badRoom .nothing s
  | some r =>
    reply l .done
      (.door (s.door r).state (s.door r).contact (tiedBadges s r) s.evacuating s.evacuateTaken s.edgeCount (s.hold r)) s

/-- R131. -/
def execReadDoor (l : Link) (room : Nat) (s : State) : Host.Outcome State Fault Refusal :=
  .next (atOnce l (.readDoor room) (serveReadDoor l room) s)

end Sys2Proof.Machine
end

