-- ==== Sys2Proof/Machine/LoopEvents.lean ====
section
/-! DEFINITION. The events of the loop and the doors (chapter 7): POLL, a STATUS reply, a miss, the end of a release, the held-open
limit, and a resolution held during a turn. -/

namespace Sys2Proof.Machine

/-! ### POLL (R117, R118) -/

/-- R23, R117: the rest of the pass in progress, ascending: above the address last polled, those polled and those that ceased to be
during this pass. -/
def restOfPass (s : State) : List LoopAddr :=
  match s.lastPolled with
  | none => []
  | some b => (List.finRange 128).filter fun a => decide (b < a) && ((mapOutcome s a).isPolled || s.passKept.contains a)

/-- R23, R117: the address polled next, and the addresses that no longer polled still belong to its pass: the next of the pass in
progress, or else the lowest polled, with which the next pass begins. A loop that has been silent goes on with the pass it was in
(DESIGN CHOICE, log entry 55). -/
def nextPoll (s : State) : Option (LoopAddr × List LoopAddr) :=
  match restOfPass s with
  | a :: _ => some (a, s.passKept)
  | [] => (polledAddresses s).head?.map fun a => (a, [])

/-- R118: what a POLL to a station carries. -/
def carriedBy (x : Station) : Carried :=
  if x.mode.isSome then .mode
  else if x.decision.isSome && !x.read.any (·.phase == .deciding) then .decision
  else .nothing

/-- R117: the next POLL sent, once the one before it has had its reply or its timeout. -/
def execPoll (s : State) : Host.Outcome State Fault Refusal :=
  .next (match s.supply, s.polling, nextPoll s with
    | .normal, none, some (a, kept) =>
      { s with lastPolled := some a, passKept := kept, polling := some ⟨a, carriedBy (s.station a)⟩ }
    | _, _, _ => s)

/-! ### STATUS_REPLY (R118 to R123, R127) -/

/-- R118, R120, R126: the delivery of the command a POLL carried. A RELEASE acts on the door of the room the address is mapped to. -/
def deliver (a : LoopAddr) (c : Carried) (s : State) : State :=
  let x := s.station a
  match c with
  | .nothing => s
  | .mode => s.setStation a { x with mode := none }
  | .decision =>
    match x.decision with
    | none => s
    | some command =>
      let s := clearRead a (s.setStation a { x with decision := none })
      match command, roomOf s a with
      | .release seconds _ carries, some r => deliverRelease r seconds carries s
      | _, _ => s

/-- R127: a pending opening judged at its exit station's reply or miss. -/
def judgeAt (a : LoopAddr) (bar : Bool) (s : State) : State :=
  match roomOf s a with
  | some r => if isEntry a then s else judgeOpening r bar s
  | none => s

/-- R119 step 3: the contact or the push-bar report handed to the Door Supervisor. -/
def doorReport (a : LoopAddr) (isSet judged : Bool) (s : State) : State :=
  match roomOf s a with
  | some r => if isEntry a then contactReport r isSet s else pushBarReport r isSet judged s
  | none => s

/-- R127: an opening pends at the door of an address's room. -/
def openingPends (s : State) (a : LoopAddr) : Bool := (roomOf s a).any fun r => (s.door r).openingPending

/-- R119: a good reply taken in its order. -/
def takeReply (a : LoopAddr) (carried : Carried) (r : StatusReport) (s : State) : State :=
  let judged := openingPends s a
  let s := deliver a carried (judgeAt a r.door s)
  let s := tamperReport a r.tamper (comeOnline a s)
  offerRead a r.read (doorReport a r.door judged s)

/-- R119, R122, R127: a miss taken; a pending opening is judged first. -/
def takeMiss (a : LoopAddr) (s : State) : State := countMiss a (judgeAt a false s)

/-- R119: a STATUS reply that arrives in time and passes its check. One that names another address is corrupt and a miss. An address that
a WRITE MAP has taken out of the map has its last POLL answered like any other (R23, log entry 11). -/
def execStatusReply (r : StatusReport) (s : State) : Host.Outcome State Fault Refusal :=
  .next (match s.supply, s.polling with
    | .normal, some p =>
      let s' := { s with polling := none }
      if r.address = p.address then takeReply p.address p.carried r s'
      else takeMiss p.address s'
    | _, _ => s)

/-- R122: no good reply within 20 ms of the POLL, also of an address that a WRITE MAP has taken out of the map (log entry 11). -/
def execStationMiss (s : State) : Host.Outcome State Fault Refusal :=
  .next (match s.supply, s.polling with
    | .normal, some p => takeMiss p.address { s with polling := none }
    | _, _ => s)

/-! ### Door timers (R128, R129) -/

/-- R129: the end of a door's release, once its ticks have run out with the contact closed (log entry 6). -/
def execReleaseEnd (r : RoomNo) (s : State) : Host.Outcome State Fault Refusal :=
  .next (match s.supply, (s.door r).state, (s.door r).contact with
    | .backup, _, _ => s
    | .normal, .released 0, some true => s
    | .normal, .released 0, _ => handOver .unused r (s.setDoor r { s.door r with state := .secure })
    | .normal, _, _ => s)

/-- R128: the held-open limit of a door, once its ticks have run out (log entry 6). -/
def execHeldOpenLimit (r : RoomNo) (s : State) : Host.Outcome State Fault Refusal :=
  .next (match s.supply, (s.door r).state with
    | .backup, _ => s
    | .normal, .opened 0 => holdDoor r s
    | .normal, _ => s)

/-! ### HELD_RESOLUTION (R104, R126) -/

/-- R104: the oldest effect held during a turn, carried out once the turn has ended; after the last one the next turn begins. -/
def execHeldResolution (s : State) : Host.Outcome State Fault Refusal :=
  .next (match s.turn, s.heldEffects with
    | none, e :: es => grantNext (applyEffect e { s with heldEffects := es })
    | _, _ => s)

end Sys2Proof.Machine
end

