-- ==== Sys2Proof/Machine/Evacuation.lean ====
section
/-! DEFINITION. Evacuation (R111, R115, R132 to R134): the edges of EVACUATE and ALL CLEAR. -/

namespace Sys2Proof.Machine

/-! ### The rising edge (R132, R133) -/

/-- R132 step 2, R133, R135: the EVACUATION notice and the EVAC-START record, with the edge count. -/
def announceEvacuation (s : State) : State :=
  writeJournal { kind := .evacStart, value := some s.edgeCount }
    (post { kind := .evacuation, figures := .value s.edgeCount } s)

/-- R132 step 4: one door put in EVACUATION, its tied set untied. -/
def evacuateDoor (s : State) (r : RoomNo) : State :=
  untie r (s.setDoor r { s.door r with state := .evacuation, openingPending := false })

/-- R132: a rising edge taken in the state NORMAL. -/
def startEvacuation (s : State) : State :=
  let s := announceEvacuation { s with evacuating := true, edgeCount := 1 }
  let s := queueModeEverywhere false .evacRelease s
  let s := (List.finRange 64).foldl evacuateDoor s
  (List.finRange 64).foldl (fun s r => cancelHold (entryStation s r) (some .evacuation) s r) s

/-- R133: a rising edge taken in EVACUATING. -/
def furtherEdge (s : State) : State :=
  queueModeEverywhere false .evacRelease (announceEvacuation { s with edgeCount := min 255 (s.edgeCount + 1) })

/-- R132, R133: EVACUATE rises. In BACKUP the line is not taken. -/
def execEvacuateRise (s : State) : Host.Outcome State Fault Refusal :=
  .next (
    if s.evacuateLine then s
    else
      match s.supply, s.evacuating with
      | .backup, _ => { s with evacuateLine := true }
      | .normal, false => startEvacuation { s with evacuateLine := true, evacuateTaken := true }
      | .normal, true => furtherEdge { s with evacuateLine := true, evacuateTaken := true })

/-- R133: EVACUATE falls. In BACKUP the line is not taken. -/
def execEvacuateFall (s : State) : Host.Outcome State Fault Refusal :=
  .next (match s.supply with
    | .backup => { s with evacuateLine := false }
    | .normal => { s with evacuateLine := false, evacuateTaken := false })

/-! ### All presences at once (R114 to R116) -/

/-- One presence changed as `become` says of its state: removed for `none`, with a GRANT-UNUSED record where `record` asks. The second
part collects the supervisors removed, with their rooms. -/
def sweepOne (become : PresenceState → Option PresenceState) (record : Bool) (x : State × List (RoomNo × Nat)) (i : PoolIx) :
    State × List (RoomNo × Nat) :=
  match x.1.presence i with
  | none => x
  | some p =>
    match become p.state with
    | some st => ⟨setPresenceState i st x.1, x.2⟩
    | none =>
      let s := removePresence i x.1
      ⟨if record then
          writeJournal { kind := .grantUnused, room := some p.room, badge := some p.badge, permit := permitNumber s p.slot } s
        else s,
        x.2 ++ (supervisorBadge x.1 i).map fun b => (p.room, b)⟩

/-- R114 to R116: every presence changed in pool order, and carried on nothing afterwards. -/
def changePresences (become : PresenceState → Option PresenceState) (record : Bool) (s : State) : State × List (RoomNo × Nat) :=
  (List.finRange 128).foldl (sweepOne become record) (uncarry (List.finRange 128) s, [])

/-- R114, R115: ARRIVING are removed and the others become UNVERIFIED. -/
def loseSight : PresenceState → Option PresenceState
  | .arriving => none
  | .inside | .leaving | .unverified => some .unverified

/-- R110, R114 to R116: every room that held a presence before such a change re-examined with `one`, so that a mark is cleared just
where the change emptied the list; a room that was empty before keeps its mark (log entry 34). -/
def reexamineHeld (before : State) (one : RoomNo → State → State) (s : State) : State :=
  (List.finRange 64).foldl (fun s r => if (before.roomState r).list.isEmpty then s else one r s) s

/-- R115: the register at ALL CLEAR. -/
def presencesAtAllClear (s : State) : State :=
  let x := changePresences loseSight true s
  reexamineHeld s (fun r => reexamine r ((x.2.filter (·.1 == r)).map (·.2))) x.1

/-- R114, R116: the register at a fall of supply or a restart, with nothing journalled or posted. -/
def presencesAtReset (become : PresenceState → Option PresenceState) (s : State) : State :=
  reexamineHeld s refreshRoom (changePresences become false s).1

/-! ### ALL CLEAR (R134) -/

/-- R134 step 3: a door in EVACUATION becomes UNKNOWN with resumption CLEAR. -/
def settleDoor (d : Door) : Door :=
  match d.state with
  | .evacuation => { d with state := .unknown .clear, contact := none, pushMark := false, openingPending := false }
  | _ => d

/-- R134: an accepted ALL CLEAR. -/
def acceptAllClear (l : Link) (s : State) : State :=
  let s := queueModeEverywhere true .resumeNormal { s with evacuating := false, edgeCount := 0 }
  let s := presencesAtAllClear { s with doors := mapAll settleDoor s.doors }
  reply l .done .nothing (writeJournal { kind := .allClear } s)

/-- R134: ALL CLEAR served in its turn. -/
def serveAllClear (l : Link) (s : State) : State :=
  checked l [(!s.evacuating || s.evacuateTaken, .wrongState)] (acceptAllClear l) s

/-- R134. -/
def execAllClear (l : Link) (s : State) : Host.Outcome State Fault Refusal :=
  .next (inTurn l .allClear (serveAllClear l) s)

end Sys2Proof.Machine
end

