-- ==== Sys2Proof/Machine/SweepAndWalks.lean ====
section
/-! DEFINITION. The Minute Sweep's steps, READ SWEEP, and the firm walks (chapter 8). -/

namespace Sys2Proof.Machine

/-! ### The permits phase (R139, R140) -/

/-- R139: the grace end a sweep lapses a permit by: PROVISIONAL, or SUSPENDED with return state PROVISIONAL. -/
def lapseMinute (p : Permit) : Option Nat :=
  match p.standing with
  | .provisional | .suspended .provisional _ _ => p.graceEnd
  | _ => none

/-- R140: a terminal permit old enough for a full sweep's purge. -/
def purgeDue (p : Permit) (m : Nat) : Bool :=
  match p.standing with
  | .ended _ t => decide (t + Config.autoPurgeAge ≤ m)
  | _ => false

/-- R34, R38, R91: a permit ended by the sweep. -/
def sweepEnds (i : SlotNo) (p : Permit) (how : Ending) (m : Nat) (s : State) : State :=
  changePermit i p.standing.state (p.finished how m) .sweep s

/-- R139, R140: a step on a slot, judged at minute `m`. -/
def permitStep (i : SlotNo) (m : Nat) (full : Bool) (s : State) : State :=
  match s.permit i with
  | none => s
  | some p =>
    if p.standing.liveOrHeld && decide (p.spanEnd ≤ m) then retestHolds i p.badge (sweepEnds i p .expired m s)
    else if (lapseMinute p).any fun g => decide (g ≤ m) then
      retestHolds i p.badge (postLapsed p (sweepEnds i p .lapsed m s))
    else if full && purgeDue p m && !slotReferred s i then retestHolds i p.badge (vacate i p .sweep s)
    else s

/-! ### The presences phase (R141, R142) -/

/-- R141, R161: the presence in record `i` found beyond its permit. The notice carries the reason as its value, the record as its
outcome. -/
def markOverstay (i : PoolIx) (p : Presence) (why : Reason) (s : State) : State :=
  let s := s.setPresence i (some { p with overstay := true })
  let number := permitNumber s p.slot
  let s := post
    { kind := .overstay, room := some p.room, badge := some p.badge, permit := number, figures := .value why.code } s
  let s := writeJournal
    { kind := .overstay, room := some p.room, badge := some p.badge, permit := number, outcome := some (.reason why) } s
  report .overstay (some p.room) 1 s

/-- R73: the evaluation the sweep asks for. A slot that holds no permit, which R49 keeps from happening, gives NO-PERMIT. -/
def overstayVerdict (s : State) (p : Presence) (m : Nat) : Verdict :=
  match permitOf s p with
  | some q => evaluate s q p.room m .overstay
  | none => .fails .noPermit 1

/-- R141: the overstay part of a step. -/
def overstayStep (i : PoolIx) (p : Presence) (m : Nat) (s : State) : State :=
  match p.state with
  | .arriving | .leaving => s
  | .inside | .unverified =>
    match overstayVerdict s p m, p.overstay with
    | .fails why _, false => markOverstay i p why s
    | .fails _ _, true => s
    | .passes _ _, true => s.setPresence i (some { p with overstay := false })
    | .passes _ _, false => s

/-- R142: the lone check of a step. -/
def loneStep (i : PoolIx) (p : Presence) (m : Nat) (s : State) : State :=
  let o := s.roomState p.room
  match o.lone with
  | none => s
  | some k =>
    if k.who = i ∧ k.reported = false ∧ k.since + s.timings.lone ≤ m then
      let alone := m - k.since
      let s := post { kind := .loneWorker, room := some p.room, badge := some p.badge, figures := .value alone } s
      let s := writeJournal { kind := .lone, room := some p.room, badge := some p.badge, value := some alone } s
      s.setRoomState p.room { s.roomState p.room with lone := some { k with reported := true } }
    else s

/-- R141, R142: a step on a pool record, judged at minute `m`. -/
def presenceStep (i : PoolIx) (m : Nat) (s : State) : State :=
  match s.presence i with
  | none => s
  | some p => loneStep i p m (overstayStep i p m s)

/-! ### Steps and completion (R138, R143) -/

/-- The permits in a state. -/
def permitsIn (s : State) (x : PermitState) : Nat := (s.permits.toList.filter fun p => p.any (·.standing.state == x)).length

/-- The presences whose overstay mark is set. -/
def overstays (s : State) : Nat := (s.pool.toList.filter fun p => p.any (·.overstay)).length

/-- R143: the REVIEW notice. -/
def postReview (s : State) : State :=
  post { kind := .review, figures := .counts (poolCount s) (permitsIn s .provisional) (overstays s) (permitsIn s .pending) } s

/-- R138: the sweep's completion: REVIEW if it was full, IDLE, and a pending sweep started at the clock's minute. -/
def completeSweep (full : Bool) (s : State) : State :=
  let s := if full then postReview s else s
  let w := s.sweep
  if w.pending then
    { s with sweep := { w with run := some ⟨.permits 0, nowMinute s, w.pendingFull⟩, pending := false, pendingFull := false } }
  else { s with sweep := { w with run := none } }

/-- R138: the cursor advanced after a step. -/
def advanceSweep (run : SweepRun) (s : State) : State :=
  match run.place with
  | .permits c =>
    { s with sweep := { s.sweep with
        run := some { run with place := if c.val < 255 then .permits (c + 1) else .presences 0 } } }
  | .presences c =>
    if c.val < 127 then { s with sweep := { s.sweep with run := some { run with place := .presences (c + 1) } } }
    else completeSweep run.full s

/-- R138: one step of the sweep in its turn. -/
def serveSweepStep (s : State) : State :=
  match s.sweep.run with
  | none => s
  | some run =>
    advanceSweep run (match run.place with
      | .permits c => permitStep c run.minute run.full s
      | .presences c => presenceStep c run.minute s)

/-- The sweep holds the turn. -/
def sweepHasTurn (s : State) : Bool := s.turn.map Turn.user == some TurnUser.sweepStep

/-- R139: a sweep step on a permit slot, in the turn granted for it (log entry 6). -/
def execSweepPermitStep (s : State) : Host.Outcome State Fault Refusal :=
  .next (match s.sweep.run with
    | some ⟨.permits _, _, _⟩ => if sweepHasTurn s then endTurn (serveSweepStep s) else s
    | _ => s)

/-- R141: a sweep step on a pool record, in the turn granted for it (log entry 6). -/
def execSweepPresenceStep (s : State) : Host.Outcome State Fault Refusal :=
  .next (match s.sweep.run with
    | some ⟨.presences _, _, _⟩ => if sweepHasTurn s then endTurn (serveSweepStep s) else s
    | _ => s)

/-- R144: READ SWEEP served. -/
def serveReadSweep (l : Link) (s : State) : State :=
  reply l .done (.sweep (sweepState s) s.sweep.run s.sweep.pending s.sweep.pendingFull s.sweep.overruns s.walk) s

/-- R144. -/
def execReadSweep (l : Link) (s : State) : Host.Outcome State Fault Refusal :=
  .next (atOnce l .readSweep (serveReadSweep l) s)

/-! ### Firm walks (R145 to R148) -/

/-- R37, R145: a firm outside 1 to 999. -/
def badFirm (firm : Nat) : Bool := firm == 0 || decide (999 < firm)

/-- R145: an accepted request starts its walk, which asks for its first turn. -/
def startWalk (l : Link) (kind : WalkKind) (firm : Nat) (s : State) : State :=
  let p := s.port l
  let s := s.setPort l { p with inFlight := p.inFlight.map fun f => { f with stage := .walking } }
  grantNext { s with walk := some ⟨kind, firm, 0, 0⟩ }

/-- R145: SUSPEND FIRM served. -/
def serveSuspendFirm (l : Link) (firm reason : Nat) (s : State) : State :=
  checked l [(badFirm firm || reason == 0, .badLength)] (startWalk l (.suspend reason) firm) s

/-- R145. -/
def execSuspendFirm (l : Link) (firm reason : Nat) (s : State) : Host.Outcome State Fault Refusal :=
  .next (atOnce l (.suspendFirm firm reason) (serveSuspendFirm l firm reason) s)

/-- R145: RESUME FIRM served. -/
def serveResumeFirm (l : Link) (firm : Nat) (s : State) : State :=
  checked l [(badFirm firm, .badLength)] (startWalk l .resume firm) s

/-- R145. -/
def execResumeFirm (l : Link) (firm : Nat) (s : State) : Host.Outcome State Fault Refusal :=
  .next (atOnce l (.resumeFirm firm) (serveResumeFirm l firm) s)

/-- R146: the standing a SUSPEND FIRM step gives, `none` where it leaves the permit unchanged. -/
def firmSuspended (x : Standing) (reason : Nat) : Option Standing :=
  match x with
  | .suspended _ _ false => none
  | x => suspendedStanding x reason true

/-- R146: a SUSPEND FIRM step on a permit of the firm, and whether it is counted. -/
def suspendStep (reason : Nat) (i : SlotNo) (p : Permit) (s : State) : State × Bool :=
  match firmSuspended p.standing reason with
  | none => (s, false)
  | some x => (retestHolds i p.badge (changePermit i p.standing.state { p with standing := x } .security s), true)

/-- R147: a RESUME FIRM step on a permit of the firm, and whether it is counted. -/
def resumeStep (i : SlotNo) (p : Permit) (s : State) : State × Bool :=
  match p.standing with
  | .suspended _ _ true =>
    match resumedPermit p (turnMinute s) with
    | some q => (settleResumed i q s, true)
    | none => (s, false)
  | _ => (s, false)

/-- R146, R147: a walk's step on the slot at its cursor, and whether it is counted. -/
def walkAt (w : Walk) (s : State) : State × Bool :=
  match s.permit w.cursor with
  | none => (s, false)
  | some p =>
    if p.firm = w.firm then
      match w.kind with
      | .suspend reason => suspendStep reason w.cursor p s
      | .resume => resumeStep w.cursor p s
    else (s, false)

/-- R148: a walk's completion: DONE with the changed count and the last slot examined, and the walk record discarded. -/
def completeWalk (changed : Nat) (s : State) : State :=
  reply .security .done (.walked changed 255) { s with walk := none }

/-- R145 to R148: one step of a walk in its turn. -/
def serveWalkStep (s : State) : State :=
  match s.walk with
  | none => s
  | some w =>
    let x := walkAt w s
    let changed := w.changed + (if x.2 then 1 else 0)
    if w.cursor.val < 255 then { x.1 with walk := some { w with cursor := w.cursor + 1, changed := changed } }
    else completeWalk changed x.1

/-- The walk holds the turn. -/
def walkHasTurn (s : State) : Bool := s.turn.map Turn.user == some TurnUser.walkStep

/-- R146: a step of a SUSPEND FIRM walk, in the turn granted for it (log entry 6). -/
def execSuspendFirmStep (s : State) : Host.Outcome State Fault Refusal :=
  .next (match s.walk with
    | some ⟨.suspend _, _, _, _⟩ => if walkHasTurn s then endTurn (serveWalkStep s) else s
    | _ => s)

/-- R147: a step of a RESUME FIRM walk, in the turn granted for it (log entry 6). -/
def execResumeFirmStep (s : State) : Host.Outcome State Fault Refusal :=
  .next (match s.walk with
    | some ⟨.resume, _, _, _⟩ => if walkHasTurn s then endTurn (serveWalkStep s) else s
    | _ => s)

end Sys2Proof.Machine
end

