-- ==== Sys2Proof/Machine/Reports.lean ====
section
/-! DEFINITION. The requests on the notice queues, the attention lines, the journal and the counters (chapters 9 and 10). -/

namespace Sys2Proof.Machine

/-! ### TAKE NOTICE (R154) -/

/-- R154: the oldest notice of the highest level present. -/
def NoticeQueue.best (q : NoticeQueue) : Option Notice := q.notices.find? fun n => n.level == highestLevel q.notices

/-- R154: the queue without its oldest notice of the highest level, its lost flag cleared. -/
def NoticeQueue.taken (q : NoticeQueue) : NoticeQueue := ⟨q.notices.eraseP fun n => n.level == highestLevel q.notices, false⟩

/-- R154, R157: TAKE NOTICE served. -/
def serveTakeNotice (l : Link) (s : State) : State :=
  let q := s.queue l
  let t := judgeAttention l (s.setQueue l q.taken)
  match q.best with
  | some n => reply l .done (.notice q.lost q.taken.notices.length (some n)) t
  | none => reply l .empty (.notice q.lost 0 none) t

/-- R154. -/
def execTakeNotice (l : Link) (s : State) : Host.Outcome State Fault Refusal :=
  .next (atOnce l .takeNotice (serveTakeNotice l) s)

/-! ### Mask and mode (R156 to R158) -/

/-- R156: SET NOTICE MASK served. -/
def serveSetNoticeMask (l : Link) (level : Nat) (s : State) : State :=
  let held := min 6 level
  let s := judgeAttention l (s.setPort l { s.port l with mask := held })
  reply l (if held = level then .done else .clamped) (.mask held) s

/-- R156. -/
def execSetNoticeMask (l : Link) (level : Nat) (s : State) : Host.Outcome State Fault Refusal :=
  .next (atOnce l (.setNoticeMask level) (serveSetNoticeMask l level) s)

/-- Section 11.3: the attention mode of a code. -/
def modeOfCode? : Nat → Option AttentionMode
  | 0 => some .level
  | 1 => some .pulse
  | _ => none

/-- R158: a change of attention mode. A change to LEVEL judges the line, a change to PULSE releases it. -/
def changeMode (l : Link) (m : AttentionMode) (s : State) : State :=
  let p := s.port l
  if p.mode = m then s
  else
    match m with
    | .level => judgeAttention l (s.setPort l { p with mode := .level })
    | .pulse => s.setPort l { p with mode := .pulse, attention := false }

/-- R158: SET ATTENTION MODE served. -/
def serveSetAttentionMode (l : Link) (mode : Nat) (s : State) : State :=
  match modeOfCode? mode with
  | none => reply l .badLength .nothing s
  | some m => reply l .done (.mode m) (changeMode l m s)

/-- R158. -/
def execSetAttentionMode (l : Link) (mode : Nat) (s : State) : Host.Outcome State Fault Refusal :=
  .next (atOnce l (.setAttentionMode mode) (serveSetAttentionMode l mode) s)

/-- R158: a pulse's 10 ms end. -/
def execPulseEnd (l : Link) (s : State) : Host.Outcome State Fault Refusal :=
  .next (match (s.port l).mode with
    | .pulse => s.setPort l { s.port l with attention := false }
    | .level => s)

/-! ### READ JOURNAL (R164) -/

/-- R164: the count as taken, 1 to 8. -/
def journalCount (count : Nat) : Nat := clampTo 1 8 count

/-- R164: the reply to READ JOURNAL. With GAP set and nothing retained no record is returned, and next to ask is the next sequence number
(DESIGN CHOICE, log entry 42). -/
def journalReply (s : State) (start : Word32) (count : Nat) : ReplyContent :=
  let d := (s.nextSequence - start).toNat
  let c := s.journal.length
  if d = 0 then .journal false 0 s.nextSequence []
  else if d ≤ c then
    let rs := (s.journal.drop (c - d)).take (journalCount count)
    .journal false 0 (start + BitVec.ofNat 32 rs.length) rs
  else if d ≤ 2 ^ 31 then
    let rs := s.journal.take (journalCount count)
    .journal true (d - c) (s.nextSequence - BitVec.ofNat 32 c + BitVec.ofNat 32 rs.length) rs
  else .journal false 0 s.nextSequence []

/-- R164: READ JOURNAL served. -/
def serveReadJournal (l : Link) (start : Word32) (count : Nat) (s : State) : State :=
  reply l (if journalCount count = count then .done else .clamped) (journalReply s start count) s

/-- R164. -/
def execReadJournal (l : Link) (start : Word32) (count : Nat) (s : State) : Host.Outcome State Fault Refusal :=
  .next (atOnce l (.readJournal start count) (serveReadJournal l start count) s)

/-! ### Counters (R170, R171) -/

/-- R167, section 11.3: the select of a code and a reason. The reason is not looked at for another select than DENIAL-OF (DESIGN CHOICE,
log entry 48). -/
def selectOf? (code reason : Nat) : Option Select :=
  match code with
  | 0 => some .grants
  | 1 => some .denials
  | 2 => (reasonOfCode? reason).map .denialOf
  | 3 => some .entries
  | 4 => some .exits
  | 5 => some .occupancyMinutes
  | 6 => some .holdTimeouts
  | 7 => some .doorForced
  | 8 => some .doorHeld
  | 9 => some .overstays
  | 10 => some .stationMisses
  | 11 => some .unreadEgress
  | 12 => some .off
  | _ => none

/-- R166: a counter belongs to a link's group. -/
def ownGroup (l : Link) (number : Nat) : Bool :=
  match l with
  | .works => decide (number ≤ 3)
  | .security => decide (4 ≤ number)

/-- R170: an accepted SET COUNTER. -/
def acceptSetCounter (l : Link) (b : CounterBody) (s : State) : State :=
  match index8? b.number, selectOf? b.select b.reason with
  | some c, some select =>
    let k : Counter := ⟨select, roomNo? b.filter, b.notify == 1, b.value, false⟩
    reply l .done (.counter k) { s with counters := put s.counters c k }
  | _, _ => s

/-- R170: SET COUNTER served. A notify code that is not defined fails the form check (log entry 13). -/
def serveSetCounter (l : Link) (b : CounterBody) (s : State) : State :=
  checked l
    [(decide (7 < b.number) || (selectOf? b.select b.reason).isNone || decide (1 < b.notify), .badLength),
      (!ownGroup l b.number, .notYours), (decide (63 < b.filter) && b.filter != 255, .badRoom)] (acceptSetCounter l b) s

/-- R170. -/
def execSetCounter (l : Link) (b : CounterBody) (s : State) : Host.Outcome State Fault Refusal :=
  .next (atOnce l (.setCounter b) (serveSetCounter l b) s)

/-- R171: READ COUNTER served. -/
def serveReadCounter (l : Link) (number : Nat) (s : State) : State :=
  match index8? number with
  | none => reply l .badLength .nothing s
  | some c => checked l [(!ownGroup l number, .notYours)] (fun s => reply l .done (.counter (look s.counters c)) s) s

/-- R171. -/
def execReadCounter (l : Link) (number : Nat) (s : State) : Host.Outcome State Fault Refusal :=
  .next (atOnce l (.readCounter number) (serveReadCounter l number) s)

end Sys2Proof.Machine
end

