-- ==== Sys2Proof/Machine/Wire.lean ====
section
/-! DEFINITION. Replies as octets (R174, R176, sections 11.3 and 11.4). Where section 11.3 lays a body out it is followed; the
others carry the fields of their rules in order, and log entries 18, 30, 39 to 41, 46, 47 and 49 say how absent fields and lists are written. -/

namespace Sys2Proof.Machine

/-! ### Codes -/

/-- Section 11.4: a reply status's code. -/
def Status.code : Status → Nat
  | .done => 0
  | .clamped => 1
  | .busy => 2
  | .unknownRequest => 3
  | .badLength => 4
  | .notYours => 5
  | .locked => 6
  | .noSuchPermit => 7
  | .stale => 8
  | .wrongState => 9
  | .tableFull => 10
  | .duplicate => 11
  | .badgeLimit => 12
  | .badRoom => 13
  | .badTime => 14
  | .alreadyOver => 15
  | .occupied => 16
  | .empty => 17

/-- Section 11.3: a permit state's code. -/
def PermitState.code : PermitState → Nat
  | .vacant => 0
  | .pending => 1
  | .active => 2
  | .provisional => 3
  | .suspended => 4
  | .lapsed => 5
  | .expired => 6
  | .revoked => 7
  | .closed => 8

/-- R150: a notice kind's code. -/
def NoticeKind.code : NoticeKind → Nat
  | .evacuation => 1
  | .forcedDoor => 2
  | .loneWorker => 3
  | .tamper => 4
  | .overstay => 5
  | .heldDoor => 6
  | .unescorted => 7
  | .provisionalIssued => 8
  | .lapsed => 9
  | .stationOffline => 10
  | .supplyReturn => 11
  | .unreadEgress => 12
  | .exitMismatch => 13
  | .counterOverflow => 14
  | .review => 15
  | .exitUnmatched => 16
  | .stationOnline => 17
  | .sweepOverrun => 18
  | .clockSet => 19

/-- Section 10.1: a journal kind's code. -/
def JournalKind.code : JournalKind → Nat
  | .entryGrant => 1
  | .entryDeny => 2
  | .reEntry => 3
  | .holdOpen => 4
  | .holdTimeout => 5
  | .holdCancelled => 6
  | .entered => 7
  | .grantUnused => 8
  | .exit => 9
  | .exitUnused => 10
  | .exitMismatch => 11
  | .exitUnmatched => 12
  | .reconciledAuto => 13
  | .reconcile => 14
  | .unreadEgress => 15
  | .forced => 16
  | .held => 17
  | .overstay => 18
  | .lone => 19
  | .unescorted => 20
  | .permitChange => 21
  | .clockSet => 22
  | .configChange => 23
  | .evacStart => 24
  | .allClear => 25
  | .supplyReturn => 26
  | .restart => 27
  | .stationOffline => 28
  | .stationOnline => 29

/-- Section 11.3: a source's code. -/
def Source.code : Source → Nat
  | .works => 1
  | .security => 2
  | .sweep => 3

/-- Section 11.3: a class's code. -/
def RoomClass.code : RoomClass → Nat
  | .a => 0
  | .b => 1
  | .c => 2

/-- R167: a select's code. -/
def Select.code : Select → Nat
  | .grants => 0
  | .denials => 1
  | .denialOf _ => 2
  | .entries => 3
  | .exits => 4
  | .occupancyMinutes => 5
  | .holdTimeouts => 6
  | .doorForced => 7
  | .doorHeld => 8
  | .overstays => 9
  | .stationMisses => 10
  | .unreadEgress => 11
  | .off => 12

/-- The reason octet after a select; for any but DENIAL-OF it is 0 in a reply too (DESIGN CHOICE, log entry 49). -/
def Select.reasonCode : Select → Nat
  | .denialOf w => w.code
  | _ => 0

/-- R117: a station state's code. -/
def StationState.code : StationState → Nat
  | .unknown => 0
  | .online => 1
  | .offline => 2
  | .conflict => 3

/-- R125: a door state's code. -/
def DoorState.code : DoorState → Nat
  | .secure => 0
  | .released _ => 1
  | .opened _ => 2
  | .held => 3
  | .forced => 4
  | .unknown _ => 5
  | .evacuation => 6

/-- R136: the sweep state's code. -/
def SweepState.code : SweepState → Nat
  | .idle => 0
  | .running => 1
  | .suspended => 2

/-! ### Fields -/

/-- An octet. -/
def octet (v : Nat) : List Byte := octets 1 v

/-- A yes/no or clear/set field. -/
def yesNo (b : Bool) : List Byte := octet (if b then 1 else 0)

/-- An octet that is FFh when absent. -/
def octetOr (v : Option Nat) : List Byte := octet (v.getD 255)

/-- An absolute minute as calendar fields (R62). -/
def timeOf (m : Nat) : List Byte := minuteOctets (civilOf m)

/-- A time, FFh and zeros when absent. -/
def timeOr (m : Option Nat) : List Byte :=
  match m with
  | some m => timeOf m
  | none => [0xFF, 0, 0, 0, 0]

/-- A set of flags in an octet, bit 0 first. -/
def flagSet : List Bool → Nat
  | [] => 0
  | b :: bs => (if b then 1 else 0) + 2 * flagSet bs

/-- The five timings (R26), in the widths of R175. -/
def timingsOctets (t : Timings) : List Byte := octet t.release ++ octets 2 t.heldOpen ++ octet t.pairing ++ octet t.lone ++ octet t.grace

/-- A room's configured flag, class and maximum, both 0 for a room that is not configured (log entry 30). -/
def configOctets (c : Option RoomConfig) : List Byte :=
  match c with
  | some c => yesNo true ++ octet c.roomClass.code ++ octet c.maximum
  | none => yesNo false ++ octet 0 ++ octet 0

/-- A map descriptor; "empty" is sent as zeros in a reply too, as WRITE MAP carries it (DESIGN CHOICE, log entry 41). -/
def descriptorOctets (d : Option Descriptor) : List Byte :=
  match d with
  | some d => octet d.first ++ octet d.size ++ octet d.room
  | none => [0, 0, 0]

/-- A freeze entry. An empty one is sent as two absent times and a class set of 0 (DESIGN CHOICE, log entry 41). -/
def freezeOctets (f : Option Freeze) : List Byte :=
  match f with
  | some f => timeOf f.start ++ timeOf f.stop ++ octet (flagSet [f.classes.a, f.classes.b, f.classes.c])
  | none => timeOr none ++ timeOr none ++ octet 0

/-- A slot pattern, zero when absent. -/
def patternOctets (k : Option Pattern) : List Byte :=
  match k with
  | some k => octet k.weekdays.toNat ++ octets 2 k.starts ++ octets 2 k.ends
  | none => [0, 0, 0, 0, 0]

/-- The suspension reason, 0 when absent. -/
def Standing.reason : Standing → Nat
  | .suspended _ reason _ => reason
  | _ => 0

/-- The return state's code, when present. -/
def Standing.backCode : Standing → Option Nat
  | .suspended .pending _ _ => some 1
  | .suspended .active _ _ => some 2
  | .suspended .provisional _ _ => some 3
  | _ => none

/-- The firm-held mark. -/
def Standing.firmHeld : Standing → Bool
  | .suspended _ _ held => held
  | _ => false

/-- The terminal minute, when present. -/
def Standing.terminal : Standing → Option Nat
  | .ended _ t => some t
  | _ => none

/-- Section 11.3: the READ PERMIT reply body. Where no presence refers to the slot, the section gives FFh for its room; the octet of its
state is FFh too (DESIGN CHOICE, log entry 39). -/
def permitOctets (i : SlotNo) (p : Permit) (presence : Option (RoomNo × PresenceState)) : List Byte :=
  octet i.val ++ octets 2 p.number ++ octet p.revision.toNat ++ octet p.standing.state.code ++ octets 2 p.firm ++ octets 3 p.badge
    ++ octet (flagSet [p.role == .supervisor, p.urgent, p.escort, false, p.pattern.isSome, p.standing.firmHeld])
    ++ timeOf p.drafted ++ timeOf p.spanStart ++ timeOf p.spanEnd ++ patternOctets p.pattern
    ++ timeOr p.graceEnd ++ timeOr p.countersigned ++ timeOr p.standing.terminal
    ++ octetOr p.standing.backCode ++ octet p.standing.reason
    ++ octetOr (presence.map (·.1.val)) ++ octetOr (presence.map (·.2.code))
    ++ octet p.rooms.length ++ p.rooms.flatMap fun r => octet r.val

/-- R112: one occupant in 13 octets, the five yes/no fields as bits 0 to 4 of one octet (log entry 18). -/
def occupantOctets (o : OccupantView) : List Byte :=
  octets 3 o.badge ++ octets 2 (o.permit.getD 0) ++ octet o.slot.val
    ++ octet (flagSet [o.role == .supervisor, o.escort, o.overstay, o.carried, o.tied]) ++ octet o.state.code ++ timeOf o.entry

/-- R112: the lone state; without one its badge and its flag are 0 (DESIGN CHOICE, log entry 41). -/
def loneOctets (k : Option (Nat × Nat × Bool)) : List Byte :=
  match k with
  | some (badge, since, reported) => octets 3 badge ++ timeOf since ++ yesNo reported
  | none => octets 3 0 ++ timeOr none ++ yesNo false

/-- R124: an address's case. -/
def outcomeOctets (o : MapOutcome) (a : LoopAddr) : List Byte :=
  let case := match o with
    | .unpolled => 0
    | .mapped _ true => 1
    | .mapped _ false => 2
    | .conflict => 3
  yesNo o.isPolled ++ octet case ++ octet (a.val % 2) ++ octetOr (o.room?.map (·.val))

/-- R124: a station record's kinds of command, pending read and tamper. An absent kind or phase is FFh (log entry 18), and the badge of no
read is 0 (DESIGN CHOICE, log entry 41). -/
def stationOctets (x : Station) : List Byte :=
  let decision := x.decision.map fun c => match c with
    | .release _ _ _ => 0
    | .wait => 1
    | .refuse _ => 2
  let mode := x.mode.map fun m => match m with
    | .evacRelease => 0
    | .resumeNormal => 1
  let phase := x.read.map fun q => match q.phase with
    | .deciding => 0
    | .answered => 1
  octet x.state.code ++ octet x.misses ++ octetOr decision ++ octetOr mode
    ++ octets 3 ((x.read.map (·.badge)).getD 0) ++ octetOr phase ++ yesNo x.tamper

/-- R131: the hold open at a room. Its needs are coded 1 to 3 as R161 codes them in HOLD-OPEN (DESIGN CHOICE, log entry 40); with no hold
its badge, needs and ticks are 0 (DESIGN CHOICE, log entry 41). -/
def holdOctets (h : Option Hold) : List Byte :=
  match h with
  | some h => octets 3 h.badge ++ octet h.needs.code ++ timeOctets h.opened ++ octet h.ticks
  | none => octets 3 0 ++ octet 0 ++ [0xFF, 0, 0, 0, 0, 0] ++ octet 0

/-- R131: a door's state, resumption, contact and timers. An absent resumption or contact is FFh (log entry 18), a timer that does not run
is 0 (DESIGN CHOICE, log entry 41). -/
def doorOctets (d : DoorState) (contact : Option Bool) : List Byte :=
  let resumption := match d with
    | .unknown .back => some 0
    | .unknown .clear => some 1
    | _ => none
  let release := match d with
    | .released n => n
    | _ => 0
  let heldOpen := match d with
    | .opened n => n
    | _ => 0
  octet d.code ++ octetOr resumption ++ octetOr (contact.map fun c => if c then 0 else 1) ++ octet release ++ octets 2 heldOpen

/-- R144: the sweep in progress. With none its phase is FFh (log entry 18), its cursor and its full flag are 0 (DESIGN CHOICE, log entry
41). -/
def sweepRunOctets (run : Option SweepRun) : List Byte :=
  match run with
  | some ⟨.permits c, m, full⟩ => octet 0 ++ octet c.val ++ timeOf m ++ yesNo full
  | some ⟨.presences c, m, full⟩ => octet 1 ++ octet c.val ++ timeOf m ++ yesNo full
  | none => octetOr none ++ octet 0 ++ timeOr none ++ yesNo false

/-- R144: the firm walk. With none its kind is FFh (log entry 18), its firm and its cursor are 0 (DESIGN CHOICE, log entry 41). -/
def walkOctets (w : Option Walk) : List Byte :=
  match w with
  | some ⟨.suspend _, firm, cursor, _⟩ => yesNo true ++ octet 0 ++ octets 2 firm ++ octet cursor.val
  | some ⟨.resume, firm, cursor, _⟩ => yesNo true ++ octet 1 ++ octets 2 firm ++ octet cursor.val
  | none => yesNo false ++ octetOr none ++ octets 2 0 ++ octet 0

/-- Section 11.3: a notice's value field of eight octets. -/
def figuresOctets (f : Figures) : List Byte :=
  match f with
  | .none => octets 8 0
  | .value v => octets 2 v ++ octets 6 0
  | .counts a b c d => octets 2 a ++ octets 2 b ++ octets 2 c ++ octets 2 d

/-- Section 11.3: a notice. The present-fields bit for the value is set for REVIEW too (log entry 36). -/
def noticeOctets (n : Notice) : List Byte :=
  let b := n.body
  octet b.kind.code ++ octet n.level ++ timeOctets n.time
    ++ octet (flagSet [b.room.isSome, b.station.isSome, b.badge.isSome, b.permit.isSome, b.figures != .none])
    ++ octet ((b.room.map (·.val)).getD 0) ++ octet ((b.station.map (·.val)).getD 0) ++ octets 3 (b.badge.getD 0)
    ++ octets 2 (b.permit.getD 0) ++ figuresOctets b.figures

/-- Section 11.3: an outcome's code. -/
def JournalOutcome.code : JournalOutcome → Nat
  | .status s => s.code
  | .reason r => r.code
  | .permit p => p.code

/-- Section 11.3: the permit-change part, zero otherwise. -/
def changeOctets (c : Option PermitChangePart) : List Byte :=
  match c with
  | some c => octet c.slot.val ++ octet c.oldState.code ++ octet c.source.code ++ octet c.revision.toNat
  | none => [0, 0, 0, 0]

/-- Section 11.3: a journal record of 26 octets. An absent station, room, badge, permit number, outcome or value is sent as 0 (DESIGN
CHOICE, log entry 47). -/
def recordOctets (r : JournalRecord) : List Byte :=
  let b := r.body
  octets 4 r.sequence.toNat ++ timeOctets r.time ++ octet b.kind.code
    ++ octet (flagSet
        [b.station.isSome, b.room.isSome, b.badge.isSome, b.permit.isSome, b.outcome.isSome, b.value.isSome])
    ++ octet ((b.station.map (·.val)).getD 0) ++ octet ((b.room.map (·.val)).getD 0) ++ octets 3 (b.badge.getD 0)
    ++ octets 2 (b.permit.getD 0) ++ octet ((b.outcome.map (·.code)).getD 0) ++ octets 2 (b.value.getD 0)
    ++ changeOctets b.change

/-- R171: a counter's fields. -/
def counterOctets (k : Counter) : List Byte :=
  octet k.select.code ++ octet k.select.reasonCode ++ octetOr (k.filter.map (·.val)) ++ yesNo k.notify
    ++ octets 4 k.value.toNat ++ yesNo k.sticky

/-! ### Bodies and frames -/

/-- The content of a reply after its status octet. READ DOOR sends the EVACUATE line's level as 1 for high and 0 for low (DESIGN CHOICE,
log entry 46). -/
def ReplyContent.octets : ReplyContent → List Byte
  | .nothing => []
  | .clock t weekday unset => timeOctets t ++ octet weekday ++ yesNo unset
  | .mark m => markOctets m
  | .room c n => configOctets c ++ octet n
  | .map ds => ds.flatMap descriptorOctets
  | .freezes fs => fs.flatMap freezeOctets
  | .timings t => timingsOctets t
  | .timingsAndLock t locked => timingsOctets t ++ yesNo locked
  | .drafted i revision state grace => octet i.val ++ octet revision.toNat ++ octet state.code ++ timeOr grace
  | .amended revision state => octet revision.toNat ++ octet state.code
  | .countersigned state revision => octet state.code ++ octet revision.toNat
  | .resumed state => octet state.code
  | .permit i p presence => permitOctets i p presence
  | .slots found next => (found.flatMap fun i => octet i.val) ++ Sys2Proof.octets 2 next
  | .roomOccupancy c n uncertain lone os =>
    configOctets c ++ octet n ++ yesNo uncertain ++ loneOctets lone ++ os.flatMap occupantOctets
  | .badgeOccupancy none => []
  | .badgeOccupancy (some (o, r, position)) => occupantOctets o ++ octet r.val ++ octet position
  | .reconciled n => octet n
  | .station o a x => outcomeOctets o a ++ stationOctets x
  | .door d contact tied evacuating line edges hold =>
    doorOctets d contact ++ octet tied.length ++ (tied.flatMap fun b => Sys2Proof.octets 3 b) ++ yesNo evacuating ++ yesNo line
      ++ octet edges ++ holdOctets hold
  | .sweep state run pending pendingFull overruns walk =>
    octet state.code ++ sweepRunOctets run ++ yesNo pending ++ yesNo pendingFull ++ Sys2Proof.octets 2 overruns ++ walkOctets walk
  | .walked changed last => Sys2Proof.octets 2 changed ++ octet last.val
  | .notice lost left none => yesNo lost ++ octet left
  | .notice lost left (some n) => yesNo lost ++ octet left ++ noticeOctets n
  | .mask level => octet level
  | .mode .level => octet 0
  | .mode .pulse => octet 1
  | .journal gap skipped next rs =>
    yesNo gap ++ Sys2Proof.octets 4 skipped ++ Sys2Proof.octets 4 next.toNat ++ octet rs.length ++ rs.flatMap recordOctets
  | .counter k => counterOctets k

/-- R174, R176: a reply's frame as sent, start octet first. -/
def Reply.frame (r : Reply) : List Byte := 0x7E :: frameOf r.code (octet r.status.code ++ r.content.octets)

end Sys2Proof.Machine
end

