-- ==== Sys2Proof/Machine/Resets.lean ====
section
/-! DEFINITION. The supply line and the three kinds of reset: what a fall or a restart completes first (R12, R55), SUPPLY_FALL,
WARM_RETURN, the restarts (R178, R179) and POWER_UP. -/

namespace Sys2Proof.Machine

/-! ### What is completed first (R12, R55, R104) -/

/-- RESTART served: its reply is queued, and the restart is taken once that has been sent (R178). Where SUPPLY-OK falls before it
has been sent, no restart is taken and no RESTART record is written: R180 drops the reply that would take it (DEDUCED, log entry
37). -/
def serveRestart (l : Link) (s : State) : State := reply l .done .nothing s

/-- R178: RESTART. -/
def execRestart (l : Link) (s : State) : Host.Outcome State Fault Refusal := .next (atOnce l .restart (serveRestart l) s)

/-- A request served by the block that owns it (R177). -/
def serveRequest (l : Link) (r : Request) (s : State) : State :=
  match r with
  | .setClock t => serveSetClock l t s
  | .alignClock => serveAlignClock l s
  | .readClock => serveReadClock l s
  | .setMark m => serveSetMark l m s
  | .writeRoom b => serveWriteRoom l b s
  | .writeMap b => serveWriteMap l b s
  | .setFreeze b => serveSetFreeze l b s
  | .clearFreeze e => serveClearFreeze l e s
  | .writeTimings t => serveWriteTimings l t s
  | .lockConfiguration => serveLockConfiguration l s
  | .readRoom n => serveReadRoom l n s
  | .readMap => serveReadMap l s
  | .readFreeze => serveReadFreeze l s
  | .readTimings => serveReadTimings l s
  | .draftPermit b => serveDraftPermit l b s
  | .amendPermit b => serveAmendPermit l b s
  | .countersign p v => serveCountersign l p v s
  | .suspendPermit p v => serveSuspendPermit l p v s
  | .resumePermit p => serveResumePermit l p s
  | .revokePermit p => serveRevokePermit l p s
  | .closePermit p => serveClosePermit l p s
  | .purgePermit p => servePurgePermit l p s
  | .readPermit p => serveReadPermit l p s
  | .listPermits a f c => serveListPermits l a f c s
  | .readOccupancy o => serveReadOccupancy l o s
  | .reconcileRoom n b => serveReconcileRoom l n b s
  | .readStation a => serveReadStation l a s
  | .readDoor n => serveReadDoor l n s
  | .allClear => serveAllClear l s
  | .readSweep => serveReadSweep l s
  | .suspendFirm f v => serveSuspendFirm l f v s
  | .resumeFirm f => serveResumeFirm l f s
  | .takeNotice => serveTakeNotice l s
  | .setNoticeMask v => serveSetNoticeMask l v s
  | .setAttentionMode v => serveSetAttentionMode l v s
  | .readJournal q c => serveReadJournal l q c s
  | .setCounter b => serveSetCounter l b s
  | .readCounter n => serveReadCounter l n s
  | .restart => serveRestart l s

/-- R12, R175: a request handed over that waits for no turn is served before anything else at a fall of supply. -/
def serveHanded (l : Link) (s : State) : State :=
  match (s.port l).inFlight with
  | some ⟨r, .handed⟩ => if needsTurn r then s else serveRequest l r s
  | _ => s

/-- R55: the work of the turn in progress. -/
def serveTurn (s : State) : State :=
  match s.turn with
  | none => s
  | some ⟨.decision rd clearAfter, _⟩ => serveDecision rd clearAfter s
  | some ⟨.request l, _⟩ =>
    match (s.port l).inFlight with
    | some ⟨r, .handed⟩ => serveRequest l r s
    | _ => s
  | some ⟨.walkStep, _⟩ => serveWalkStep s
  | some ⟨.sweepStep, _⟩ => serveSweepStep s

/-- R55, R104: the turn in progress completed in full, then the effects held during it. -/
def finishTurn (s : State) : State :=
  let s := { serveTurn s with turn := none }
  drainHeld s.heldEffects.length s

/-- R12, R55, R104: what a fall of supply completes first: requests served at once, then the turn in progress (log entry 28). A
restart completes the turn alone (R178, R179). A RESTART whose reply is unsent is complete in its reply, which the fall drops, and the
restart with it (log entry 37). -/
def settle (s : State) : State := finishTurn (serveHanded .security (serveHanded .works s))

/-! ### What every fall, return and restart leaves -/

/-- R173, R180: a port's reception, request in flight and transmit queue emptied; mask and mode kept, and the line released. -/
def Port.cleared (p : Port) : Port :=
  { p with reception := .awaitingStart, inFlight := none, transmit := [], attention := false }

/-- R53, R55, R98, R117, R135, R136, R148: no turn and no waiting user, no hold, no read, no poll, stations and doors at their reset
values, sweep IDLE and no walk. The overrun count is kept. The stations take those values at a fall already, where nothing can read
them before the return (log entry 29). The loop's pass begins anew (log entry 23), and a POLL that still waits for its reply is
forgotten, so that its reply or miss has no effect and the next POLL may go out at once (the model's choice, log entry 56). -/
def quiesce (s : State) : State :=
  { s with
    turn := none
    lastServed := .security
    readQueue := []
    holds := fill none
    heldEffects := []
    stations := fill Station.initial
    lastPolled := none
    passKept := []
    polling := none
    doors := fill Door.initial
    sweep := { s.sweep with run := none, pending := false, pendingFull := false }
    walk := none
    ports := ⟨s.ports.works.cleared, s.ports.security.cleared⟩ }

/-- R135: the evacuation state taken from the EVACUATE line after a reset, with its mode commands, its doors and its report. -/
def takeEvacuation (s : State) : State :=
  let high := s.evacuateLine
  let s := { s with evacuateTaken := high, evacuating := high, edgeCount := if high then 1 else 0 }
  let s := queueModeEverywhere false (if high then .evacRelease else .resumeNormal) s
  if high then announceEvacuation { s with doors := mapAll (fun d => { d with state := .evacuation }) s.doors } else s

/-! ### SUPPLY_FALL and WARM_RETURN (R12 to R14, R114, R159, R180) -/

/-- R12, R13: the part moved to BACKUP. -/
def fallToBackup (s : State) : State :=
  presencesAtReset loseSight { quiesce (settle s) with supply := .backup, backupMinutes := 0 }

/-- R12: SUPPLY-OK falls. A fall in BACKUP changes nothing but the pin. -/
def execSupplyFall (s : State) : Host.Outcome State Fault Refusal :=
  .next (match s.supply with
    | .backup => { s with supplyLine := false }
    | .normal => { fallToBackup s with supplyLine := false })

/-- R163: the RESTART record of a restart taken in BACKUP, written at the return. -/
def journalDueRestart (s : State) : State :=
  if s.restartDue then { writeJournal { kind := .restart, value := some 0 } s with restartDue := false } else s

/-- R14, R135, R159, R163: the warm return. -/
def returnFromBackup (s : State) : State :=
  let minutes := s.backupMinutes
  let s := journalDueRestart { quiesce s with supply := .normal, backupMinutes := 0 }
  let s := writeJournal { kind := .supplyReturn, value := some minutes }
    (post { kind := .supplyReturn, figures := .value minutes } s)
  takeEvacuation s

/-- R14: SUPPLY-OK rises. A rise in NORMAL changes nothing but the pin. -/
def execWarmReturn (s : State) : Host.Outcome State Fault Refusal :=
  .next (match s.supply with
    | .normal => { s with supplyLine := true }
    | .backup => { returnFromBackup s with supplyLine := true })

/-! ### Restarts (R116, R160, R163, R178, R179) -/

/-- R116: ARRIVING are removed, LEAVING become INSIDE. -/
def atRestart : PresenceState → Option PresenceState
  | .arriving => none
  | .inside | .leaving => some .inside
  | .unverified => some .unverified

/-- R160: the notice queues emptied and their lost flags cleared. -/
def emptyNotices (s : State) : State := { s with notices := ⟨⟨[], false⟩, ⟨[], false⟩⟩ }

/-- R163, R135: a restart's record, and the evacuation state taken from the line. In BACKUP both wait for the warm return. -/
def recordRestart (value : Nat) (s : State) : State :=
  match s.supply with
  | .backup => { s with restartDue := true }
  | .normal => takeEvacuation (writeJournal { kind := .restart, value := some value } s)

/-- R55, R178, R179: what a restart does, by the RESTART request (value 1) or by the RESET line (value 0): the turn in progress is
completed, and every request without one is dropped. -/
def takeRestart (value : Nat) (s : State) : State :=
  recordRestart value (presencesAtReset atRestart (emptyNotices (quiesce (finishTurn s))))

/-- R179: an assertion of the RESET line, which also clears the configuration lock. -/
def execResetLine (s : State) : Host.Outcome State Fault Refusal := .next { takeRestart 0 s with locked := false }

/-! ### POWER_UP (R15, R135) -/

/-- R15, R31, R32, R98, R116, R135, R136, R160, R163, R172, R173: a cold start, with the levels of the two lines. The model's own
fields go on (log entry 24). -/
def coldStart (supplyHigh evacuateHigh : Bool) (s : State) : State :=
  takeEvacuation
    { State.reset with
      supply := if supplyHigh then .normal else .backup
      supplyLine := supplyHigh
      evacuateLine := evacuateHigh
      freeUsed := s.freeUsed
      pending := s.pending }

/-- R15: power after none at all. -/
def execPowerUp (supplyHigh evacuateHigh : Bool) (s : State) : Host.Outcome State Fault Refusal :=
  .next (coldStart supplyHigh evacuateHigh s)

end Sys2Proof.Machine
end

