-- ==== Sys2Proof/Machine/LinkEvents.lean ====
section
/-! DEFINITION. The events of the link ports (R173 to R176, R180): octets, the gap within a frame, a frame judged, a reply sent. -/

namespace Sys2Proof.Machine

/-- R175: a good frame's code and body put through the port's checks in their order, and its request handed over. -/
def takeFrame (l : Link) (code : Nat) (body : List Byte) (s : State) : State :=
  if (s.port l).busy then refuse l code .busy s
  else
    match codeOwner code with
    | none => refuse l code .unknownRequest s
    | some o =>
      if o.allows l then
        match decodeRequest code body with
        | none => refuse l code .badLength s
        | some r => hand l r s
      else refuse l code .notYours s

/-- A port's reception phase and receive buffer replaced. -/
def setReception (l : Link) (x : Reception) (s : State) : State := s.setPort l { s.port l with reception := x }

/-- R173, R174: a frame whose octets have all arrived, judged; one that fails its check is discarded. -/
def judgeFrame (l : Link) (os : List Byte) (s : State) : State :=
  let s := setReception l .awaitingStart s
  if frameGood os then
    match os with
    | len :: code :: rest => takeFrame l code.toNat (rest.take (len.toNat - 1)) s
    | _ => s
  else s

/-- R173: an octet taken in AWAITING-START. -/
def startOctet (l : Link) (o : Byte) (s : State) : State :=
  if o = 0x7E then setReception l (.inFrame []) s else setReception l .awaitingStart s

/-- R173: an octet taken. One that arrives on a complete frame not yet judged finds it judged first (log entry 26). -/
def takeOctet (l : Link) (o : Byte) (s : State) : State :=
  match (s.port l).reception with
  | .awaitingStart => startOctet l o s
  | .inFrame [] => setReception l (if o = 0 ∨ 250 < o.toNat then .awaitingStart else .inFrame [o]) s
  | .inFrame os => if frameComplete os then startOctet l o (judgeFrame l os s) else setReception l (.inFrame (os ++ [o])) s

/-- R173: an octet arrives on a link. In BACKUP it is ignored (R180). -/
def execOctetReceived (l : Link) (o : Byte) (s : State) : Host.Outcome State Fault Refusal :=
  .next (match s.supply with
    | .backup => s
    | .normal => takeOctet l o s)

/-- R173: more than 5 ms within a frame discards it. -/
def execInterOctetTimeout (l : Link) (s : State) : Host.Outcome State Fault Refusal :=
  .next (match (s.port l).reception with
    | .awaitingStart => s
    | .inFrame os => if frameComplete os then s else setReception l .awaitingStart s)

/-- R174, R175: a frame whose octets have all arrived. -/
def execFrameReceived (l : Link) (s : State) : Host.Outcome State Fault Refusal :=
  .next (match s.supply, (s.port l).reception with
    | .normal, .inFrame os => if frameComplete os then judgeFrame l os s else s
    | _, _ => s)

/-- R176: the oldest frame of a transmit queue sent in full; with the reply to the request in flight the port ceases to be busy. -/
def sendReply (l : Link) (r : Reply) (rest : List Reply) (s : State) : State :=
  let p := s.port l
  s.setPort l { p with transmit := rest, sent := r.frame, inFlight := if r.answers then none else p.inFlight }

/-- R178: the reply just sent answered a RESTART. -/
def answersRestart (p : Port) (r : Reply) : Bool := r.answers && p.inFlight.any (·.request == .restart)

/-- R176, R178: a reply has been sent in full. -/
def execReplySent (l : Link) (s : State) : Host.Outcome State Fault Refusal :=
  .next (match s.supply, (s.port l).transmit with
    | .normal, r :: rest =>
      let s' := sendReply l r rest s
      if answersRestart (s.port l) r then takeRestart 1 s' else s'
    | _, _ => s)

end Sys2Proof.Machine
end

