-- ==== Sys2Proof/Machine/Dispatch.lean ====
section
/-! DEFINITION. Which meaning each command has: one arm per constructor of Instr, in the table's order. -/

namespace Sys2Proof.Machine

def exec (i : Instr) (s : State) : Host.Outcome State Fault Refusal :=
  match i with
  | .powerUp supplyHigh evacuateHigh => Sys2Proof.Machine.execPowerUp supplyHigh evacuateHigh s
  | .tick => Sys2Proof.Machine.execTick s
  | .setClock l t => Sys2Proof.Machine.execSetClock l t s
  | .alignClock l => Sys2Proof.Machine.execAlignClock l s
  | .readClock l => Sys2Proof.Machine.execReadClock l s
  | .setMark l m => Sys2Proof.Machine.execSetMark l m s
  | .writeRoom l b => Sys2Proof.Machine.execWriteRoom l b s
  | .writeMap l b => Sys2Proof.Machine.execWriteMap l b s
  | .setFreeze l b => Sys2Proof.Machine.execSetFreeze l b s
  | .clearFreeze l entry => Sys2Proof.Machine.execClearFreeze l entry s
  | .writeTimings l t => Sys2Proof.Machine.execWriteTimings l t s
  | .lockConfiguration l => Sys2Proof.Machine.execLockConfiguration l s
  | .readRoom l room => Sys2Proof.Machine.execReadRoom l room s
  | .readMap l => Sys2Proof.Machine.execReadMap l s
  | .readFreeze l => Sys2Proof.Machine.execReadFreeze l s
  | .readTimings l => Sys2Proof.Machine.execReadTimings l s
  | .draftPermit l b => Sys2Proof.Machine.execDraftPermit l b s
  | .amendPermit l b => Sys2Proof.Machine.execAmendPermit l b s
  | .countersign l permit revision => Sys2Proof.Machine.execCountersign l permit revision s
  | .suspendPermit l permit reason => Sys2Proof.Machine.execSuspendPermit l permit reason s
  | .resumePermit l permit => Sys2Proof.Machine.execResumePermit l permit s
  | .revokePermit l permit => Sys2Proof.Machine.execRevokePermit l permit s
  | .closePermit l permit => Sys2Proof.Machine.execClosePermit l permit s
  | .purgePermit l permit => Sys2Proof.Machine.execPurgePermit l permit s
  | .readPermit l p => Sys2Proof.Machine.execReadPermit l p s
  | .listPermits l start filter count => Sys2Proof.Machine.execListPermits l start filter count s
  | .readOccupancy l o => Sys2Proof.Machine.execReadOccupancy l o s
  | .reconcileRoom l room badge => Sys2Proof.Machine.execReconcileRoom l room badge s
  | .readStation l address => Sys2Proof.Machine.execReadStation l address s
  | .readDoor l room => Sys2Proof.Machine.execReadDoor l room s
  | .allClear l => Sys2Proof.Machine.execAllClear l s
  | .readSweep l => Sys2Proof.Machine.execReadSweep l s
  | .suspendFirm l firm reason => Sys2Proof.Machine.execSuspendFirm l firm reason s
  | .resumeFirm l firm => Sys2Proof.Machine.execResumeFirm l firm s
  | .suspendFirmStep => Sys2Proof.Machine.execSuspendFirmStep s
  | .resumeFirmStep => Sys2Proof.Machine.execResumeFirmStep s
  | .takeNotice l => Sys2Proof.Machine.execTakeNotice l s
  | .setNoticeMask l level => Sys2Proof.Machine.execSetNoticeMask l level s
  | .setAttentionMode l mode => Sys2Proof.Machine.execSetAttentionMode l mode s
  | .readJournal l fromSequence count => Sys2Proof.Machine.execReadJournal l fromSequence count s
  | .setCounter l b => Sys2Proof.Machine.execSetCounter l b s
  | .readCounter l number => Sys2Proof.Machine.execReadCounter l number s
  | .restart l => Sys2Proof.Machine.execRestart l s
  | .frameReceived l => Sys2Proof.Machine.execFrameReceived l s
  | .interOctetTimeout l => Sys2Proof.Machine.execInterOctetTimeout l s
  | .replySent l => Sys2Proof.Machine.execReplySent l s
  | .poll => Sys2Proof.Machine.execPoll s
  | .statusReply r => Sys2Proof.Machine.execStatusReply r s
  | .stationMiss => Sys2Proof.Machine.execStationMiss s
  | .entryDecision => Sys2Proof.Machine.execEntryDecision s
  | .exitDecision => Sys2Proof.Machine.execExitDecision s
  | .holdDeadline r => Sys2Proof.Machine.execHoldDeadline r s
  | .releaseEnd r => Sys2Proof.Machine.execReleaseEnd r s
  | .heldOpenLimit r => Sys2Proof.Machine.execHeldOpenLimit r s
  | .heldResolution => Sys2Proof.Machine.execHeldResolution s
  | .sweepPermitStep => Sys2Proof.Machine.execSweepPermitStep s
  | .sweepPresenceStep => Sys2Proof.Machine.execSweepPresenceStep s
  | .pulseEnd l => Sys2Proof.Machine.execPulseEnd l s
  | .supplyFall => Sys2Proof.Machine.execSupplyFall s
  | .warmReturn => Sys2Proof.Machine.execWarmReturn s
  | .evacuateRise => Sys2Proof.Machine.execEvacuateRise s
  | .evacuateFall => Sys2Proof.Machine.execEvacuateFall s
  | .resetLine => Sys2Proof.Machine.execResetLine s
  | .octetReceived l octet => Sys2Proof.Machine.execOctetReceived l octet s

end Sys2Proof.Machine
end

