-- ==== Sys2Proof/Safety.lean ====
section
/-! DEFINITION. What counts as a safe run: no command stops the part, and the laws that the handbook says hold over its state. -/

namespace Sys2Proof.Machine

/-- A command did not stop the part. -/
def Goes (o : Host.Outcome State Fault Refusal) : Prop := ∃ t, o = .next t

/-- R1, R10, R26: the clock shows a civil time, the mark names values in range, and each timing lies in its range. -/
def ClockSound (s : State) : Prop := s.clock.inRange = true ∧ s.mark.inRange = true ∧ clampTimings s.timings = s.timings

/-- R150, R151: a queue holds at most 32 notices, each with its kind's level. -/
def QueueSound (q : NoticeQueue) : Prop := q.notices.length ≤ Config.noticeCapacity ∧ ∀ n ∈ q.notices, n.level = n.body.kind.level

/-- R150, R151: both notice queues. -/
def NoticesSound (s : State) : Prop := ∀ l, QueueSound (s.queue l)

/-- R162: at most 512 records, whose sequence numbers run up to the next one without a break. -/
def JournalSound (s : State) : Prop :=
  s.journal.length ≤ Config.journalCapacity ∧
    ∀ (k : Nat) (r : JournalRecord), s.journal[k]? = some r → r.sequence = s.nextSequence - BitVec.ofNat 32 (s.journal.length - k)

/-- R173, R176: the mask is 0 to 6, the queue holds at most 4 frames, and the reply to the request in flight is among them just when
that has been answered. -/
def PortSound (p : Port) : Prop :=
  p.mask ≤ 6 ∧ p.transmit.length ≤ Config.transmitCapacity ∧
    (p.transmit.filter (·.answers)).length = if p.inFlight.any (·.stage == .answered) then 1 else 0

/-- R173, R176: both ports. -/
def PortsSound (s : State) : Prop := ∀ l, PortSound (s.port l)

/-- R13, R157: in LEVEL mode a line is asserted just while its queue holds a notice above the mask, and in BACKUP it is released. -/
def AttentionSound (s : State) : Prop :=
  ∀ l, (s.supply = .backup → (s.port l).attention = false) ∧
    (s.supply = .normal → (s.port l).mode = .level → (s.port l).attention = (s.queue l).above (s.port l).mask)

/-- R132, R134: the edge count is 0 just in NORMAL and at most 255, and a line last taken as high means EVACUATING. -/
def EvacuationSound (s : State) : Prop :=
  s.edgeCount ≤ 255 ∧ (s.edgeCount = 0 ↔ s.evacuating = false) ∧ (s.evacuateTaken = true → s.evacuating = true)

/-- R136, R137: pending stands only while a sweep is in progress, pending-full only with pending, and the counts stay at 65,535. -/
def SweepSound (s : State) : Prop :=
  (s.sweep.pending = true → s.sweep.run.isSome = true) ∧ (s.sweep.pendingFull = true → s.sweep.pending = true) ∧
    s.sweep.overruns ≤ Config.top16 ∧ s.backupMinutes ≤ Config.top16

/-- R13, R55, R180: nothing is under way in a part that runs on its battery. -/
structure Quiet (s : State) : Prop where
  turn : s.turn = none
  reads : s.readQueue = []
  holds : ∀ r, s.hold r = none
  effects : s.heldEffects = []
  poll : s.polling = none
  sweep : s.sweep.run = none
  walk : s.walk = none
  ports : ∀ l, (s.port l).inFlight = none ∧ (s.port l).transmit = [] ∧ (s.port l).reception = .awaitingStart

/-- R13: the stillness of BACKUP. -/
def BackupSound (s : State) : Prop := s.supply = .backup → Quiet s

/-- R33: no two non-VACANT slots hold the same permit number. -/
def NumbersDistinct (s : State) : Prop :=
  ∀ i j p q, s.permit i = some p → s.permit j = some q → p.number = q.number → i = j

/-- R33: no badge holds more than 4 permits in live-or-held states. -/
def BadgesBounded (s : State) : Prop := ∀ b, liveOrHeldOf s b ≤ Config.badgeLimit

/-- R99: a badge has at most one presence in the pool, and a hold's first badge, of which R86 allows one hold, has none. -/
structure BadgeOnce (s : State) : Prop where
  presences : ∀ i j p q, s.presence i = some p → s.presence j = some q → p.badge = q.badge → i = j
  holds : ∀ r q h k, s.hold r = some h → s.hold q = some k → h.badge = k.badge → r = q
  apart : ∀ r h i p, s.hold r = some h → s.presence i = some p → h.badge ≠ p.badge

/-- R49, R91: every presence refers to a non-VACANT slot, and every hold to a live permit of its badge. -/
structure SlotsReferred (s : State) : Prop where
  presences : ∀ i p, s.presence i = some p → (s.permit p.slot).isSome = true
  holds : ∀ r h, s.hold r = some h → ∃ p, s.permit h.slot = some p ∧ p.badge = h.badge ∧ p.standing.refusal = none

/-- R83: no configured room's presences exceed its maximum occupancy. -/
def RoomsWithinMaximum (s : State) : Prop := ∀ r c, s.room r = some c → roomCount s r ≤ c.maximum

/-- R36: a request in flight belongs to its link. -/
def RequestsOwned (s : State) : Prop := ∀ l f, (s.port l).inFlight = some f → f.request.allowedOn l = true

/-- The law that each field of the invariant gathers, for a part that is sound as a whole. -/
structure Sound (s : State) : Prop where
  clock : ClockSound s
  notices : NoticesSound s
  journal : JournalSound s
  ports : PortsSound s
  attention : AttentionSound s
  evacuation : EvacuationSound s
  sweep : SweepSound s
  backup : BackupSound s

end Sys2Proof.Machine
end

