-- ==== Sys2Proof/Certificates/Slice0/Obligations.lean ====
section
/-! DEFINITION. The statements for the provers. `Sys2Proof.Claims` holds the few notions they share; each `Obligations.<Name>` is
one statement, and its docstring names the rules of the handbook it rests on. -/

namespace Sys2Proof.Claims

open Sys2Proof.Machine

/-- A request is in flight on a link, handed over and not yet served, on a part with its supply (R12, R175). -/
abbrev Handed (l : Link) (r : Request) (s : State) : Prop :=
  s.supply = .normal ∧ (s.port l).inFlight = some ⟨r, .handed⟩

/-- Such a request whose table turn has been granted (R36, R52). -/
abbrev InTurn (l : Link) (r : Request) (s : State) : Prop := Handed l r s ∧ s.turn.map Turn.user = some (.request l)

/-- R176: the reply to the request in flight placed last in the transmit queue, never discarded; the port stays busy. A queue of 4 that
was full gives up its newest refusal (the model's choice, log entry 8). -/
def answered (l : Link) (r : Request) (st : Status) (content : ReplyContent) (s : State) : State :=
  s.setPort l
    { s.port l with
      inFlight := some ⟨r, .answered⟩
      transmit := (s.port l).transmit.take 3 ++ [⟨r.code, st, content, true⟩] }

/-- R176: the transmit queue has a place for a refusal: one of its 4, or of 3 while a request in flight waits for its reply (log entry
8). -/
abbrev Roomy (l : Link) (s : State) : Prop :=
  (s.port l).transmit.length < if (s.port l).inFlight.any (·.stage != .answered) then 3 else 4

/-- R175, R176: a refusal by the port placed last in the transmit queue, or discarded where the queue has no place for it. -/
def turnedAway (l : Link) (code : Nat) (st : Status) (s : State) : State :=
  if Roomy l s then s.setPort l { s.port l with transmit := (s.port l).transmit ++ [⟨code, st, .nothing, false⟩] } else s

/-- R175: a request in flight on the link, handed to its owner. -/
def handedOver (l : Link) (r : Request) (s : State) : State :=
  let t := s.setPort l { s.port l with inFlight := some ⟨r, .handed⟩ }
  if needsTurn r then grantNext t else t

/-- A port's reception phase replaced. -/
def receiving (l : Link) (x : Reception) (s : State) : State := s.setPort l { s.port l with reception := x }

/-- Commands carried out one after another; a command that stops the part leaves the state it found. -/
def follow : List Instr → State → State
  | [], s => s
  | c :: cs, s =>
    match exec c s with
    | .next t => follow cs t
    | _ => s

end Sys2Proof.Claims

open Sys2Proof Sys2Proof.Machine Sys2Proof.Claims

/-! ### The part as a whole -/

/-- The model's queue of commands: a step carries out the front one on the state with the queue's rest, and every command completes
in every state, since the handbook stops the part for none. With none waiting the part idles, which is the model's choice (log entry
4): the handbook's time-driven events are commands of their own. -/
def Obligations.StepRunsTheFrontCommand : Prop :=
  (∀ (c : Instr) (q : List Instr) (s : State), step { s with pending := c :: q } = exec c { s with pending := q }) ∧
    (∀ s : State, s.pending = [] → step s = .next s) ∧ ∀ (c : Instr) (s : State), Goes (exec c s)

/-- R15, R31, R32, R55, R98, R116, R135, R136, R160, R163, R172, R173: POWER_UP leaves every block at its cold-start value. With
SUPPLY-OK low and EVACUATE high the doors and the evacuation state follow the line at once, which is the model's reading (log
entry 21). -/
def Obligations.PowerUpIsAColdStart : Prop :=
  ∀ (supplyHigh evacuateHigh : Bool) (s : State), ∃ t, exec (.powerUp supplyHigh evacuateHigh) s = .next t ∧
    t.clock = ⟨2000, 1, 1, 0, 0, 0⟩ ∧ t.clockUnset = true ∧ t.mark = ⟨some 0, some 3, none, none⟩ ∧
    t.supply = (if supplyHigh then .normal else .backup) ∧ t.supplyLine = supplyHigh ∧ t.backupMinutes = 0 ∧
    (∀ r, t.room r = none) ∧ t.timings = ⟨5, 60, 30, 5, 60⟩ ∧ t.locked = false ∧ (∀ i, look t.stationMap i = none) ∧
    (∀ i, look t.freezes i = none) ∧ (∀ i, t.permit i = none) ∧ t.turn = none ∧ t.lastServed = .security ∧
    t.readQueue = [] ∧ (∀ r, t.hold r = none) ∧ (∀ i, t.presence i = none) ∧ (∀ r, t.roomState r = ⟨[], none, false⟩) ∧
    t.heldEffects = [] ∧ (∀ a, t.station a = ⟨.unknown, 0, none, none, none, false⟩) ∧ t.polling = none ∧
    t.evacuating = evacuateHigh ∧ t.edgeCount = (if evacuateHigh then 1 else 0) ∧ t.evacuateTaken = evacuateHigh ∧
    (∀ r, t.door r = ⟨if evacuateHigh then .evacuation else .unknown .back, [], none, false, false⟩) ∧
    t.sweep = ⟨none, false, false, 0⟩ ∧ t.walk = none ∧ (∀ c, look t.counters c = ⟨.off, none, false, 0, false⟩) ∧
    (∀ l, t.queue l =
      ⟨if supplyHigh && evacuateHigh then
          [⟨{ kind := .evacuation, figures := .value 1 }, 7, ⟨2000, 1, 1, 0, 0, 0⟩⟩] else [], false⟩) ∧
    t.journal = (if supplyHigh && evacuateHigh then
      [⟨0, ⟨2000, 1, 1, 0, 0, 0⟩, { kind := .evacStart, value := some 1 }⟩] else []) ∧
    t.nextSequence = (if supplyHigh && evacuateHigh then 1 else 0) ∧
    (∀ l, t.port l = ⟨.awaitingStart, none, [], 0, .level, supplyHigh && evacuateHigh, []⟩) ∧ t.pending = s.pending

/-- The state right after reset meets every law of Safety.lean. -/
def Obligations.ResetMeetsEveryLaw : Prop :=
  Sound State.reset ∧ NumbersDistinct State.reset ∧ BadgesBounded State.reset ∧ BadgeOnce State.reset ∧
    SlotsReferred State.reset ∧ RoomsWithinMaximum State.reset ∧ RequestsOwned State.reset

/-! ### The links (chapter 11) -/

namespace Sys2Proof.Claims

/-- R177: the links of the requests, in the order of their codes from 1. -/
def catalogue : List Owner :=
  [.security, .security, .either, .works, .security, .security, .security, .security, .security, .security, .either, .either,
    .either, .either, .works, .works, .security, .security, .security, .security, .works, .works, .either, .either, .either,
    .security, .either, .either, .security, .either, .security, .security, .either, .either, .either, .either, .either, .either,
    .security]

/-- R177: a request's place in the catalogue, counted from 1. -/
def placeOf : Request → Nat
  | .setClock _ => 1 | .alignClock => 2 | .readClock => 3 | .setMark _ => 4 | .writeRoom _ => 5 | .writeMap _ => 6
  | .setFreeze _ => 7 | .clearFreeze _ => 8 | .writeTimings _ => 9 | .lockConfiguration => 10 | .readRoom _ => 11 | .readMap => 12
  | .readFreeze => 13 | .readTimings => 14 | .draftPermit _ => 15 | .amendPermit _ => 16 | .countersign _ _ => 17
  | .suspendPermit _ _ => 18 | .resumePermit _ => 19 | .revokePermit _ => 20 | .closePermit _ => 21 | .purgePermit _ => 22
  | .readPermit _ => 23 | .listPermits _ _ _ => 24 | .readOccupancy _ => 25 | .reconcileRoom _ _ => 26 | .readStation _ => 27
  | .readDoor _ => 28 | .allClear => 29 | .readSweep => 30 | .suspendFirm _ _ => 31 | .resumeFirm _ => 32 | .takeNotice => 33
  | .setNoticeMask _ => 34 | .setAttentionMode _ => 35 | .readJournal _ _ => 36 | .setCounter _ => 37 | .readCounter _ => 38
  | .restart => 39

end Sys2Proof.Claims

/-- R175, R177, section 11.3: the requests have the codes and the links of R177's table, every other code is unknown, and for every
request whose fields fit their octets its code and body spell that request and no other. That the counts of LIST PERMITS and READ
JOURNAL are one octet each is the model's reading (log entry 43). -/
def Obligations.RequestsDecodeAsWritten : Prop :=
  (∀ r : Request, r.wellFormed = true → decodeRequest r.code r.body = some r) ∧
    (∀ r : Request, r.code = placeOf r) ∧
    (∀ code, codeOwner code = if code = 0 then none else catalogue[code - 1]?) ∧
    ∀ (r : Request) (l : Link), r.allowedOn l = true ↔
      catalogue[placeOf r - 1]? = some .either ∨ (catalogue[placeOf r - 1]? = some .works ∧ l = .works) ∨
        (catalogue[placeOf r - 1]? = some .security ∧ l = .security)

/-- R173 to R175: a head-end that sends 7Eh and a request's frame, octet by octet, has the request handed to its owner at
FRAME_RECEIVED, whatever the request, on a port that waits for a start and has none in flight. -/
def Obligations.FramedRequestReachesItsOwner : Prop :=
  ∀ (l : Link) (r : Request) (s : State), r.wellFormed = true → r.allowedOn l = true → s.supply = .normal →
    (s.port l).reception = .awaitingStart → (s.port l).inFlight = none →
    exec (.frameReceived l) (follow ((0x7E :: r.frame).map (.octetReceived l)) s) = .next (handedOver l r s)

/-- R173, R180: what an octet does to a port by its reception phase, what a gap within a frame does, and that octets are ignored in
BACKUP. An octet that arrives on a complete frame not yet judged finds it judged first (the model's reading, log entry 26). -/
def Obligations.OctetsAreTakenByPhase : Prop :=
  ∀ (l : Link) (o : Byte) (s : State),
    (s.supply = .backup → exec (.octetReceived l o) s = .next s) ∧
    (s.supply = .normal → (s.port l).reception = .awaitingStart →
      exec (.octetReceived l o) s = .next (if o = 0x7E then receiving l (.inFrame []) s else s)) ∧
    (s.supply = .normal → (s.port l).reception = .inFrame [] →
      exec (.octetReceived l o) s =
        .next (receiving l (if 1 ≤ o.toNat ∧ o.toNat ≤ 250 then .inFrame [o] else .awaitingStart) s)) ∧
    (∀ len rest, s.supply = .normal → (s.port l).reception = .inFrame (len :: rest) → rest.length < len.toNat + 2 →
      exec (.octetReceived l o) s = .next (receiving l (.inFrame (len :: (rest ++ [o]))) s)) ∧
    (∀ len rest, s.supply = .normal → (s.port l).reception = .inFrame (len :: rest) → len.toNat + 2 ≤ rest.length →
      ∃ t, exec (.frameReceived l) s = .next t ∧ (t.port l).reception = .awaitingStart ∧
        exec (.octetReceived l o) s = exec (.octetReceived l o) t) ∧
    (∀ os, (s.port l).reception = .inFrame os → (∀ len rest, os = len :: rest → rest.length < len.toNat + 2) →
      exec (.interOctetTimeout l) s = .next (receiving l .awaitingStart s)) ∧
    (∀ len rest, (s.port l).reception = .inFrame (len :: rest) → len.toNat + 2 ≤ rest.length →
      exec (.interOctetTimeout l) s = .next s) ∧
    ((s.port l).reception = .awaitingStart → exec (.interOctetTimeout l) s = .next s)

/-- R173 to R176: a frame whose octets have all arrived is discarded where its check differs, is refused by the first of the port's
checks that fails with a reply of its own code and the status, and otherwise is handed to its owner. A refusal that finds its places
in the transmit queue taken is discarded; that one of the 4 is kept for a reply still owed is the model's choice (log entry 8). -/
def Obligations.FramesAreJudgedInOrder : Prop :=
  ∀ (l : Link) (len code : Byte) (rest : List Byte) (s : State), s.supply = .normal →
    (s.port l).reception = .inFrame (len :: code :: rest) → rest.length = len.toNat + 1 → 1 ≤ len.toNat →
    let body := rest.take (len.toNat - 1)
    let good := number (rest.drop (len.toNat - 1)) = (crc16 (len :: code :: body)).toNat
    let t := receiving l .awaitingStart s
    (¬ good → exec (.frameReceived l) s = .next t) ∧
    (good → (s.port l).inFlight.isSome = true → exec (.frameReceived l) s = .next (turnedAway l code.toNat .busy t)) ∧
    (good → (s.port l).inFlight = none → codeOwner code.toNat = none →
      exec (.frameReceived l) s = .next (turnedAway l code.toNat .unknownRequest t)) ∧
    (∀ o, good → (s.port l).inFlight = none → codeOwner code.toNat = some o → o.allows l = false →
      exec (.frameReceived l) s = .next (turnedAway l code.toNat .notYours t)) ∧
    (∀ o, good → (s.port l).inFlight = none → codeOwner code.toNat = some o → o.allows l = true →
      decodeRequest code.toNat body = none → exec (.frameReceived l) s = .next (turnedAway l code.toNat .badLength t)) ∧
    (∀ o r, good → (s.port l).inFlight = none → codeOwner code.toNat = some o → o.allows l = true →
      decodeRequest code.toNat body = some r → exec (.frameReceived l) s = .next (handedOver l r t))

/-- R175, R176, R178: the oldest frame of a transmit queue is sent in full, and the port ceases to be busy with the reply to its
request in flight; the octets sent are that reply's frame, whose check is good where its body fits a frame. RESTART is answered DONE
and nothing else happens until that reply is sent; what its sending does is another statement's. That a full queue gives up its newest
refusal to that reply is the model's choice (log entry 8). -/
def Obligations.RepliesAreSentOldestFirst : Prop :=
  (∀ (l : Link) (x : Reply) (rest : List Reply) (s : State), s.supply = .normal → (s.port l).transmit = x :: rest →
    (x.answers = true → ∀ f, (s.port l).inFlight = some f → f.request ≠ .restart) →
    exec (.replySent l) s =
        .next (s.setPort l
          { s.port l with
            transmit := rest, sent := x.frame, inFlight := if x.answers then none else (s.port l).inFlight }) ∧
      (x.content.octets.length ≤ 248 → frameComplete x.frame.tail = true ∧ frameGood x.frame.tail = true)) ∧
  (∀ (l : Link) (s : State), s.supply = .backup ∨ (s.port l).transmit = [] → exec (.replySent l) s = .next s) ∧
  ∀ (l : Link) (s : State), Handed l .restart s → exec (.restart l) s = .next (answered l .restart .done .nothing s)

/-- R13, R36, R52, R175 and the model's reading of the request rows (log entries 5 and 8): a request row does nothing in BACKUP, is
refused with BUSY or NOT-YOURS by the port, waits while its turn is not granted, and brings a request not yet in flight to its
owner before it is served. -/
def Obligations.RequestRowsMeetThePort : Prop :=
  ∀ (i : Instr) (l : Link) (r : Request) (s : State), i.request = some (l, r) →
    (s.supply = .backup → exec i s = .next s) ∧
    (∀ f, s.supply = .normal → (s.port l).inFlight = some f → f ≠ ⟨r, .handed⟩ →
      exec i s = .next (turnedAway l r.code .busy s)) ∧
    (s.supply = .normal → (s.port l).inFlight = none → r.allowedOn l = false →
      exec i s = .next (turnedAway l r.code .notYours s)) ∧
    (s.supply = .normal → (s.port l).inFlight = none → r.allowedOn l = true → exec i s = exec i (handedOver l r s)) ∧
    (Handed l r s → needsTurn r = true → s.turn.map Turn.user ≠ some (.request l) → exec i s = .next s)

/-! ### The table arbiter (section 3.8) -/

namespace Sys2Proof.Claims

open Sys2Proof.Machine

/-- R36, R52: a link waits for a turn: its request in flight needs one and is not served, or it is the Security Link and a firm walk
runs. -/
abbrev Waits (l : Link) (s : State) : Prop :=
  (∃ r, (s.port l).inFlight = some ⟨r, .handed⟩ ∧ needsTurn r = true) ∨ (l = .security ∧ s.walk ≠ none)

/-- R53: the user that a turn granted to a link serves. -/
def linkTurn (l : Link) (s : State) : TurnUser := if l = .security ∧ s.walk ≠ none then .walkStep else .request l

end Sys2Proof.Claims

/-- R52, R53, R104: when a turn ends with no effect held, the Decision Unit's oldest read is served first, then the one link that
waits, or of two the one not served last, then the sweep; with an effect held no turn is granted. -/
def Obligations.TurnsAreGrantedInOrder : Prop :=
  ∀ s : State, s.supply = .normal →
    (s.heldEffects ≠ [] → endTurn s = { s with turn := none }) ∧
    (s.heldEffects = [] →
      (∀ rd rest, s.readQueue = rd :: rest →
        endTurn s = { s with turn := some ⟨.decision rd false, s.clock⟩, readQueue := rest }) ∧
      (s.readQueue = [] →
        (∀ l m, l ≠ m → Waits l s → (Waits m s → s.lastServed = m) →
          endTurn s = { s with turn := some ⟨linkTurn l s, s.clock⟩, lastServed := l }) ∧
        ((∀ l, ¬ Waits l s) →
          endTurn s = { s with turn := if s.sweep.run = none then none else some ⟨.sweepStep, s.clock⟩ })))

/-! ### The clock (chapter 1) -/

namespace Sys2Proof.Claims

open Sys2Proof.Machine

/-- R86, R125: every open hold and every running door timer one tick lower. -/
def tickedDown (d : DoorState) : DoorState :=
  match d with
  | .released n => .released (n - 1)
  | .opened n => .opened (n - 1)
  | d => d

end Sys2Proof.Claims

/-- R2, R3, R86, R125: a tick lowers every hold's ticks left and every door timer by one and moves the clock one second on, carrying
through its fields after second 59, where the minute-boundary event is raised; it changes nothing else. -/
def Obligations.TickAdvancesTheClock : Prop :=
  ∀ s : State, ∃ t, exec .tick s = .next (if s.clock.second < 59 then t else raiseEvent t) ∧
    t = { s with clock := t.clock, holds := t.holds, doors := t.doors } ∧
    t.clock = (if s.clock.second < 59 then { s.clock with second := s.clock.second + 1 }
      else s.clock.minutePart.next.withSecond 0) ∧
    (∀ r, t.hold r = (s.hold r).map fun h => { h with ticks := h.ticks - 1 }) ∧
    ∀ r, t.door r = { s.door r with state := tickedDown (s.door r).state }

namespace Sys2Proof.Claims

open Sys2Proof.Machine

/-- R169: COUNTER-OVERFLOW posted for each counter that `past` names, in ascending number, with the counter's number as its value. -/
def overflowsPosted (past : CounterNo → Bool) (s : State) : State :=
  ((List.finRange 8).filter past).foldl (fun t c => post { kind := .counterOverflow, figures := .value c.val } t) s

/-- R168: the presences an OCCUPANCY-MINUTES counter with a filter adds. -/
def presentFor (filter : Option RoomNo) (s : State) : Nat :=
  match filter with
  | none => poolCount s
  | some r => roomCount s r

/-- R168, R169: a counter posts COUNTER-OVERFLOW at a minute boundary. -/
def overflowsAtMinute (s : State) (c : CounterNo) : Bool :=
  let k := look s.counters c
  k.select == .occupancyMinutes && k.notify && !k.sticky && decide (2 ^ 32 ≤ k.value.toNat + presentFor k.filter s)

/-- R137: SWEEP-OVERRUN posted with the count raised, where a sweep is in progress and another pending. -/
def overrunPosted (s : State) : State :=
  if s.sweep.run ≠ none ∧ s.sweep.pending = true then
    post { kind := .sweepOverrun, figures := .value (min 65535 (s.sweep.overruns + 1)) } s
  else s

end Sys2Proof.Claims

/-- R4, R10, R13, R52, R100, R136, R137, R168, R169: what a minute-boundary event does. In BACKUP it is counted, up to 65,535. In
NORMAL it starts a sweep of an idle sweep, which asks for its first turn, marks a running one's pending sweep, or raises the overrun
count and posts SWEEP-OVERRUN; and it adds the presences to every OCCUPANCY-MINUTES counter, with a COUNTER-OVERFLOW where one passes
its top; the sweep is full where the mark matches. In which of R4's two orders the two blocks post is left open (log entry 2). -/
def Obligations.MinuteBoundaryIsTaken : Prop :=
  ∀ s : State,
    (s.supply = .backup → raiseEvent s = { s with backupMinutes := min 65535 (s.backupMinutes + 1) }) ∧
    (s.supply = .normal →
      let full := s.mark.matchesTime s.clock
      let t := raiseEvent s
      t = { s with
        sweep := t.sweep, counters := t.counters, notices := t.notices, ports := t.ports, turn := t.turn
        lastServed := t.lastServed, readQueue := t.readQueue, freeUsed := t.freeUsed } ∧
      (s.sweep.run = none → t.sweep = { s.sweep with run := some ⟨.permits 0, s.clock.abs, full⟩ }) ∧
      (s.sweep.run ≠ none → s.sweep.pending = false → t.sweep = { s.sweep with pending := true, pendingFull := full }) ∧
      (s.sweep.run ≠ none → s.sweep.pending = true →
        t.sweep = { s.sweep with
          overruns := min 65535 (s.sweep.overruns + 1), pendingFull := s.sweep.pendingFull || full }) ∧
      (s.sweep.run = none → s.turn = none → s.heldEffects = [] → s.readQueue = [] → (∀ l, ¬ Waits l s) →
        t.turn = some ⟨.sweepStep, s.clock⟩ ∧ t.lastServed = s.lastServed ∧ t.readQueue = []) ∧
      (s.sweep.run ≠ none ∨ s.turn ≠ none ∨ s.heldEffects ≠ [] →
        t.turn = s.turn ∧ t.lastServed = s.lastServed ∧ t.readQueue = s.readQueue) ∧
      (let past := overflowsAtMinute s;
        (t.notices = (overflowsPosted past (overrunPosted s)).notices ∧ t.ports = (overflowsPosted past (overrunPosted s)).ports) ∨
          t.notices = (overrunPosted (overflowsPosted past s)).notices ∧
            t.ports = (overrunPosted (overflowsPosted past s)).ports) ∧
      ∀ c, look t.counters c =
        if (look s.counters c).select = .occupancyMinutes then
          let n := presentFor (look s.counters c).filter s
          { look s.counters c with
            value := (look s.counters c).value + BitVec.ofNat 32 n
            sticky := (look s.counters c).sticky || decide (2 ^ 32 ≤ (look s.counters c).value.toNat + n) }
        else look s.counters c)

/-- R1 to R3, R60 to R62: calendar fields and absolute minutes agree. Every minute of the range converts to fields and back, every
minute's fields convert to a minute and back, the minute after a minute is the next number, the last minute wraps, and each day's
weekday follows that of the day before, from Saturday 2000-01-01. -/
def Obligations.CalendarAgreesWithAbsoluteMinutes : Prop :=
  (∀ m, m ≤ 52595999 → (civilOf m).inRange = true ∧ absMinute (civilOf m) = m) ∧
    (∀ t : CivilMinute, t.inRange = true → absMinute t ≤ 52595999 ∧ civilOf (absMinute t) = t) ∧
    (∀ t : CivilMinute, t.inRange = true → t.next.inRange = true ∧
      absMinute t.next = if absMinute t = 52595999 then 0 else absMinute t + 1) ∧
    weekdayOf 0 = 6 ∧ ∀ d, weekdayOf (d + 1) = (weekdayOf d + 1) % 7

/-- R6, R7: an accepted SET CLOCK sets all six fields, clears CLOCK-UNSET, restarts the tick, raises one event for the minute set,
posts CLOCK-SET, journals it with outcome DONE, and is answered DONE. R8: ALIGN CLOCK does nothing at second 0, sets the second
back at 1 to 29, and from 30 on moves to the next minute with its event; either is journalled with the seconds held. That this record
is stamped with the aligned time is the model's reading (log entry 38). -/
def Obligations.ClockIsSetAndAligned : Prop :=
  (∀ (l : Link) (v : CivilTime) (s : State), Handed l (.setClock v) s → v.inRange = true →
    exec (.setClock l v) s = .next (answered l (.setClock v) .done .nothing
      (writeJournal { kind := .clockSet, outcome := some (.status .done) }
        (post { kind := .clockSet }
          (raiseEvent { s with clock := v, clockUnset := false, tickPhase := s.tickPhase + 1 }))))) ∧
  ∀ (l : Link) (s : State), Handed l .alignClock s → s.clockUnset = false →
    let record := writeJournal { kind := .clockSet, outcome := some (.status .done), value := some s.clock.second }
    let ended := fun t => exec (.alignClock l) s = .next (answered l .alignClock .done .nothing t)
    (s.clock.second = 0 → ended s) ∧
    (1 ≤ s.clock.second → s.clock.second ≤ 29 → s.clock.second ≤ 65535 →
      ended (record { s with clock := { s.clock with second := 0 }, tickPhase := s.tickPhase + 1 })) ∧
    (30 ≤ s.clock.second →
      ended (record (raiseEvent
        { s with clock := s.clock.minutePart.next.withSecond 0, tickPhase := s.tickPhase + 1 })))

namespace Sys2Proof.Claims

/-- R10, R11: a field of the mark is ANY or lies in its range. -/
abbrev FieldInRange (f : Option Nat) (low high : Nat) : Prop := f = none ∨ ∃ v, f = some v ∧ low ≤ v ∧ v ≤ high

/-- R10: the ranges of the four fields. -/
abbrev MarkInRange (m : Mark) : Prop :=
  FieldInRange m.minute 0 59 ∧ FieldInRange m.hour 0 23 ∧ FieldInRange m.weekday 0 6 ∧ FieldInRange m.day 1 31

end Sys2Proof.Claims

/-- R11, whole: SET MARK is a works request; a field out of range gives BAD-TIME and leaves the mark; otherwise the mark is replaced
and returned with DONE, whatever CLOCK-UNSET, with no notice, no record and the sweep as it was, and the next event is matched
against the new mark. -/
def Obligations.SetMarkReplacesTheMark : Prop :=
  (∀ m, (Request.setMark m).allowedOn .works = true ∧ (Request.setMark m).allowedOn .security = false) ∧
    (∀ m s, s.supply = .normal → (s.port .security).inFlight = none →
      exec (.setMark .security m) s = .next (turnedAway .security (Request.setMark m).code .notYours s)) ∧
    (∀ m s, Handed .works (.setMark m) s → ¬ MarkInRange m →
      exec (.setMark .works m) s = .next (answered .works (.setMark m) .badTime .nothing s)) ∧
    ∀ m s, Handed .works (.setMark m) s → MarkInRange m →
      exec (.setMark .works m) s = .next (answered .works (.setMark m) .done (.mark m) { s with mark := m }) ∧
        (s.sweep.run = none →
          (raiseEvent { s with mark := m }).sweep.run = some ⟨.permits 0, s.clock.abs, m.matchesTime s.clock⟩)

/-! ### The layout (chapter 2) -/

namespace Sys2Proof.Claims

open Sys2Proof.Machine

/-- Section 11.3: the class codes. -/
def classes : List RoomClass := [.a, .b, .c]

/-- R17: a WRITE ROOM that removes its room carries `none`; one that configures it carries a class and a maximum of 1 to 16, for class
A 2 to 16. -/
abbrev Carries (b : RoomBody) (c : Option RoomConfig) : Prop :=
  (b.configured = 0 ∧ c = none) ∨
    ∃ k, b.configured = 1 ∧ classes[b.roomClass]? = some k ∧ (if k = .a then 2 else 1) ≤ b.maximum ∧ b.maximum ≤ 16 ∧
      c = some ⟨k, b.maximum⟩

/-- R19, R22: a WRITE MAP that empties its descriptor carries `none`; otherwise it carries three fields in their ranges, the first
address a multiple of the size, and the last room at most 63. -/
abbrev Describes (b : MapBody) (d : Option Descriptor) : Prop :=
  (b.first = 0 ∧ b.size = 0 ∧ b.room = 0 ∧ d = none) ∨
    (b.first ≤ 127 ∧ b.size ∈ [2, 4, 8, 16, 32, 64, 128] ∧ b.room ≤ 63 ∧ b.first % b.size = 0 ∧
      b.room + b.size / 2 ≤ 64 ∧ d = some ⟨b.first, b.size, b.room⟩)

/-- R19: two descriptors cover no common room. -/
abbrev Apart (d e : Descriptor) : Prop := d.room + d.size / 2 ≤ e.room ∨ e.room + e.size / 2 ≤ d.room

/-- R76, R118: the presences a station's pending decision command carries. -/
def carriedOn (x : Station) : List PoolIx :=
  match x.decision with
  | some (.release _ _ who) => who
  | _ => []

/-- R125, R126: the presences on a door's running release: those tied, then those whose tie waits for a turn to end. -/
def running (s : State) (r : RoomNo) : List PoolIx :=
  (s.door r).tied ++ s.heldEffects.flatMap fun e => match e with
    | .tie q who => if q = r then who else []
    | _ => []

/-- R23: from one state's map to another's an address ceases to be polled or enters conflict, and its commands are discarded. -/
abbrev Discarded (s t : State) (a : LoopAddr) : Prop :=
  mapOutcome t a ≠ mapOutcome s a ∧ (mapOutcome t a = .unpolled ∨ mapOutcome t a = .conflict)

/-- R23, R103: from one state's map to another's the release pending at an address comes to nothing: it is discarded, or the address
comes to decode to another room. -/
abbrev Withdrawn (s t : State) (a : LoopAddr) : Prop :=
  Discarded s t a ∨ (roomOf s a ≠ none ∧ roomOf t a ≠ none ∧ roomOf t a ≠ roomOf s a)

/-- R23: from one state's map to another's a room loses its entry station. -/
abbrev Lost (s t : State) (r : RoomNo) : Prop := ∃ a, isEntry a = true ∧ roomOf s a = some r ∧ roomOf t a ≠ some r

/-- A station with its pending commands and its pending read gone, put in a state with no misses (R23). -/
def stripped (x : Station) (st : StationState) : Station :=
  { x with state := st, misses := 0, decision := none, mode := none, read := none }

end Sys2Proof.Claims

/-- R19 to R21: an address covered by no descriptor is not polled, one covered by two or more is in conflict, and one covered by
exactly one is mapped to first room + floor(k/2) for its offset k, the even address being the entry station. -/
def Obligations.AddressesDecodeByTheirDescriptors : Prop :=
  ∀ (s : State) (a : LoopAddr),
    let covering := (s.stationMap.toList.filterMap id).filter fun d => decide (d.first ≤ a.val ∧ a.val < d.first + d.size)
    (mapOutcome s a = .unpolled ↔ covering = []) ∧ (mapOutcome s a = .conflict ↔ 2 ≤ covering.length) ∧
    (∀ d, covering = [d] → d.room + (a.val - d.first) / 2 ≤ 63 → ∃ r : RoomNo, r.val = d.room + (a.val - d.first) / 2 ∧
      mapOutcome s a = .mapped r (s.room r).isSome) ∧
    (∀ d, covering = [d] → d.first % 2 = 0 → (isEntry a = true ↔ (a.val - d.first) % 2 = 0))

/-- R17, R29: an accepted WRITE ROOM replaces the record whole, journals CONFIG-CHANGE with the room and value 1 or 0, and is
answered DONE. -/
def Obligations.WriteRoomReplacesTheRecord : Prop :=
  ∀ (l : Link) (b : RoomBody) (r : RoomNo) (c : Option RoomConfig) (s : State), InTurn l (.writeRoom b) s →
    s.locked = false → b.room = r.val → Carries b c → (s.roomState r).list = [] → s.hold r = none →
    exec (.writeRoom l b) s = .next (endTurn (answered l (.writeRoom b) .done .nothing
      (writeJournal
        { kind := .configChange, room := some r, outcome := some (.status .done), value := some (if c = none then 0 else 1) }
        { s with rooms := put s.rooms r c })))

/-- R22, R23, R29, R103: an accepted WRITE MAP replaces the descriptor, journals CONFIG-CHANGE and answers DONE; each address's
station changes as its case does, and a room whose entry station is lost loses its hold, and its door becomes UNKNOWN (RETURN) and
hands its tied set over, unless in EVACUATION; the presences on a RELEASE that is discarded, or pending at an address that comes to
decode to another room, are resolved as unused (those that no lost room's running release carries too); other presences, stations,
doors and holds stay, but that those resolved cease to be carried. Misses of 0 and the tamper record kept at an address that is no
longer polled or enters conflict are the model's choice (log entry 23), as is that the doors' tied sets are resolved after the turn
(log entry 32), that the record comes before its effects (log entry 9) and that an address which comes to decode to another room
keeps its command, with nobody carried on it, and its read (log entry 45). "Empty" for a number above 7 passes too, and leaves the
map as it is (the model's reading of what it then does, log entry 14). -/
def Obligations.WriteMapMovesStations : Prop :=
  (∀ (l : Link) (b : MapBody) (s : State), InTurn l (.writeMap b) s → s.locked = false → 7 < b.number → Describes b none →
    exec (.writeMap l b) s = .next (endTurn (answered l (.writeMap b) .done .nothing
      (writeJournal { kind := .configChange, outcome := some (.status .done), value := some (10 + b.number) } s)))) ∧
  ∀ (l : Link) (b : MapBody) (i : Fin 8) (d : Option Descriptor) (s : State), InTurn l (.writeMap b) s →
    s.locked = false → b.number = i.val → Describes b d →
    (∀ j e, j ≠ i → look s.stationMap j = some e → ∀ f, d = some f → Apart f e) →
    ∃ t, exec (.writeMap l b) s = .next t ∧ t.stationMap = put s.stationMap i d ∧
      (∀ a, mapOutcome t a = .unpolled → mapOutcome s a ≠ .unpolled → t.station a = stripped (s.station a) .unknown) ∧
      (∀ a, mapOutcome t a = .conflict → mapOutcome s a ≠ .conflict → t.station a = stripped (s.station a) .conflict) ∧
      (∃ who : List PoolIx,
        (∀ k ∈ who, (∃ a, Withdrawn s t a ∧ k ∈ carriedOn (s.station a)) ∨ ∃ r, Lost s t r ∧ k ∈ running s r) ∧
        (∀ a, mapOutcome t a = mapOutcome s a ∨ (roomOf s a ≠ none ∧ roomOf t a ≠ none) →
          t.station a = { s.station a with decision := (s.station a).decision.map (·.without who) }) ∧
        (∀ a r k, mapOutcome t a = .mapped r k → mapOutcome s a = .unpolled ∨ mapOutcome s a = .conflict →
          t.station a =
            { s.station a with state := .unknown, misses := 0, decision := (s.station a).decision.map (·.without who) }) ∧
        (∀ r, ¬ Lost s t r → t.hold r = s.hold r) ∧
        ∀ r, ¬ Lost s t r ∨ (s.door r).state = .evacuation →
          t.door r = { s.door r with tied := (s.door r).tied.filter (· ∉ who) }) ∧
      (∀ a, Withdrawn s t a → carriedOn (t.station a) = []) ∧
      (∀ a k p, Withdrawn s t a → k ∈ carriedOn (s.station a) → (∀ r, Lost s t r → k ∉ running s r) →
        s.presence k = some p → k ∈ (s.roomState p.room).list → t.presence k = if p.state = .arriving then none
          else if p.state = .leaving then some { p with state := .inside } else some p) ∧
      (∀ k, (∀ a, Withdrawn s t a → k ∉ carriedOn (s.station a)) → t.presence k = s.presence k) ∧
      (∀ r k, Lost s t r → (s.door r).state ≠ .evacuation → k ∈ (s.door r).tied → (∀ a, k ∉ carriedOn (s.station a)) →
        ∃ who, k ∈ who ∧ PresenceEffect.unused who ∈ t.heldEffects) ∧
      (t.heldEffects ≠ [] → t.turn = none) ∧
      (∀ a, a ∈ t.passKept ↔ a ∈ s.passKept ∨
        (mapOutcome t a = .unpolled ∧ mapOutcome s a ≠ .unpolled ∧ ∃ b, s.lastPolled = some b ∧ b < a)) ∧
      (∃ later, t.journal = (s.journal ++
        (⟨s.nextSequence, s.clock, { kind := .configChange, outcome := some (.status .done), value := some (10 + i.val) }⟩ :
          JournalRecord) :: later).drop (s.journal.length + 1 + later.length - 512)) ∧
      (∀ a r, isEntry a = true → roomOf s a = some r → roomOf t a ≠ some r →
        t.hold r = none ∧ ((s.door r).state ≠ .evacuation →
          t.door r = { s.door r with state := .unknown .back, tied := [], contact := none, pushMark := false
                                     openingPending := false })) ∧
      (t.port l).transmit = (s.port l).transmit.take 3 ++ [⟨(Request.writeMap b).code, .done, .nothing, true⟩] ∧
      t = { s with
        stationMap := t.stationMap, passKept := t.passKept, stations := t.stations, doors := t.doors, holds := t.holds, pool := t.pool
        occupancy := t.occupancy, heldEffects := t.heldEffects, polling := t.polling, notices := t.notices, journal := t.journal
        nextSequence := t.nextSequence, ports := t.ports, freeUsed := t.freeUsed, turn := t.turn, readQueue := t.readQueue
        lastServed := t.lastServed }

/-- R24, R25, R28, R29: an accepted SET FREEZE replaces its entry with the absolute minutes and the classes carried, an accepted CLEAR
FREEZE empties it, each journalled; a class is frozen at a minute when some entry covers the minute and names the class; and LOCK
CONFIGURATION sets a clear lock and journals it, and on a set lock answers DONE and changes nothing else. -/
def Obligations.FreezesAndTheLockAreWritten : Prop :=
  (∀ (l : Link) (b : FreezeBody) (i : Fin 8) (s : State), InTurn l (.setFreeze b) s → b.entry = i.val →
    1 ≤ b.classes.toNat → b.classes.toNat ≤ 7 → b.start.inRange = true → b.stop.inRange = true →
    absMinute b.start < absMinute b.stop →
    exec (.setFreeze l b) s = .next (endTurn (answered l (.setFreeze b) .done .nothing
      (writeJournal { kind := .configChange, outcome := some (.status .done), value := some (20 + i.val) }
        { s with freezes := put s.freezes i (some
            ⟨absMinute b.start, absMinute b.stop, ⟨b.classes.getLsbD 0, b.classes.getLsbD 1, b.classes.getLsbD 2⟩⟩) })))) ∧
  (∀ (l : Link) (i : Fin 8) (s : State), InTurn l (.clearFreeze i.val) s →
    exec (.clearFreeze l i.val) s = .next (endTurn (answered l (.clearFreeze i.val) .done .nothing
      (writeJournal { kind := .configChange, outcome := some (.status .done), value := some (30 + i.val) }
        { s with freezes := put s.freezes i none })))) ∧
  (∀ (s : State) (k : RoomClass) (m : Nat), frozen s k m = true ↔
    ∃ i f, look s.freezes i = some f ∧ f.start ≤ m ∧ m < f.stop ∧ f.classes.has k = true) ∧
  ∀ (l : Link) (s : State), Handed l .lockConfiguration s →
    exec (.lockConfiguration l) s = .next (answered l .lockConfiguration .done .nothing
      (if s.locked then s
        else writeJournal { kind := .configChange, outcome := some (.status .done), value := some 50 } { s with locked := true }))

/-- R27, whole: WRITE TIMINGS is a security request, refused with LOCKED while the configuration is locked; otherwise each value is
brought into its range, all five are written, the reply carries them with CLAMPED where one changed, and CONFIG-CHANGE is
journalled. -/
def Obligations.WriteTimingsClamps : Prop :=
  (∀ t, (Request.writeTimings t).allowedOn .works = false) ∧
    (∀ t s, s.supply = .normal → (s.port .works).inFlight = none →
      exec (.writeTimings .works t) s = .next (turnedAway .works (Request.writeTimings t).code .notYours s)) ∧
    (∀ t s, Handed .security (.writeTimings t) s → s.locked = true →
      exec (.writeTimings .security t) s = .next (answered .security (.writeTimings t) .locked .nothing s)) ∧
    ∀ t s, Handed .security (.writeTimings t) s → s.locked = false →
      let held : Timings := ⟨max 1 (min 30 t.release), max 10 (min 600 t.heldOpen), max 10 (min 120 t.pairing),
        max 1 (min 30 t.lone), max 15 (min 240 t.grace)⟩
      let st : Status := if held = t then .done else .clamped
      exec (.writeTimings .security t) s = .next (answered .security (.writeTimings t) st (.timings held)
        (writeJournal { kind := .configChange, outcome := some (.status st), value := some 40 } { s with timings := held }))

namespace Sys2Proof.Claims

open Sys2Proof.Machine

/-- R21, R122: the state a station is held in: CONFLICT while its address is in map conflict, and else that of its record. -/
def heldIn (s : State) (a : LoopAddr) : StationState := if mapOutcome s a = .conflict then .conflict else (s.station a).state

/-- R54: the turn in progress is a step of a firm walk, or of a request that writes the permit table or the presence pool: WRITE MAP,
DRAFT to PURGE, RECONCILE ROOM or ALL CLEAR. -/
abbrev TableWriteTurn (s : State) : Prop :=
  s.turn.map Turn.user = some .walkStep ∨ ∃ l f, s.turn.map Turn.user = some (.request l) ∧ (s.port l).inFlight = some f ∧
    placeOf f.request ∈ [6, 15, 16, 17, 18, 19, 20, 21, 22, 26, 29]

end Sys2Proof.Claims

/-- R9, R21, R30, R54, R124, R131, R136, R144: the reads that wait for no turn answer DONE with what stands and change nothing else.
An address not polled is reported UNKNOWN with no pending commands, and one in map conflict CONFLICT, whatever a reset has
left in its record (log entry 15). READ SWEEP reports IDLE with no sweep in progress; with one, SUSPENDED in the turn of a firm walk's
step or of a request that writes the permit table or the presence pool, and RUNNING otherwise. That a sweep which starts during such a
turn is SUSPENDED at once is the model's reading (log entry 52). -/
def Obligations.PlainReadsAnswer : Prop :=
  ∀ (l : Link) (s : State),
    (Handed l .readClock s → exec (.readClock l) s = .next (answered l .readClock .done
      (.clock s.clock (weekdayOf (dayNumber s.clock.year s.clock.month s.clock.day)) s.clockUnset) s)) ∧
    (∀ r : RoomNo, Handed l (.readRoom r.val) s → exec (.readRoom l r.val) s = .next (answered l (.readRoom r.val) .done
      (.room (s.room r) (s.roomState r).list.length) s)) ∧
    (Handed l .readMap s → exec (.readMap l) s = .next (answered l .readMap .done
      (.map ((List.finRange 8).map fun i => look s.stationMap i)) s)) ∧
    (Handed l .readFreeze s → exec (.readFreeze l) s = .next (answered l .readFreeze .done
      (.freezes ((List.finRange 8).map fun i => look s.freezes i)) s)) ∧
    (Handed l .readTimings s → exec (.readTimings l) s = .next (answered l .readTimings .done
      (.timingsAndLock s.timings s.locked) s)) ∧
    (∀ a : LoopAddr, Handed l (.readStation a.val) s → exec (.readStation l a.val) s = .next
      (answered l (.readStation a.val) .done (.station (mapOutcome s a) a
        (if mapOutcome s a = .unpolled then { s.station a with state := .unknown, decision := none, mode := none }
          else { s.station a with state := heldIn s a })) s)) ∧
    (∀ r : RoomNo, Handed l (.readDoor r.val) s → exec (.readDoor l r.val) s = .next (answered l (.readDoor r.val) .done
      (.door (s.door r).state (s.door r).contact
        ((s.door r).tied.filterMap fun i => (s.presence i).map (·.badge)) s.evacuating s.evacuateTaken s.edgeCount (s.hold r)) s)) ∧
    (Handed l .readSweep s →
      let reports := fun (x : SweepState) => exec (.readSweep l) s = .next (answered l .readSweep .done
        (.sweep x s.sweep.run s.sweep.pending s.sweep.pendingFull s.sweep.overruns s.walk) s)
      (s.sweep.run = none → reports .idle) ∧ (s.sweep.run ≠ none → TableWriteTurn s → reports .suspended) ∧
        (s.sweep.run ≠ none → ¬ TableWriteTurn s → reports .running))

/-! ### Checks of the requests' owners (R6 to R170) -/

namespace Sys2Proof.Claims

open Sys2Proof.Machine

/-- The permit a number names, if any slot holds it (R37). -/
def named (number : Nat) (s : State) : Option Permit :=
  (List.finRange 256).findSome? fun i => (s.permit i).filter (·.number == number)

/-- The slot that holds it. -/
def namedSlot (number : Nat) (s : State) : Option SlotNo :=
  (List.finRange 256).find? fun i => (s.permit i).any (·.number == number)

/-- R33: the standing is a terminal state. -/
def Terminal : Standing → Bool
  | .ended _ _ => true
  | _ => false

/-- R32: the standing is SUSPENDED. -/
def Held : Standing → Bool
  | .suspended _ _ _ => true
  | _ => false

/-- R37 and log entry 13: the tail of a draft or an amend does not agree with itself. -/
def tailAmiss (flags : Byte) (pattern : Option PatternBody) (count : Nat) (rooms : List Nat) : Bool :=
  decide (count < 1 ∨ 8 < count ∨ count ≠ rooms.length ∨ pattern.isSome ≠ flags.getLsbD 4) ||
    pattern.any fun k => k.weekdays.getLsbD 7

/-- R39 check 4. -/
def roomsAmiss (rooms : List Nat) (s : State) : Bool :=
  (rooms.any fun n => decide (∀ r : RoomNo, r.val = n → s.room r = none)) || !decide rooms.Nodup

/-- R39 check 5. -/
def spanAmiss (start stop : CivilMinute) (pattern : Option PatternBody) : Bool :=
  !start.inRange || !stop.inRange || (pattern.any fun k => decide (1439 < k.starts ∨ 1439 < k.ends)) ||
    decide (absMinute stop ≤ absMinute start)

/-- R40: the span end after its clamp. -/
def clampedEnd (start stop : CivilMinute) : Nat := min (absMinute stop) (absMinute start + 44640)

/-- R33: how many live-or-held permits a badge holds. -/
def heldByBadge (badge : Nat) (s : State) : Nat :=
  ((List.finRange 256).filter fun i => (s.permit i).any fun p => p.badge == badge && !Terminal p.standing).length

/-- The checks of a request's owner in their order (R6, R8, R11, R17, R22, R25, R27, R30, R37, R39, R42, R45 to R51, R112, R113, R124,
R131, R134, R145, R158, R170, R171), each true where it fails, with the status it gives. Codes that no table defines fail the form
check, at the place log entry 13 names, and so does a list filter whose kind does not fit its length (log entry 53); a list filter's
badge or firm is not checked (log entry 31), nor a reason beside another select than DENIAL-OF (log entry 48); a badge of 0 is looked
at before the room (log entry 19); and CLOCK-UNSET is read as the request is served, while the minute is that of its turn's grant (log
entry 44). -/
def ownersChecks (l : Link) (s : State) : Request → List (Bool × Status)
  | .setClock t => [(!t.inRange, .badTime)]
  | .alignClock => [(s.clockUnset, .wrongState)]
  | .setMark m => [(decide ¬ MarkInRange m, .badTime)]
  | .writeRoom b =>
    [(s.locked, .locked), (decide (1 < b.configured ∨ (b.configured = 1 ∧ 2 < b.roomClass)), .badLength),
      (decide (63 < b.room ∨ (b.configured = 1 ∧ (b.maximum < 1 ∨ 16 < b.maximum ∨ (b.roomClass = 0 ∧ b.maximum = 1)))), .badRoom),
      (decide (∃ r : RoomNo, r.val = b.room ∧ ((s.roomState r).list ≠ [] ∨ s.hold r ≠ none)), .occupied)]
  | .writeMap b =>
    [(s.locked, .locked),
      (decide (¬ Describes b none ∧ (7 < b.number ∨ ¬ Describes b (some ⟨b.first, b.size, b.room⟩))), .badRoom),
      (decide (¬ Describes b none ∧ ∃ i : Fin 8, i.val ≠ b.number ∧
        (look s.stationMap i).any (fun e => decide ¬ Apart ⟨b.first, b.size, b.room⟩ e) = true), .badRoom)]
  | .setFreeze b =>
    [(decide (8 ≤ b.classes.toNat), .badLength), (decide (7 < b.entry ∨ b.classes = 0), .badRoom),
      (!b.start.inRange || !b.stop.inRange || decide (absMinute b.stop ≤ absMinute b.start), .badTime)]
  | .clearFreeze n => [(decide (7 < n), .badRoom)]
  | .writeTimings _ => [(s.locked, .locked)]
  | .readRoom n => [(decide (63 < n), .badRoom)]
  | .readDoor n => [(decide (63 < n), .badRoom)]
  | .readStation n => [(decide (127 < n), .badRoom)]
  | .draftPermit b =>
    [(tailAmiss b.flags b.pattern b.count b.rooms ||
        decide (32 ≤ b.flags.toNat ∨ b.permit = 0 ∨ b.firm = 0 ∨ 999 < b.firm ∨ b.badge = 0), .badLength),
      (s.clockUnset, .badTime), ((named b.permit s).isSome, .duplicate), (decide (∀ i, s.permit i ≠ none), .tableFull),
      (!b.flags.getLsbD 3 && (s.permit b.slot).isSome, .wrongState), (roomsAmiss b.rooms s, .badRoom),
      (spanAmiss b.start b.stop b.pattern, .badTime), (decide (clampedEnd b.start b.stop ≤ turnMinute s), .alreadyOver),
      (decide (4 ≤ heldByBadge b.badge s), .badgeLimit)]
  | .amendPermit b =>
    [(tailAmiss b.flags b.pattern b.count b.rooms || decide (32 ≤ b.flags.toNat) || b.flags.getLsbD 1 || b.flags.getLsbD 3,
        .badLength),
      ((named b.permit s).isNone, .noSuchPermit), (s.clockUnset, .badTime),
      ((named b.permit s).any (Terminal ·.standing), .wrongState), (roomsAmiss b.rooms s, .badRoom),
      (spanAmiss b.start b.stop b.pattern, .badTime), (decide (clampedEnd b.start b.stop ≤ turnMinute s), .alreadyOver)]
  | .countersign n v =>
    [((named n s).isNone, .noSuchPermit), ((named n s).any (·.revision.toNat != v), .stale),
      ((named n s).any (fun p => Held p.standing || Terminal p.standing), .wrongState)]
  | .suspendPermit n reason =>
    [(decide (reason = 0), .badLength), ((named n s).isNone, .noSuchPermit),
      ((named n s).any (Terminal ·.standing), .wrongState)]
  | .resumePermit n => [((named n s).isNone, .noSuchPermit), ((named n s).any (!Held ·.standing), .wrongState)]
  | .revokePermit n => [((named n s).isNone, .noSuchPermit), ((named n s).any (Terminal ·.standing), .wrongState)]
  | .closePermit n => [((named n s).isNone, .noSuchPermit), ((named n s).any (Terminal ·.standing), .wrongState)]
  | .purgePermit n =>
    [((named n s).isNone, .noSuchPermit), ((named n s).any (!Terminal ·.standing), .wrongState),
      (decide (∃ k, (s.presence k).any (fun x => some x.slot == namedSlot n s) = true), .occupied)]
  | .readPermit (.number n) => [((named n s).isNone, .noSuchPermit)]
  | .readPermit (.slot i) => [((s.permit i).isNone, .noSuchPermit)]
  | .listPermits _ .undefined _ => [(true, .badLength)]
  | .listPermits _ (.state c) _ => [(decide (8 < c), .badLength)]
  | .readOccupancy (.room n) => [(decide (63 < n), .badRoom)]
  | .readOccupancy (.badge b) => [(decide (b = 0), .badLength)]
  | .reconcileRoom n b => [(decide (b = some 0), .badLength), (decide (63 < n), .badRoom)]
  | .allClear => [(!s.evacuating || s.evacuateTaken, .wrongState)]
  | .suspendFirm firm reason => [(decide (firm = 0 ∨ 999 < firm ∨ reason = 0), .badLength)]
  | .resumeFirm firm => [(decide (firm = 0 ∨ 999 < firm), .badLength)]
  | .setAttentionMode m => [(decide (1 < m), .badLength)]
  | .setCounter b =>
    [(decide (7 < b.number ∨ 12 < b.select ∨ (b.select = 2 ∧ (b.reason < 1 ∨ 17 < b.reason)) ∨ 1 < b.notify), .badLength),
      (decide (l = .works ↔ 4 ≤ b.number), .notYours), (decide (63 < b.filter ∧ b.filter ≠ 255), .badRoom)]
  | .readCounter n => [(decide (7 < n), .badLength), (decide (l = .works ↔ 4 ≤ n), .notYours)]
  | _ => []

/-- R38: a PERMIT-CHANGE record of permit `p`, as it stands after the change, in slot `i`. -/
def changeRecord (i : SlotNo) (before after : PermitState) (p : Permit) (source : Source) : JournalBody where
  kind := .permitChange
  badge := some p.badge
  permit := some p.number
  outcome := some (.permit after)
  change := some ⟨i, before, source, p.revision⟩

/-- The one slot that holds a permit number, and its permit (R33, R37). -/
abbrev Named (number : Nat) (i : SlotNo) (p : Permit) (s : State) : Prop :=
  s.permit i = some p ∧ p.number = number ∧ ∀ j q, s.permit j = some q → q.number = number → j = i

/-- R35, R38, R91: a permit record replaced, its change journalled and the holds re-tested. -/
def replaced (i : SlotNo) (before : PermitState) (q : Permit) (source : Source) (s : State) : State :=
  retestHolds i q.badge (writeJournal (changeRecord i before q.standing.state q source) (s.setPermit i (some q)))

end Sys2Proof.Claims

/-- R36, R175: every request whose owner checks it is answered with the status of the first check that fails, and nothing else
changes but that the turn of a request served in one ends. -/
def Obligations.FirstFailingCheckGivesTheReply : Prop :=
  ∀ (i : Instr) (l : Link) (r : Request) (st : Status) (s : State), i.request = some (l, r) → Handed l r s →
    firstFailing (ownersChecks l s r) = some st →
    (needsTurn r = false → exec i s = .next (answered l r st .nothing s)) ∧
      (s.turn.map Turn.user = some (.request l) → needsTurn r = true →
        exec i s = .next (endTurn (answered l r st .nothing s)))

/-! ### Permits (chapter 3) -/

namespace Sys2Proof.Claims

open Sys2Proof.Machine

/-- R40: the pattern a draft or an amend leaves held: none where its weekday set is empty. -/
def patternHeld (pattern : Option PatternBody) : Option Pattern :=
  pattern.bind fun k => if k.weekdays.setWidth 7 = 0 then none else some ⟨k.weekdays.setWidth 7, k.starts, k.ends⟩

/-- R40: CLAMPED where the span was too long or the pattern's weekday set empty. -/
def clampStatus (start stop : CivilMinute) (pattern : Option PatternBody) : Status :=
  if absMinute start + 44640 < absMinute stop ∨ (pattern ≠ none ∧ patternHeld pattern = none) then .clamped else .done

/-- R41: the record a draft makes at a minute, with the urgent grace held. -/
def drafted (b : DraftBody) (minute grace : Nat) : Permit where
  number := b.permit
  revision := 0
  standing := if b.flags.getLsbD 1 then .provisional else .pending
  firm := b.firm
  badge := b.badge
  role := if b.flags.getLsbD 0 then .supervisor else .worker
  rooms := b.rooms.filterMap roomNo?
  spanStart := absMinute b.start
  spanEnd := clampedEnd b.start b.stop
  pattern := patternHeld b.pattern
  urgent := b.flags.getLsbD 1
  escort := b.flags.getLsbD 2
  drafted := minute
  graceEnd := if b.flags.getLsbD 1 then some (minute + grace) else none
  countersigned := none

/-- R42: the five fields replaced whole and the revision one higher. -/
def rewritten (b : AmendBody) (p : Permit) : Permit :=
  { p with
    rooms := b.rooms.filterMap roomNo?
    spanStart := absMinute b.start
    spanEnd := clampedEnd b.start b.stop
    pattern := patternHeld b.pattern
    role := if b.flags.getLsbD 0 then .supervisor else .worker
    escort := b.flags.getLsbD 2
    revision := p.revision + 1 }

/-- R43: the new content `q` only takes away from `p`. -/
abbrev Narrows (p q : Permit) : Prop :=
  (∀ r ∈ q.rooms, r ∈ p.rooms) ∧ p.spanStart ≤ q.spanStart ∧ q.spanEnd ≤ p.spanEnd ∧ q.pattern = p.pattern ∧
    (p.escort = true → q.escort = true) ∧ (q.role = p.role ∨ q.role = .worker)

/-- R44: the permit that an amend of `p` to content `q` leaves, `none` for a terminal one. -/
def amended (p q : Permit) : Option Permit :=
  match p.standing with
  | .pending => some q
  | .active => some (if Narrows p q then q else { q with standing := .pending, countersigned := none })
  | .provisional => some (if Narrows p q then q else { q with standing := .pending, graceEnd := none })
  | .suspended .pending _ _ => some q
  | .suspended _ reason firmHeld =>
    some (if Narrows p q then q
      else { q with standing := .suspended .pending reason firmHeld, countersigned := none, graceEnd := none })
  | .ended _ _ => none

end Sys2Proof.Claims

/-- R38 to R41, R91: an accepted draft fills the slot named, or the lowest VACANT one for ANY, with the fields carried as clamped,
journals the change, posts PROVISIONAL-ISSUED where urgent, and replies with the slot, revision 0, the state and the grace end. The
minute is that of the turn's grant, and CLOCK-UNSET is read as the draft is served (the model's choice, log entry 44). -/
def Obligations.DraftFillsASlot : Prop :=
  ∀ (l : Link) (b : DraftBody) (s : State), InTurn l (.draftPermit b) s →
    firstFailing (ownersChecks l s (.draftPermit b)) = none →
    ∃ i : SlotNo, s.permit i = none ∧ (b.flags.getLsbD 3 = false → i = b.slot) ∧
      (b.flags.getLsbD 3 = true → ∀ j < i, s.permit j ≠ none) ∧
      let p := drafted b (turnMinute s) s.timings.grace
      let t := writeJournal (changeRecord i .vacant p.standing.state p .works) (s.setPermit i (some p))
      let u := if p.urgent then
          post { kind := .provisionalIssued, badge := some p.badge, permit := some p.number, figures := .value s.timings.grace } t
        else t
      exec (.draftPermit l b) s = .next (endTurn (answered l (.draftPermit b) (clampStatus b.start b.stop b.pattern)
        (.drafted i 0 p.standing.state p.graceEnd) (retestHolds i p.badge u)))

/-- R38, R42 to R44, R91: an accepted amend replaces the five fields, raises the revision, and leaves the state and the optional
fields that R44's table gives for the state held and for whether it narrows; the reply carries the new revision and state. The minute
of its checks is that of the turn's grant, and CLOCK-UNSET is read as it is served (the model's choice, log entry 44). -/
def Obligations.AmendLeavesTheStateOfItsTable : Prop :=
  ∀ (l : Link) (b : AmendBody) (i : SlotNo) (p q : Permit) (s : State), InTurn l (.amendPermit b) s →
    firstFailing (ownersChecks l s (.amendPermit b)) = none → Named b.permit i p s → amended p (rewritten b p) = some q →
    exec (.amendPermit l b) s = .next (endTurn (answered l (.amendPermit b) (clampStatus b.start b.stop b.pattern)
      (.amended (p.revision + 1) q.standing.state) (replaced i p.standing.state q .works s)))

/-- The law of R44: no Works Link request leaves an ACTIVE permit admitting a room at a minute at which it did not admit it
before. -/
def Obligations.NoWorksRequestWidensAnActivePermit : Prop :=
  ∀ (c : Instr) (r : Request) (s t : State), c.request = some (.works, r) → RequestsOwned s → exec c s = .next t →
    ∀ (i : SlotNo) (q : Permit), t.permit i = some q → q.standing = .active →
      ∃ p, s.permit i = some p ∧ p.standing = .active ∧
        ∀ (room : RoomNo) (n e m : Nat), evaluate t q room n .overstay = .passes e m →
          ∃ e' m', evaluate s p room n .overstay = .passes e' m'

/-- R38, R45, R91: COUNTERSIGN is a security request; an unknown number gives NO-SUCH-PERMIT, then another revision STALE, then a
PENDING or PROVISIONAL permit becomes ACTIVE with its countersign minute and no grace end, is journalled and has the holds re-tested, an
ACTIVE one answers DONE unchanged, and any other gives WRONG-STATE; a DONE carries the state and the revision held. The countersign
minute is that of the turn's grant, where R45 says only the current absolute minute (the model's choice, log entry 44). -/
def Obligations.CountersignFollowsItsTable : Prop :=
  (∀ n v, (Request.countersign n v).allowedOn .security = true ∧ (Request.countersign n v).allowedOn .works = false) ∧
    (∀ n v s, InTurn .security (.countersign n v) s → (∀ i p, s.permit i = some p → p.number ≠ n) →
      exec (.countersign .security n v) s =
        .next (endTurn (answered .security (.countersign n v) .noSuchPermit .nothing s))) ∧
    ∀ n v i p s, InTurn .security (.countersign n v) s → Named n i p s →
      (p.revision.toNat ≠ v → exec (.countersign .security n v) s =
        .next (endTurn (answered .security (.countersign n v) .stale .nothing s))) ∧
      (p.revision.toNat = v → p.standing = .pending ∨ p.standing = .provisional →
        exec (.countersign .security n v) s = .next (endTurn (answered .security (.countersign n v) .done
          (.countersigned .active p.revision)
          (replaced i p.standing.state
            { p with standing := .active, countersigned := some (turnMinute s), graceEnd := none } .security s)))) ∧
      (p.revision.toNat = v → p.standing = .active → exec (.countersign .security n v) s =
        .next (endTurn (answered .security (.countersign n v) .done (.countersigned .active p.revision) s))) ∧
      (p.revision.toNat = v → Held p.standing = true ∨ Terminal p.standing = true → exec (.countersign .security n v) s =
        .next (endTurn (answered .security (.countersign n v) .wrongState .nothing s)))

/-- R34, R38, R46, R47, R91: SUSPEND PERMIT keeps the former state as the return state, with its reason and firm-held no; RESUME PERMIT
takes the return state, but a PROVISIONAL one whose grace end has come becomes LAPSED, with its terminal minute and a LAPSED notice to
both queues. RESUME PERMIT holds the grace end against the minute of the turn's grant, where R47 says only the current absolute minute
(the model's choice, log entry 44); the terminal minute is that of the turn's taking (R34). -/
def Obligations.PermitsAreSuspendedAndResumed : Prop :=
  (∀ (l : Link) (n reason : Nat) (i : SlotNo) (p : Permit) (back : ReturnState) (s : State),
    InTurn l (.suspendPermit n reason) s → reason ≠ 0 → Named n i p s →
    ((p.standing = .pending ∧ back = .pending) ∨ (p.standing = .active ∧ back = .active) ∨
      (p.standing = .provisional ∧ back = .provisional) ∨ ∃ old held, p.standing = .suspended back old held) →
    exec (.suspendPermit l n reason) s = .next (endTurn (answered l (.suspendPermit n reason) .done .nothing
      (replaced i p.standing.state { p with standing := .suspended back reason false } .security s)))) ∧
  ∀ (l : Link) (n : Nat) (i : SlotNo) (p : Permit) (back : ReturnState) (reason : Nat) (held : Bool) (s : State),
    InTurn l (.resumePermit n) s → Named n i p s → p.standing = .suspended back reason held →
    let resumed := fun (x : Standing) => exec (.resumePermit l n) s =
      .next (endTurn (answered l (.resumePermit n) .done (.resumed x.state)
        (replaced i .suspended { p with standing := x } .security s)))
    (back = .pending → resumed .pending) ∧ (back = .active → resumed .active) ∧
      (∀ g, back = .provisional → p.graceEnd = some g → turnMinute s < g → resumed .provisional) ∧
      (∀ g, back = .provisional → p.graceEnd = some g → g ≤ turnMinute s →
        let q := { p with standing := .ended .lapsed (turnMinute s) }
        exec (.resumePermit l n) s = .next (endTurn (answered l (.resumePermit n) .done (.resumed .lapsed)
          (retestHolds i p.badge
            (post { kind := .lapsed, badge := some p.badge, permit := some p.number }
              (writeJournal (changeRecord i .suspended .lapsed q .security) (s.setPermit i (some q))))))))

/-- R34, R38, R48, R49, R91: REVOKE and CLOSE end a live-or-held permit at the turn's minute; PURGE makes VACANT the slot of a terminal
one that no presence refers to. The revision a purge's record carries is the discarded record's (log entry 17). -/
def Obligations.PermitsAreEndedAndPurged : Prop :=
  (∀ (l : Link) (n : Nat) (i : SlotNo) (p : Permit) (s : State), InTurn l (.revokePermit n) s → Named n i p s →
    Terminal p.standing = false →
    exec (.revokePermit l n) s = .next (endTurn (answered l (.revokePermit n) .done .nothing
      (replaced i p.standing.state { p with standing := .ended .revoked (turnMinute s) } .security s)))) ∧
  (∀ (l : Link) (n : Nat) (i : SlotNo) (p : Permit) (s : State), InTurn l (.closePermit n) s → Named n i p s →
    Terminal p.standing = false →
    exec (.closePermit l n) s = .next (endTurn (answered l (.closePermit n) .done .nothing
      (replaced i p.standing.state { p with standing := .ended .closed (turnMinute s) } .works s)))) ∧
  ∀ (l : Link) (n : Nat) (i : SlotNo) (p : Permit) (s : State), InTurn l (.purgePermit n) s → Named n i p s →
    Terminal p.standing = true → (∀ k x, s.presence k = some x → x.slot ≠ i) →
    exec (.purgePermit l n) s = .next (endTurn (answered l (.purgePermit n) .done .nothing
      (retestHolds i p.badge
        (writeJournal (changeRecord i p.standing.state .vacant p .works) (s.setPermit i none)))))

namespace Sys2Proof.Claims

open Sys2Proof.Machine

/-- Section 11.3: a number sent in one, two, three or four octets, high octet first. -/
def be1 (v : Nat) : List Byte := [BitVec.ofNat 8 v]
/-- Two octets. -/
def be2 (v : Nat) : List Byte := be1 (v / 256) ++ be1 v
/-- Three octets. -/
def be3 (v : Nat) : List Byte := be1 (v / 65536) ++ be2 v
/-- Four octets. -/
def be4 (v : Nat) : List Byte := be1 (v / 16777216) ++ be3 v

/-- Section 11.3: a time of five octets. -/
def time5 (t : CivilMinute) : List Byte := be1 (t.year - 2000) ++ be1 t.month ++ be1 t.day ++ be1 t.hour ++ be1 t.minute

/-- Section 11.3: a time of six octets. -/
def time6 (t : CivilTime) : List Byte :=
  be1 (t.year - 2000) ++ be1 t.month ++ be1 t.day ++ be1 t.hour ++ be1 t.minute ++ be1 t.second

/-- Section 11.3: the minute held, FFh and zeros when absent. -/
def timeHeld (m : Option Nat) : List Byte :=
  match m with
  | some m => time5 (civilOf m)
  | none => [0xFF, 0, 0, 0, 0]

/-- A flag's place in an octet. -/
def bitAt (k : Nat) (b : Bool) : Nat := if b then 2 ^ k else 0

/-- Section 11.3: the permit states, in the order of their codes from 0. -/
def permitStates : List PermitState :=
  [.vacant, .pending, .active, .provisional, .suspended, .lapsed, .expired, .revoked, .closed]

/-- Section 11.3: the presence states, in the order of their codes from 0. -/
def presenceStates : List PresenceState := [.arriving, .inside, .leaving, .unverified]

/-- Section 11.3: the READ PERMIT reply body after its status. -/
def permitBody (i : SlotNo) (p : Permit) (presence : Option (RoomNo × PresenceState)) : List Byte :=
  be1 i.val ++ be2 p.number ++ be1 p.revision.toNat ++ be1 (permitStates.idxOf p.standing.state) ++ be2 p.firm ++ be3 p.badge ++
    be1 (bitAt 0 (p.role == .supervisor) + bitAt 1 p.urgent + bitAt 2 p.escort + bitAt 4 p.pattern.isSome +
      bitAt 5 (match p.standing with | .suspended _ _ held => held | _ => false)) ++
    time5 (civilOf p.drafted) ++ time5 (civilOf p.spanStart) ++ time5 (civilOf p.spanEnd) ++
    (match p.pattern with | some k => be1 k.weekdays.toNat ++ be2 k.starts ++ be2 k.ends | none => [0, 0, 0, 0, 0]) ++
    timeHeld p.graceEnd ++ timeHeld p.countersigned ++
    timeHeld (match p.standing with | .ended _ m => some m | _ => none) ++
    be1 (match p.standing with
      | .suspended .pending _ _ => 1 | .suspended .active _ _ => 2 | .suspended .provisional _ _ => 3 | _ => 255) ++
    be1 (match p.standing with | .suspended _ reason _ => reason | _ => 0) ++
    (match presence with | some (r, x) => be1 r.val ++ be1 (presenceStates.idxOf x) | none => [0xFF, 0xFF]) ++
    be1 p.rooms.length ++ p.rooms.flatMap fun r => be1 r.val

/-- R51: a slot matches a filter. -/
def Matches (f : ListFilter) (s : State) (i : SlotNo) : Bool :=
  match f with
  | .all => (s.permit i).isSome
  | .badge b => (s.permit i).any (·.badge == b)
  | .firm x => (s.permit i).any (·.firm == x)
  | .state c => (slotState s i).code == c
  | .undefined => false

end Sys2Proof.Claims

/-- R50, R51, section 11.3: READ PERMIT returns the record with the room and state of the presence that refers to its slot, in the
octets of section 11.3, which make with the code and the status a length of 53 and the rooms; LIST PERMITS returns the first matches
from the start slot on, at most the count taken as 1 to 16, and the slot after the last one examined. Neither changes anything else.
That a badge of 0 or a firm outside its range is no bar in a filter (log entry 31), and that the state's octet too is FFh where no
presence refers to the slot (log entry 39), are the model's choices. -/
def Obligations.PermitsAreReadAndListed : Prop :=
  (∀ (l : Link) (i : SlotNo) (p : Permit) (s : State), s.permit i = some p →
    let content := ReplyContent.permit i p
      (((List.finRange 128).findSome? fun k => (s.presence k).filter (·.slot == i)).map fun x => (x.room, x.state))
    (InTurn l (.readPermit (.slot i)) s →
      exec (.readPermit l (.slot i)) s = .next (endTurn (answered l (.readPermit (.slot i)) .done content s))) ∧
    (∀ n, InTurn l (.readPermit (.number n)) s → Named n i p s →
      exec (.readPermit l (.number n)) s = .next (endTurn (answered l (.readPermit (.number n)) .done content s)))) ∧
  (∀ (i : SlotNo) (p : Permit) (presence : Option (RoomNo × PresenceState)),
    (ReplyContent.permit i p presence).octets = permitBody i p presence ∧
      (permitBody i p presence).length + 2 = 53 + p.rooms.length) ∧
  ∀ (l : Link) (start : SlotNo) (f : ListFilter) (count : Nat) (s : State), InTurn l (.listPermits start f count) s →
    f ≠ .undefined → (∀ c, f = .state c → c ≤ 8) →
    let most := max 1 (min 16 count)
    let hits := (List.finRange 256).filter fun i => decide (start ≤ i) && Matches f s i
    exec (.listPermits l start f count) s = .next (endTurn (answered l (.listPermits start f count)
      (if most = count then .done else .clamped)
      (.slots (hits.take most) (match hits[most - 1]? with | some i => i.val + 1 | none => 256)) s))

/-! ### Window evaluation (chapter 4) -/

namespace Sys2Proof.Claims

open Sys2Proof.Machine

/-- Section 4.2: a period of a pattern: it begins at F on day `d`, whose weekday is named, and ends at the next T that follows. -/
structure Period (k : Pattern) (d : Int) (starts ends : Int) : Prop where
  named : k.weekdays.getLsbD ((d + 6) % 7).toNat = true
  starts : starts = d * 1440 + k.starts
  ends : ends = if k.starts < k.ends then d * 1440 + k.ends else (d + 1) * 1440 + k.ends

/-- R66: a permit's validity end. -/
abbrev ValidUntil (p : Permit) (e : Nat) : Prop :=
  if p.standing = .provisional then ∃ g, p.graceEnd = some g ∧ e = min p.spanEnd g else e = p.spanEnd

/-- R64: a live standing. -/
abbrev Live (p : Permit) : Prop := p.standing = .active ∨ p.standing = .provisional

end Sys2Proof.Claims

/-- R67 to R69, section 4.2: a minute has a slot end just where a period of the pattern contains it, and the slot end is the minute at
which that period ends. The day before 2000-01-01 counts as a Friday. -/
def Obligations.SlotPatternsArePeriods : Prop :=
  ∀ (k : Pattern) (n e : Nat), k.starts ≤ 1439 → k.ends ≤ 1439 →
    (k.slotEnd n = some e ↔ ∃ (d b t : Int), Period k d b t ∧ b ≤ n ∧ (n : Int) < t ∧ t = (e : Int))

/-- R63 to R66, R70, R71: a permit fails at the first stage that bars it, with that stage's reason and number; one that no stage
bars passes with its validity end and the least of what span, slot and 1439 leave, which is never below 1. -/
def Obligations.PermitIsMeasuredInStages : Prop :=
  ∀ (s : State) (p : Permit) (r : RoomNo) (n e : Nat) (purpose : Purpose),
    (p.standing = .pending → evaluate s p r n purpose = .fails .notCountersigned 1) ∧
    (Held p.standing = true → evaluate s p r n purpose = .fails .suspended 1) ∧
    (Terminal p.standing = true → evaluate s p r n purpose = .fails .noPermit 1) ∧
    (Live p → r ∉ p.rooms → evaluate s p r n purpose = .fails .notThisRoom 2) ∧
    (Live p → r ∈ p.rooms → n < p.spanStart → evaluate s p r n purpose = .fails .notYet 3) ∧
    (Live p → r ∈ p.rooms → p.spanStart ≤ n → ValidUntil p e →
      (e ≤ n → evaluate s p r n purpose = .fails .over 3) ∧
      (∀ k, n < e → p.pattern = some k → k.slotEnd n = none → evaluate s p r n purpose = .fails .outOfSlot 4) ∧
      (n < e → (∀ k, p.pattern = some k → k.slotEnd n ≠ none) →
        let barred := p.urgent = false ∧ ∃ c, s.room r = some c ∧ frozen s c.roomClass n = true
        (purpose = .entry → barred → evaluate s p r n purpose = .fails .frozen 5) ∧
        (purpose = .overstay ∨ ¬ barred → ∃ m, evaluate s p r n purpose = .passes e m ∧ 1 ≤ m ∧
          (p.pattern = none → m = min 1439 (e - n)) ∧
          ∀ k t, p.pattern = some k → k.slotEnd n = some t → m = min 1439 (min (e - n) (t - n)))))

/-! ### Entry decisions (sections 5.2 and 5.3) -/

namespace Sys2Proof.Claims

open Sys2Proof.Machine

/-- R74, R75: the turn in progress is the decision of an entry read at a station, of a badge, begun at a reading of the clock. -/
abbrev EntryRead (a : LoopAddr) (badge : Nat) (drop : Bool) (began : CivilTime) (s : State) : Prop :=
  isEntry a = true ∧ s.turn = some ⟨.decision ⟨a, badge⟩ drop, began⟩

/-- R77: a read that steps 1 to 3 let through. -/
abbrev Admissible (a : LoopAddr) (r : RoomNo) (s : State) : Prop :=
  mapOutcome s a = .mapped r true ∧ s.clockUnset = false ∧ s.evacuating = false

/-- R53, R120: the end of a decision: its read is answered, or cleared where that was asked meanwhile, and the next turn granted. -/
def decisionEnds (a : LoopAddr) (drop : Bool) (t : State) : State :=
  endTurn (t.setStation a
    { t.station a with read := if drop then none else (t.station a).read.map fun q => ⟨q.badge, .answered⟩ })

/-- R76, R85: an entry read refused: the REFUSE queued, ENTRY-DENY journalled and the denial counted. -/
def refused (a : LoopAddr) (room : Option RoomNo) (badge : Nat) (why : Reason) (number : Option Nat) (s : State) : State :=
  report (.denial why) room 1
    (writeJournal { kind := .entryDeny, station := some a, room := room, badge := some badge, permit := number
                    outcome := some (.reason why) } (queueDecision true a (.refuse why) s))

/-- R76: a RELEASE with the release time held, queued at a station. -/
def released (a : LoopAddr) (minutes : Nat) (who : List PoolIx) (s : State) : State :=
  queueDecision true a (.release s.timings.release minutes who) s

/-- R85: an ENTRY-GRANT, RE-ENTRY or HOLD-OPEN record. -/
def entryRecord (kind : JournalKind) (a : LoopAddr) (r : RoomNo) (badge : Nat) (slot : SlotNo) (value : Nat) : State → State :=
  fun s => writeJournal
    { kind := kind, station := some a, room := some r, badge := some badge, permit := (s.permit slot).map (·.number)
      value := some value } s

/-- R78: the chosen permit of a badge, for a room at a minute: the eligible candidate with the latest validity end, the lowest slot
among equals. -/
structure Chooses (s : State) (r : RoomNo) (n badge : Nat) (c : Chosen) : Prop where
  slot : ∃ p, s.permit c.slot = some p ∧ p.badge = badge ∧ c.role = p.role ∧ c.escort = p.escort ∧
    evaluate s p r n .entry = .passes c.validityEnd c.minutes
  latest : ∀ j q e m, s.permit j = some q → q.badge = badge → evaluate s q r n .entry = .passes e m →
    e < c.validityEnd ∨ (e = c.validityEnd ∧ c.slot ≤ j)

/-- R79: the furthest candidate: the failure at the highest stage, the lowest slot among equals. -/
structure Furthest (s : State) (r : RoomNo) (n badge : Nat) (i : SlotNo) (p : Permit) (why : Reason) (stage : Nat) : Prop where
  slot : s.permit i = some p ∧ p.badge = badge ∧ evaluate s p r n .entry = .fails why stage
  furthest : ∀ j q, s.permit j = some q → q.badge = badge →
    ∃ why' stage', evaluate s q r n .entry = .fails why' stage' ∧ (stage' < stage ∨ (stage' = stage ∧ i ≤ j))

/-- R87: the badge has no presence in the room and no hold stands open for it there, so that steps 4 and 5 are reached. -/
abbrev Weighed (s : State) (r : RoomNo) (badge : Nat) : Prop :=
  ∀ h, s.hold r = some h → h.badge ≠ badge ∧ ∀ p ∈ roomPresences s r, p.badge ≠ badge

/-- R81, R87: the badge is ARRIVING in the room, where no hold stands open for it: step 4 is reached, with or without a hold there (log
entry 20). -/
abbrev WeighedArriving (s : State) (r : RoomNo) (badge : Nat) : Prop :=
  (∀ h, s.hold r = some h → h.badge ≠ badge) ∧ ∃ i p, s.presence i = some p ∧ p.badge = badge ∧ p.room = r ∧ p.state = .arriving ∧
    i ∈ (s.roomState r).list ∧ ∀ j q, s.presence j = some q → q.badge = badge → j = i

/-- R99: the badge's one presence. -/
abbrev Present (s : State) (badge : Nat) (i : PoolIx) (p : Presence) : Prop :=
  s.presence i = some p ∧ p.badge = badge ∧ ∀ j q, s.presence j = some q → q.badge = badge → j = i

/-- R80: the badge has no presence and waits at no other room's door. -/
abbrev Nowhere (s : State) (r : RoomNo) (badge : Nat) : Prop :=
  (∀ i p, s.presence i = some p → p.badge ≠ badge) ∧ ∀ q h, q ≠ r → s.hold q = some h → h.badge ≠ badge

end Sys2Proof.Claims

/-- R75, R77 to R79, R85, R87: an entry read is dropped where its address is no longer polled, and is refused with the reason of the
first of steps 1 to 4 that bars it; at step 4 with the furthest candidate's reason and permit number, or with NO-PERMIT and no number
where the badge has no candidate. With a hold open at the room step 4 is reached by a badge that is not present there and, by the
model's reading of R87 (log entry 20), by one ARRIVING there. That CLOCK-UNSET is read as the read is decided, while N is the minute at
which the turn began, is its choice (log entry 44). -/
def Obligations.EntryIsRefusedByItsFirstBar : Prop :=
  ∀ (a : LoopAddr) (badge : Nat) (drop : Bool) (began : CivilTime) (s : State), EntryRead a badge drop began s →
    let refuses := fun room why number =>
      exec .entryDecision s = .next (decisionEnds a drop (refused a room badge why number s))
    (mapOutcome s a = .unpolled →
      exec .entryDecision s = .next (endTurn (s.setStation a { s.station a with read := none }))) ∧
    (mapOutcome s a = .conflict → refuses none .mapConflict none) ∧
    ∀ r : RoomNo,
      (mapOutcome s a = .mapped r false → refuses (some r) .unmapped none) ∧
      (mapOutcome s a = .mapped r true → s.clockUnset = true → refuses (some r) .clockUnset none) ∧
      (mapOutcome s a = .mapped r true → s.clockUnset = false → s.evacuating = true → refuses (some r) .evacuation none) ∧
      (Admissible a r s → Weighed s r badge ∨ WeighedArriving s r badge →
        ((∀ i p, s.permit i = some p → p.badge ≠ badge) → refuses (some r) .noPermit none) ∧
        ∀ i p why stage, Furthest s r began.abs badge i p why stage → refuses (some r) why (some p.number))

/-- R80, R85, R87: step 5 with a permit chosen: a badge present elsewhere and not UNVERIFIED, or waiting at another door, is refused
with PASSBACK; one UNVERIFIED elsewhere is removed with RECONCILED-AUTO and decided as if it had been nowhere. -/
def Obligations.PassbackIsRefusedOrYields : Prop :=
  ∀ (a : LoopAddr) (r : RoomNo) (badge : Nat) (drop : Bool) (began : CivilTime) (c : Chosen) (s : State),
    EntryRead a badge drop began s → Admissible a r s → Weighed s r badge → Chooses s r began.abs badge c →
    let refusal := exec .entryDecision s = .next (decisionEnds a drop (refused a (some r) badge .passback none s))
    (∀ i p, Present s badge i p → p.room ≠ r → p.state ≠ .unverified → refusal) ∧
    ((∀ i p, s.presence i = some p → p.badge ≠ badge) → (∃ q h, q ≠ r ∧ s.hold q = some h ∧ h.badge = badge) → refusal) ∧
    ∀ i p, Present s badge i p → p.room ≠ r → p.state = .unverified →
      (∀ q h, q ≠ r → s.hold q = some h → h.badge ≠ badge) →
      exec .entryDecision s = exec .entryDecision (reexamine p.room
        (if (s.permit p.slot).any (·.role == .supervisor) = true then [badge] else [])
        (writeJournal { kind := .reconciledAuto, room := some p.room, badge := some badge
                        permit := (s.permit p.slot).map (·.number) } (removePresence i s)))

/-- R81, R85, R87: an entry read of a badge present in its own room. With no hold open there INSIDE, UNVERIFIED and LEAVING are a
re-entry; with or without a hold an ARRIVING badge's running release is repeated with the seconds it has left, 0 between the TICK that
ends them and RELEASE_END; with no release running the seconds are a free value of 1 to 30 (all three the model's choices, log entry
20: at a room with a hold R87 sends such a read to step 4 first). -/
def Obligations.PresentBadgesAreReEnteredOrRepeated : Prop :=
  ∀ (a : LoopAddr) (r : RoomNo) (badge : Nat) (drop : Bool) (began : CivilTime) (c : Chosen) (i : PoolIx) (p : Presence)
    (s : State), EntryRead a badge drop began s → Admissible a r s → Chooses s r began.abs badge c →
    Present s badge i p → p.room = r → i ∈ (s.roomState r).list → (∀ h, s.hold r = some h → h.badge ≠ badge) →
    (p.state ≠ .arriving → s.hold r = none →
      exec .entryDecision s = .next (decisionEnds a drop (reexamine r [] (report .grants (some r) 1
        (entryRecord .reEntry a r badge c.slot c.minutes
          (released a c.minutes [] ((uncarry [i] s).setPresence i (some { p with state := .inside, slot := c.slot })))))))) ∧
    (∀ left, p.state = .arriving → (s.door r).state = .released left →
      exec .entryDecision s = .next (decisionEnds a drop (queueDecision true a (.release left c.minutes []) s))) ∧
    (p.state = .arriving → (∀ left, (s.door r).state ≠ .released left) → ∃ left, 1 ≤ left ∧ left ≤ 30 ∧
      exec .entryDecision s = .next (decisionEnds a drop
        (queueDecision true a (.release left c.minutes []) { s with freeUsed := s.freeUsed + 1 })))

namespace Sys2Proof.Claims

open Sys2Proof.Machine

/-- R82: an empty class A room needs a companion. -/
abbrev CompanionNeeded (s : State) (r : RoomNo) : Prop :=
  (∃ k, s.room r = some k ∧ k.roomClass = .a) ∧ (s.roomState r).list = []

/-- R82: a worker whose permit requires escort needs one where no presence refers to a supervisor's permit. -/
abbrev EscortNeeded (s : State) (r : RoomNo) (c : Chosen) : Prop :=
  c.escort = true ∧ c.role = .worker ∧ ∀ p ∈ roomPresences s r, ∀ q, s.permit p.slot = some q → q.role ≠ .supervisor

/-- R83: the room takes `n` more. -/
abbrev RoomTakes (s : State) (r : RoomNo) (n : Nat) : Prop :=
  ∀ k, s.room r = some k → (s.roomState r).list.length + n ≤ k.maximum

/-- R83: the pool takes `n` more. -/
abbrev PoolTakes (s : State) (n : Nat) : Prop := poolCount s + n ≤ 128

/-- R84, R99, R100: a presence put in a free record and placed last in its room's list. -/
def arrives (i : PoolIx) (badge : Nat) (slot : SlotNo) (r : RoomNo) (minute : Nat) (s : State) : State :=
  (s.setPresence i (some ⟨badge, slot, r, minute, .arriving, false⟩)).setRoomState r
    { s.roomState r with list := (s.roomState r).list ++ [i] }

/-- R99: the lowest-numbered free record. -/
abbrev LowestFree (s : State) (i : PoolIx) : Prop := s.presence i = none ∧ ∀ j < i, s.presence j ≠ none

end Sys2Proof.Claims

/-- R82 to R86: steps 6 and 7 of an entry read at a room with no hold, its permit chosen and its badge nowhere: refused with
ROOM-FULL, then POOL-FULL, for the number to admit; granted alone where nothing is needed; otherwise a hold opens. -/
def Obligations.EntryIsGrantedOrHeld : Prop :=
  ∀ (a : LoopAddr) (r : RoomNo) (badge : Nat) (drop : Bool) (began : CivilTime) (c : Chosen) (s : State),
    EntryRead a badge drop began s → Admissible a r s → s.hold r = none → Chooses s r began.abs badge c → Nowhere s r badge →
    let alone := ¬ CompanionNeeded s r ∧ ¬ EscortNeeded s r c
    let answers := fun t => exec .entryDecision s = .next (decisionEnds a drop t)
    (∀ n, (alone → n = 1) → (¬ alone → n = 2) →
      (¬ RoomTakes s r n → answers (refused a (some r) badge .roomFull none s)) ∧
      (RoomTakes s r n → ¬ PoolTakes s n → answers (refused a (some r) badge .poolFull none s))) ∧
    (∀ i, alone → RoomTakes s r 1 → PoolTakes s 1 → LowestFree s i →
      answers (reexamine r [] (report .grants (some r) 1 (entryRecord .entryGrant a r badge c.slot c.minutes
        (released a c.minutes [i] (arrives i badge c.slot r began.abs s)))))) ∧
    (∀ needs, ¬ alone → RoomTakes s r 2 → PoolTakes s 2 →
      (needs = .companion ∧ CompanionNeeded s r ∧ ¬ EscortNeeded s r c ∨
        needs = .escort ∧ ¬ CompanionNeeded s r ∧ EscortNeeded s r c ∨
        needs = .both ∧ CompanionNeeded s r ∧ EscortNeeded s r c) →
      answers (entryRecord .holdOpen a r badge c.slot
        (match needs with | .companion => 1 | .escort => 2 | .both => 3)
        (queueDecision true a .wait
          (s.setHold r (some ⟨badge, c.slot, c.role, c.minutes, needs, began, s.timings.pairing⟩)))))

/-- R85, R87 to R89: an entry read at a room with an open hold. The first badge again gets WAIT; a badge already in the room and not
ARRIVING gets PASSBACK; a partner that leaves an escort requirement unmet gets NO-ESCORT, then ROOM-FULL or POOL-FULL for two, and
otherwise both are admitted on one release and the hold is gone. -/
def Obligations.PartnersAreJudgedWithTheHold : Prop :=
  ∀ (a : LoopAddr) (r : RoomNo) (badge : Nat) (drop : Bool) (began : CivilTime) (h : Hold) (s : State),
    EntryRead a badge drop began s → Admissible a r s → s.hold r = some h →
    let answers := fun t => exec .entryDecision s = .next (decisionEnds a drop t)
    (h.badge = badge → answers (queueDecision true a .wait s)) ∧
    (∀ i p, h.badge ≠ badge → Present s badge i p → i ∈ (s.roomState r).list → p.state ≠ .arriving →
      answers (refused a (some r) badge .passback none s)) ∧
    ∀ c, h.badge ≠ badge → (∀ p ∈ roomPresences s r, p.badge ≠ badge) → Chooses s r began.abs badge c → Nowhere s r badge →
      let met := (h.needs = .companion ∨ c.role = .supervisor) ∧
        (c.role = .supervisor ∨ c.escort = false ∨ h.role = .supervisor)
      (¬ met → answers (refused a (some r) badge .noEscort none s)) ∧
      (met → ¬ RoomTakes s r 2 → answers (refused a (some r) badge .roomFull none s)) ∧
      (met → RoomTakes s r 2 → ¬ PoolTakes s 2 → answers (refused a (some r) badge .poolFull none s)) ∧
      ∀ i j, met → RoomTakes s r 2 → PoolTakes s 2 → LowestFree s i →
        LowestFree (arrives i h.badge h.slot r began.abs s) j →
        answers (reexamine r [] (report .grants (some r) 2
          (entryRecord .entryGrant a r badge c.slot c.minutes
            (entryRecord .entryGrant a r h.badge h.slot h.minutes
              (released a (min h.minutes c.minutes) [i, j]
                (arrives j badge c.slot r began.abs (arrives i h.badge h.slot r began.abs (s.setHold r none))))))))

/-! ### Exit decisions (section 5.4) -/

/-- R94: whatever the part's state, an exit read decided at a polled address is answered with a RELEASE of the release time held and 0
minutes for display, pending at the station that read it. -/
def Obligations.EveryExitReadIsReleased : Prop :=
  ∀ (a : LoopAddr) (badge : Nat) (drop : Bool) (began : CivilTime) (s t : State), isEntry a = false →
    s.turn = some ⟨.decision ⟨a, badge⟩ drop, began⟩ → mapOutcome s a ≠ .unpolled → exec .exitDecision s = .next t →
    ∃ who, (t.station a).decision = some (.release s.timings.release 0 who)

/-- R75, R94 to R96: what an exit read does: dropped where its address is no longer polled; unmatched at a conflicted address, at an
unconfigured room and for a badge with no presence; a presence in this room becomes LEAVING on the new release, and one in another
room is removed as a mismatch, with both rooms re-examined. -/
def Obligations.ExitReadsMoveThePresence : Prop :=
  ∀ (a : LoopAddr) (badge : Nat) (drop : Bool) (began : CivilTime) (s : State), isEntry a = false →
    s.turn = some ⟨.decision ⟨a, badge⟩ drop, began⟩ →
    let answers := fun t => exec .exitDecision s = .next (decisionEnds a drop t)
    let unmatched := fun (room : Option RoomNo) (why : Option Reason) =>
      answers (post { kind := .exitUnmatched, station := some a, room := room, badge := some badge }
        (writeJournal { kind := .exitUnmatched, station := some a, room := room, badge := some badge
                        outcome := why.map .reason } (released a 0 [] s)))
    (mapOutcome s a = .unpolled →
      exec .exitDecision s = .next (endTurn (s.setStation a { s.station a with read := none }))) ∧
    (mapOutcome s a = .conflict → unmatched none (some .mapConflict)) ∧
    ∀ r : RoomNo,
      (mapOutcome s a = .mapped r false → unmatched (some r) (some .unmapped)) ∧
      (mapOutcome s a = .mapped r true → (∀ i p, s.presence i = some p → p.badge ≠ badge) → unmatched (some r) none) ∧
      ∀ i p, mapOutcome s a = .mapped r true → Present s badge i p →
        (p.room = r → answers (reexamine r [] (released a 0 [i]
          ((uncarry [i] s).setPresence i (some { p with state := .leaving }))))) ∧
        (p.room ≠ r → answers (reexamine r [] (reexamine p.room
          (if (s.permit p.slot).any (·.role == .supervisor) = true then [badge] else [])
          (post { kind := .exitMismatch, station := some a, room := some r, badge := some badge, figures := .value p.room.val }
            (writeJournal { kind := .exitMismatch, station := some a, room := some r, badge := some badge
                            value := some p.room.val } (released a 0 [] (removePresence i s)))))))

/-! ### Holds and commands (R76, R90, R91, R121) -/

/-- R90, R91: a hold whose ticks have run out closes with a REFUSE at its entry station, HOLD-TIMEOUT and two reports, its reason
NO-ESCORT where escort is its only need and NO-COMPANION otherwise; and a change to its permit cancels it with stage 1's reason
unless the permit stays live. That HOLD-TIMEOUTS is reported before DENIALS is the model's choice (log entry 50). -/
def Obligations.HoldsCloseOrAreCancelled : Prop :=
  (∀ (r : RoomNo) (h : Hold) (a : LoopAddr) (s : State), s.supply = .normal → s.hold r = some h → entryStation s r = some a →
    (0 < h.ticks → exec (.holdDeadline r) s = .next s) ∧
    (h.ticks = 0 →
      let why : Reason := if h.needs = .escort then .noEscort else .noCompanion
      exec (.holdDeadline r) s = .next (report (.denial why) (some r) 1 (report .holdTimeout (some r) 1
        (writeJournal { kind := .holdTimeout, station := some a, room := some r, badge := some h.badge
                        permit := (s.permit h.slot).map (·.number), outcome := some (.reason why) }
          (queueDecision false a (.refuse why) (s.setHold r none))))))) ∧
  ∀ (r : RoomNo) (h : Hold) (a : LoopAddr) (i : SlotNo) (badge : Nat) (s : State), s.hold r = some h →
    entryStation s r = some a →
    (h.slot ≠ i ∨ h.badge ≠ badge → retestHold i badge s r = s) ∧
    (∀ p, h.slot = i → h.badge = badge → s.permit i = some p → Live p → retestHold i badge s r = s) ∧
    ∀ why : Reason, h.slot = i → h.badge = badge →
      (why = .noPermit ∧ s.permit i = none ∨ ∃ p, s.permit i = some p ∧
        (why = .notCountersigned ∧ p.standing = .pending ∨ why = .suspended ∧ Held p.standing = true ∨
          why = .noPermit ∧ Terminal p.standing = true)) →
      retestHold i badge s r = report (.denial why) (some r) 1
        (writeJournal { kind := .holdCancelled, station := some a, room := some r, badge := some badge
                        permit := (s.permit i).map (·.number), outcome := some (.reason why) }
          (queueDecision true a (.refuse why) (s.setHold r none)))

/-- R76, R103, R120, R121: a decision command queued at a station replaces the one pending, and one discarded leaves none; one that a
POLL was carrying is lost to it (the model's reading, log entry 10); the presences of a replaced or discarded RELEASE are resolved as
unused, at once in the turn that does it, and else held while a turn is in progress; and a pending read that is cleared leaves the read
queue too if it was still DECIDING, or is cleared when its decision ends if that holds the turn. -/
def Obligations.QueuedCommandReplacesThePendingOne : Prop :=
  (∀ (own : Bool) (a : LoopAddr) (c : Option DecisionCommand) (s : State),
    let t : State := { s with
      stations := put s.stations a { s.station a with decision := c }
      polling := if s.polling = some ⟨a, .decision⟩ then some ⟨a, .nothing⟩ else s.polling }
    let leaves := fun u => (∀ d, c = some d → queueDecision own a d s = u) ∧ (c = none → discardDecision own a s = u)
    ((∀ x m who, (s.station a).decision = some (.release x m who) → who = []) → leaves t) ∧
    ∀ x m who, (s.station a).decision = some (.release x m who) → who ≠ [] →
      (own = true ∨ s.turn = none ∧ s.heldEffects = [] → leaves (resolve resolveUnused who t)) ∧
      (own = false → s.turn ≠ none ∨ s.heldEffects ≠ [] →
        leaves { t with heldEffects := s.heldEffects ++ [.unused who] })) ∧
  ∀ (a : LoopAddr) (badge : Nat) (s : State),
    let t := s.setStation a { s.station a with read := none }
    ((s.station a).read = none → clearRead a s = s) ∧
    ((s.station a).read = some ⟨badge, .answered⟩ → clearRead a s = t) ∧
    (∀ rd drop began, (s.station a).read = some ⟨badge, .deciding⟩ → s.turn = some ⟨.decision rd drop, began⟩ → rd.address = a →
      clearRead a s = { s with turn := some ⟨.decision rd true, began⟩ }) ∧
    ((s.station a).read = some ⟨badge, .deciding⟩ →
      (∀ rd drop began, s.turn = some ⟨.decision rd drop, began⟩ → rd.address ≠ a) →
      clearRead a s = { t with readQueue := s.readQueue.filter (·.address ≠ a) })

/-! ### Presences (chapter 6) -/

namespace Sys2Proof.Claims

open Sys2Proof.Machine

/-- R102: one presence of an opened release: ARRIVING becomes INSIDE, LEAVING is removed, any other stays. -/
def openedOne (i : PoolIx) (s : State) : State :=
  match s.presence i with
  | none => s
  | some p =>
    let body : JournalBody := { kind := .entered, room := some p.room, badge := some p.badge
                                permit := (s.permit p.slot).map (·.number) }
    match p.state with
    | .arriving => report .entries (some p.room) 1 (writeJournal { body with station := entryStation s p.room }
        (s.setPresence i (some { p with state := .inside })))
    | .leaving => report .exits (some p.room) 1 (writeJournal { body with kind := .exit, station := exitStation s p.room }
        (removePresence i s))
    | _ => s

/-- R103: one presence of a release that came to nothing: ARRIVING is removed, LEAVING returns to INSIDE, any other stays. -/
def unusedOne (i : PoolIx) (s : State) : State :=
  match s.presence i with
  | none => s
  | some p =>
    let body : JournalBody := { kind := .grantUnused, room := some p.room, badge := some p.badge
                                permit := (s.permit p.slot).map (·.number) }
    match p.state with
    | .arriving => writeJournal body (removePresence i s)
    | .leaving => writeJournal { body with kind := .exitUnused } (s.setPresence i (some { p with state := .inside }))
    | _ => s

/-- R106: a room's lone presence: class A, and just this one of its presences in a state other than ARRIVING. -/
abbrev Alone (s : State) (r : RoomNo) (i : PoolIx) : Prop :=
  (∃ k, s.room r = some k ∧ k.roomClass = .a) ∧
    ((s.roomState r).list.filter fun j => (s.presence j).any (·.state != .arriving)) = [i]

/-- R105, R106, R110: a room's state brought up to date, with no report. -/
abbrev BroughtUp (r : RoomNo) (s t : State) : Prop :=
  (t.roomState r).list = (s.roomState r).list ∧
    (t.roomState r).uncertain = ((s.roomState r).uncertain && !(s.roomState r).list.isEmpty) ∧
    ((∀ i, ¬ Alone s r i) → (t.roomState r).lone = none) ∧
    ∀ i, Alone s r i →
      (∀ k, (s.roomState r).lone = some k → k.who = i → (t.roomState r).lone = some k) ∧
      ((∀ k, (s.roomState r).lone = some k → k.who ≠ i) → (t.roomState r).lone = some ⟨i, s.clock.abs, false⟩)

end Sys2Proof.Claims

/-- R102, R103, R105, R106, R108, R110: a presence in its room's list, opened or unused, enters, leaves, is removed or stays with its
record and report, and ceases to be carried; several on one release are resolved in the order of their room's list, and the room is
then re-examined once; and a re-examination applies the lone rule, the escort check after one supervisor's removal, and clears an empty
room's uncertain mark. That ENTERED and EXIT name the station of the presence's room as the map then stands, or none, is the model's
choice (log entry 51). -/
def Obligations.PresencesAreResolvedAndRoomsReexamined : Prop :=
  (∀ (i : PoolIx) (p : Presence) (s : State), s.presence i = some p → (s.roomState p.room).list.filter (· = i) = [i] →
    let u := uncarry [i] s
    let gone := if (s.permit p.slot).any (·.role == .supervisor) = true then [p.badge] else []
    let record := fun kind station => writeJournal
      { kind := kind, station := station, room := some p.room, badge := some p.badge, permit := (s.permit p.slot).map (·.number) }
    (p.state = .arriving → applyEffect (.opened [i]) s = reexamine p.room [] (report .entries (some p.room) 1
      (record .entered (entryStation s p.room) (u.setPresence i (some { p with state := .inside }))))) ∧
    (p.state = .leaving → applyEffect (.opened [i]) s = reexamine p.room gone (report .exits (some p.room) 1
      (record .exit (exitStation s p.room) (removePresence i u)))) ∧
    (p.state = .arriving → applyEffect (.unused [i]) s =
      reexamine p.room gone (record .grantUnused none (removePresence i u))) ∧
    (p.state = .leaving → applyEffect (.unused [i]) s =
      reexamine p.room [] (record .exitUnused none (u.setPresence i (some { p with state := .inside }))))) ∧
  (∀ (r : RoomNo) (who : List PoolIx) (s : State), who ≠ [] → (∀ i ∈ who, ∃ p, s.presence i = some p ∧ p.room = r) →
    (s.roomState r).list.Nodup →
    let order := (s.roomState r).list.filter (· ∈ who)
    let gone := fun (removed : PresenceState) => order.filterMap fun i => (s.presence i).bind fun p =>
      if p.state = removed ∧ (s.permit p.slot).any (·.role == .supervisor) = true then some p.badge else none
    applyEffect (.opened who) s = reexamine r (gone .leaving) (order.foldl (fun t i => openedOne i t) (uncarry who s)) ∧
      applyEffect (.unused who) s = reexamine r (gone .arriving) (order.foldl (fun t i => unusedOne i t) (uncarry who s))) ∧
  ∀ (r : RoomNo) (s : State),
    ∃ t, BroughtUp r s t ∧ t = { s with occupancy := put s.occupancy r (t.roomState r) } ∧ reexamine r [] s = t ∧
      ∀ badge,
        let left := ((roomPresences s r).filter fun p =>
          (s.permit p.slot).any fun q => q.escort && decide (q.role = .worker)).length
        let escorted := ∃ p ∈ roomPresences s r, ∃ q, s.permit p.slot = some q ∧ q.role = .supervisor
        (escorted ∨ left = 0 → reexamine r [badge] s = t) ∧
        (¬ escorted → 0 < left → reexamine r [badge] s =
          writeJournal { kind := .unescorted, room := some r, badge := some badge, value := some left }
            (post { kind := .unescorted, room := some r, badge := some badge, figures := .value left } t))

namespace Sys2Proof.Claims

open Sys2Proof.Machine

/-- R112: what READ OCCUPANCY gives of a presence: its permit's number, role and escort flag with its own fields, whether it is
carried on a release and whether it is tied. -/
abbrev Viewed (s : State) (i : PoolIx) (p : Presence) (v : OccupantView) : Prop :=
  ∀ q, s.permit p.slot = some q → v = ⟨p.badge, some q.number, p.slot, q.role, q.escort, p.state, p.entry, p.overstay,
    isCarried s i, decide (∃ r, i ∈ (s.door r).tied)⟩

/-- R113, R161: the RECONCILE record of a presence removed, with the code of the state it held. -/
def reconcileRecord (p : Presence) (s : State) : JournalBody where
  kind := .reconcile
  room := some p.room
  badge := some p.badge
  permit := (s.permit p.slot).map (·.number)
  value := some (match p.state with | .arriving => 0 | .inside => 1 | .leaving => 2 | .unverified => 3)

/-- R113: one presence removed and journalled RECONCILE. -/
def reconciled (i : PoolIx) (p : Presence) (s : State) : State :=
  writeJournal (reconcileRecord p s) (removePresence i s)

end Sys2Proof.Claims

/-- R101, R112, R113, R161: READ OCCUPANCY answers with the room's list in order or the badge's one presence, and changes nothing;
RECONCILE ROOM removes and journals the badge's presence in the room, or is EMPTY, and for ALL removes every presence of the list,
with one RECONCILE record each in list order, and clears the uncertain mark; the presences removed cease to be carried and tied, and
no others do. That a position is counted from 0 is the model's choice (log entry 33). -/
def Obligations.OccupancyIsReadAndReconciled : Prop :=
  (∀ (l : Link) (r : RoomNo) (s : State), InTurn l (.readOccupancy (.room r.val)) s →
    ∃ (views : List OccupantView) (lone : Option (Nat × Nat × Bool)),
    List.Forall₂ (fun i v => ∀ p, s.presence i = some p → Viewed s i p v)
      ((s.roomState r).list.filter fun i => (s.presence i).isSome) views ∧
    (∀ k p, (s.roomState r).lone = some k → s.presence k.who = some p → lone = some (p.badge, k.since, k.reported)) ∧
    ((s.roomState r).lone = none → lone = none) ∧
    exec (.readOccupancy l (.room r.val)) s = .next (endTurn (answered l (.readOccupancy (.room r.val)) .done
      (.roomOccupancy (s.room r) (s.roomState r).list.length (s.roomState r).uncertain lone views) s))) ∧
  (∀ (l : Link) (badge : Nat) (s : State), InTurn l (.readOccupancy (.badge badge)) s → badge ≠ 0 →
    ((∀ i p, s.presence i = some p → p.badge ≠ badge) →
      exec (.readOccupancy l (.badge badge)) s =
        .next (endTurn (answered l (.readOccupancy (.badge badge)) .done (.badgeOccupancy none) s))) ∧
    ∀ i p, Present s badge i p → ∃ v, Viewed s i p v ∧
      exec (.readOccupancy l (.badge badge)) s = .next (endTurn (answered l (.readOccupancy (.badge badge)) .done
        (.badgeOccupancy (some (v, p.room, (s.roomState p.room).list.idxOf i))) s))) ∧
  ∀ (l : Link) (r : RoomNo) (s : State),
    (∀ badge, InTurn l (.reconcileRoom r.val (some badge)) s → badge ≠ 0 →
      ((∀ p ∈ roomPresences s r, p.badge ≠ badge) →
        exec (.reconcileRoom l r.val (some badge)) s =
          .next (endTurn (answered l (.reconcileRoom r.val (some badge)) .empty (.reconciled 0) s))) ∧
      ∀ i p, Present s badge i p → (s.roomState r).list.filter (· = i) = [i] →
        exec (.reconcileRoom l r.val (some badge)) s =
          .next (endTurn (answered l (.reconcileRoom r.val (some badge)) .done (.reconciled 1)
            (reexamine r (if (s.permit p.slot).any (·.role == .supervisor) = true then [badge] else []) (reconciled i p s))))) ∧
    (InTurn l (.reconcileRoom r.val none) s → (s.roomState r).list.Nodup →
      (∀ i ∈ (s.roomState r).list, ∃ p, s.presence i = some p ∧ p.room = r) →
      ∃ t, exec (.reconcileRoom l r.val none) s = .next (endTurn (answered l (.reconcileRoom r.val none) .done
          (.reconciled (s.roomState r).list.length) t)) ∧
        t.roomState r = ⟨[], none, false⟩ ∧ (∀ q, q ≠ r → t.roomState q = s.roomState q) ∧
        (∀ i, t.presence i = if i ∈ (s.roomState r).list then none else s.presence i) ∧
        t.nextSequence = s.nextSequence + BitVec.ofNat 32 (s.roomState r).list.length ∧
        t.journal = ((roomPresences s r).foldl (fun u p => writeJournal (reconcileRecord p s) u) s).journal ∧
        (∀ a, t.station a = { s.station a with decision := (s.station a).decision.map (·.without (s.roomState r).list) }) ∧
        (∀ q, t.door q = { s.door q with tied := (s.door q).tied.filter (· ∉ (s.roomState r).list) }) ∧
        t.heldEffects = s.heldEffects.map (·.without (s.roomState r).list) ∧
        t = { s with
          pool := t.pool, occupancy := t.occupancy, stations := t.stations, doors := t.doors
          heldEffects := t.heldEffects, journal := t.journal, nextSequence := t.nextSequence })

/-! ### The station loop and the doors (chapter 7) -/

namespace Sys2Proof.Claims

open Sys2Proof.Machine

/-- R21, R117: an address is polled: mapped or in map conflict. -/
abbrev Polled (s : State) (a : LoopAddr) : Prop := mapOutcome s a ≠ .unpolled

/-- R23, R117: the address polled next, and the addresses no longer polled that still belong to its pass: the lowest above the last of
those polled and of those that ceased to be in this pass; or else the lowest polled, with which the next pass begins. -/
abbrev PolledNext (s : State) (a : LoopAddr) (kept : List LoopAddr) : Prop :=
  let ahead := fun c => (∃ b, s.lastPolled = some b ∧ b < c) ∧ (Polled s c ∨ c ∈ s.passKept)
  (ahead a ∧ (∀ c, ahead c → a ≤ c) ∧ kept = s.passKept) ∨
    ((∀ c, ¬ ahead c) ∧ Polled s a ∧ (∀ c, Polled s c → a ≤ c) ∧ kept = [])

/-- R118: the slot whose command a POLL to a station carries. -/
abbrev CarriedTo (x : Station) (c : Carried) : Prop :=
  (c = .mode ∧ x.mode ≠ none) ∨
    (c = .decision ∧ x.mode = none ∧ x.decision ≠ none ∧ ∀ q, x.read = some q → q.phase = .answered) ∨
    (c = .nothing ∧ x.mode = none ∧ (x.decision = none ∨ ∃ q, x.read = some q ∧ q.phase = .deciding))

/-- R127: no opening pends at the door of an exit station's room. -/
abbrev NothingToJudge (s : State) (a : LoopAddr) : Prop :=
  isEntry a = true ∨ ∀ r, roomOf s a = some r → (s.door r).openingPending = false

end Sys2Proof.Claims

namespace Sys2Proof.Claims

open Sys2Proof.Machine

/-- R127: an opening judged forced at an exit station's reply or miss. -/
def judgedForced (r : RoomNo) (s : State) : State :=
  report .doorForced (some r) 1 (writeJournal { kind := .forced, station := entryStation s r, room := some r }
    (post { kind := .forcedDoor, station := entryStation s r, room := some r }
      (s.setDoor r { s.door r with state := .forced, pushMark := false, openingPending := false })))

/-- R127: an opening judged unread egress. -/
def judgedEgress (r : RoomNo) (s : State) : State :=
  let t := report .unreadEgress (some r) 1 (writeJournal { kind := .unreadEgress, station := exitStation s r, room := some r }
    (post { kind := .unreadEgress, station := exitStation s r, room := some r }
      (s.setDoor r { s.door r with state := .opened s.timings.heldOpen, pushMark := false, openingPending := false })))
  t.setRoomState r { s.roomState r with uncertain := true }

/-- R122: a third miss reported: OFFLINE with 3 misses, STATION-MISSES, the STATION-OFFLINE notice and its record. -/
def reportedOffline (a : LoopAddr) (s : State) : State :=
  writeJournal { kind := .stationOffline, station := some a, room := roomOf s a }
    (post { kind := .stationOffline, station := some a, room := roomOf s a }
      (report .stationMiss (roomOf s a) 1 (s.setStation a { s.station a with state := .offline, misses := 3 })))

/-- R130: a room's door made UNKNOWN (RETURN), its running release handed over as unused. -/
def doorLost (r : RoomNo) (s : State) : State :=
  if (s.door r).state = .evacuation then s
  else handOver .unused r
    (s.setDoor r { s.door r with state := .unknown .back, contact := none, pushMark := false, openingPending := false })

/-- R92: a room's hold cancelled with HOLD-CANCELLED at a station and, where given, a reason. -/
def holdCancelled (a : Option LoopAddr) (why : Option Reason) (r : RoomNo) (s : State) : State :=
  match s.hold r with
  | none => s
  | some h => writeJournal { kind := .holdCancelled, station := a, room := some r, badge := some h.badge
                             permit := (s.permit h.slot).map (·.number), outcome := why.map .reason } (s.setHold r none)

end Sys2Proof.Claims

/-- R21, R23, R92, R103, R117, R118, R122, R127, R130: POLL goes on to the next address of the pass with at most one command. A miss
of an UNKNOWN or ONLINE station is counted and reported; the third puts it OFFLINE with its notice and record, its decision command
and its pending read gone, and at an entry station its room's hold gone and its door UNKNOWN (RETURN); an OFFLINE or CONFLICT
station's miss counts nothing, and an address in map conflict is held in CONFLICT whatever its record (log entry 15). A miss of an
exit station first judges a pending opening, by the push-bar mark (the model's reading, log entry 16). All this holds of the POLL
still out, or still to come in its pass, to an address that a WRITE MAP has unmapped (log entry 11). That a loop which has been silent
goes on with the pass it was in is the model's choice (log entry 55). -/
def Obligations.StationsArePolledAndMissed : Prop :=
  (∀ (a : LoopAddr) (kept : List LoopAddr) (c : Carried) (s : State), s.supply = .normal → s.polling = none →
    PolledNext s a kept → CarriedTo (s.station a) c →
    exec .poll s = .next { s with lastPolled := some a, passKept := kept, polling := some ⟨a, c⟩ }) ∧
  (∀ s : State, s.supply = .backup ∨ s.polling ≠ none ∨ (∀ a kept, ¬ PolledNext s a kept) → exec .poll s = .next s) ∧
  (∀ s : State, s.supply = .backup ∨ s.polling = none → exec .stationMiss s = .next s) ∧
  ∀ (a : LoopAddr) (c : Carried) (s : State), s.supply = .normal → s.polling = some ⟨a, c⟩ →
    let x := s.station a
    let idle : State := { s with polling := none }
    (∀ r, isEntry a = false → roomOf s a = some r → (s.door r).openingPending = true →
      ((s.door r).pushMark = false → exec .stationMiss s = exec .stationMiss (judgedForced r s)) ∧
        ((s.door r).pushMark = true → exec .stationMiss s = exec .stationMiss (judgedEgress r s))) ∧
    (NothingToJudge s a →
      (heldIn s a = .offline ∨ heldIn s a = .conflict → exec .stationMiss s = .next idle) ∧
      (heldIn s a = .unknown ∨ heldIn s a = .online →
        (x.misses < 2 → exec .stationMiss s =
          .next (report .stationMiss (roomOf s a) 1 (idle.setStation a { x with misses := x.misses + 1 }))) ∧
        (2 ≤ x.misses →
          let gone := clearRead a (discardDecision false a (reportedOffline a idle))
          ((∀ r, isEntry a = true → roomOf s a ≠ some r) → exec .stationMiss s = .next gone) ∧
          (∀ r, isEntry a = true → roomOf s a = some r →
            exec .stationMiss s = .next (holdCancelled (some a) none r (doorLost r gone))) ∧
          ∃ t, exec .stationMiss s = .next t ∧ t.polling = none ∧ (t.station a).state = .offline ∧ (t.station a).misses = 3 ∧
            (t.station a).decision = none ∧ (t.station a).mode = x.mode ∧
            ((∀ rd drop began, s.turn ≠ some ⟨.decision ⟨a, rd⟩ drop, began⟩) → (t.station a).read = none) ∧
            (∀ r, isEntry a = true → roomOf s a = some r → t.hold r = none ∧
              ((s.door r).state ≠ .evacuation → (t.door r).state = .unknown .back ∧ (t.door r).contact = none ∧
                (t.door r).tied = [])) ∧
            t = { s with
              polling := none, stations := t.stations, doors := t.doors, holds := t.holds, pool := t.pool
              occupancy := t.occupancy, heldEffects := t.heldEffects, readQueue := t.readQueue, turn := t.turn
              notices := t.notices, journal := t.journal, nextSequence := t.nextSequence, counters := t.counters
              ports := t.ports, freeUsed := t.freeUsed })))

/-- R21, R118 to R120, R122, R123, R126, R127, R132: a good reply of an exit station first judges a pending opening, by its push-bar
report or the mark, and is from there on a reply whose report is used (the model's reading, log entry 35). It then delivers the
command carried, a RELEASE at its room's door; brings the station ONLINE, with notice and record where it was OFFLINE, unless it is
held in CONFLICT, as one in map conflict is whatever its record (log entry 15); takes its tamper input, with a TAMPER notice where it
was clear; and after the door's report hands a read it offers to the Decision Unit once. A decision command not carried stays pending.
Each of these steps is stated as the reply's being, from there on, that of the part with the step done. A reply that names another
address is a miss. An address that a WRITE MAP has unmapped has its last reply taken like any other (log entry 11). -/
def Obligations.GoodRepliesAreTaken : Prop :=
  ∀ (a : LoopAddr) (c : Carried) (rep : StatusReport) (s : State), s.supply = .normal → s.polling = some ⟨a, c⟩ →
    (rep.address ≠ a → exec (.statusReply rep) s = exec .stationMiss s) ∧
    (rep.address = a →
      let x := s.station a
      let asFrom := fun (t : State) =>
        exec (.statusReply rep) s = exec (.statusReply rep) { t with polling := some ⟨a, .nothing⟩ }
      let answeredRead := { x with decision := none, read := none }
      (∀ r, isEntry a = false → roomOf s a = some r → (s.door r).openingPending = true →
        exec (.statusReply rep) s = exec (.statusReply { rep with door := false })
          (if rep.door = true ∨ (s.door r).pushMark = true then judgedEgress r s else judgedForced r s)) ∧
      (NothingToJudge s a → c = .mode → asFrom (s.setStation a { x with mode := none })) ∧
      (NothingToJudge s a → c = .decision → (∀ q, x.read = some q → q.phase = .answered) →
        (∀ seconds minutes who r, x.decision = some (.release seconds minutes who) → roomOf s a = some r →
          asFrom (deliverRelease r seconds who (s.setStation a answeredRead))) ∧
        (x.decision ≠ none → roomOf s a = none ∨ (∀ seconds minutes who, x.decision ≠ some (.release seconds minutes who)) →
          asFrom (s.setStation a answeredRead))) ∧
      (NothingToJudge s a → c = .nothing →
        let heard := s.setStation a { x with state := .online, misses := 0 }
        let alarmed := fun (t : State) =>
          if s.evacuating = true ∧ x.mode ≠ some .evacRelease then queueMode false .evacRelease a t else t
        (heldIn s a = .online → asFrom heard) ∧ (heldIn s a = .unknown → asFrom (alarmed heard)) ∧
        (heldIn s a = .offline → asFrom (alarmed (writeJournal { kind := .stationOnline, station := some a, room := roomOf s a }
          (post { kind := .stationOnline, station := some a, room := roomOf s a } heard)))) ∧
        (heldIn s a = .conflict ∨ (heldIn s a = .online ∧ x.misses = 0) →
          let noted := s.setStation a { x with tamper := rep.tamper }
          asFrom (if rep.tamper = true ∧ x.tamper = false then
            post { kind := .tamper, station := some a, room := roomOf s a } noted else noted))) ∧
      ∃ t, exec (.statusReply rep) s = .next t ∧ t.polling = none ∧
        (t.station a).state = (if heldIn s a = .conflict then x.state else .online) ∧
        (heldIn s a = .conflict → (t.station a).misses = x.misses) ∧ (heldIn s a ≠ .conflict → (t.station a).misses = 0) ∧
        (t.station a).tamper = rep.tamper ∧
        (c = .decision → (t.station a).decision = none) ∧
        (c ≠ .decision → s.evacuating = false → ∃ who, (∀ k ∈ who, ∃ r, roomOf s a = some r ∧ k ∈ running s r) ∧
          (t.station a).decision = x.decision.map (·.without who)) ∧
        (s.evacuating = false → (t.station a).mode = if c = .mode then none else x.mode) ∧
        (s.evacuating = true → heldIn s a = .unknown ∨ heldIn s a = .offline → (t.station a).mode = some .evacRelease) ∧
        (x.read = none → rep.read ≠ 0 →
          (t.station a).read = some ⟨rep.read, .deciding⟩ ∧
          (s.turn ≠ none → t.readQueue = s.readQueue ++ [⟨a, rep.read⟩]) ∧
          (s.turn = none → s.heldEffects = [] → s.readQueue = [] →
            t.turn = some ⟨.decision ⟨a, rep.read⟩ false, s.clock⟩ ∧ t.readQueue = [])) ∧
        (∀ q, x.read = some q → q.phase = .answered → c = .decision → x.decision ≠ none → rep.read = 0 →
          (t.station a).read = none) ∧
        (x.read ≠ none → c = .nothing → s.evacuating = false →
          (t.station a).read = x.read ∧ t.readQueue = s.readQueue ∧ t.turn = s.turn) ∧
        t = { s with
          polling := none, stations := t.stations, doors := t.doors, pool := t.pool, occupancy := t.occupancy
          heldEffects := t.heldEffects, readQueue := t.readQueue, turn := t.turn, notices := t.notices, journal := t.journal
          nextSequence := t.nextSequence, counters := t.counters, ports := t.ports, freeUsed := t.freeUsed })

namespace Sys2Proof.Claims

open Sys2Proof.Machine

/-- R119: a good reply of a room's ONLINE station that carries nothing but its door report. -/
abbrev PlainReply (a : LoopAddr) (r : RoomNo) (rep : StatusReport) (s : State) : Prop :=
  s.supply = .normal ∧ s.polling = some ⟨a, .nothing⟩ ∧ roomOf s a = some r ∧ rep.address = a ∧ rep.read = 0 ∧
    (s.station a).state = .online ∧ (s.station a).misses = 0 ∧ rep.tamper = (s.station a).tamper

/-- R128, R130: a door that becomes HELD, with its notice, record and report. -/
def heldOpen (r : RoomNo) (d : Door) (s : State) : State :=
  report .doorHeld (some r) 1 (writeJournal { kind := .held, station := entryStation s r, room := some r }
    (post { kind := .heldDoor, station := entryStation s r, room := some r } (s.setDoor r { d with state := .held })))

end Sys2Proof.Claims

/-- R102, R104, R125 to R130: what a delivered RELEASE, a contact report, the exit station's judgement of a pending opening, the end
of a release, the held-open limit and a resolution held during a turn do to a door. A door's tied set, with the presences whose tie
waits for a turn to end, is handed over and empty at once, and its resolution is held during a turn (that it empties then is the
model's reading, log entry 22). A judging reply's push-bar is used by its judgement (the model's reading, log entry 35). -/
def Obligations.DoorsFollowTheirReports : Prop :=
  (∀ (f : List PoolIx → PresenceEffect) (r : RoomNo) (s : State), (∀ who, (f who).names = who) →
    (running s r = [] → handOver f r s = s) ∧
    (running s r ≠ [] →
      (s.turn ≠ none ∨ s.heldEffects ≠ [] → handOver f r s =
        let t := uncarry (running s r) s
        { t with heldEffects := t.heldEffects ++ [f (running s r)] }) ∧
      (s.turn = none → s.heldEffects = [] → handOver f r s = applyEffect (f (running s r)) (uncarry (running s r) s))) ∧
    ((uncarry (running s r) s).door r).tied = []) ∧
  (∀ (r : RoomNo) (seconds : Nat) (who : List PoolIx) (s : State),
    ((s.door r).state = .secure ∨ (∃ n, (s.door r).state = .released n) → deliverRelease r seconds who s =
      reportEffect (.tie r who) (s.setDoor r { s.door r with state := .released seconds })) ∧
    ((∃ n, (s.door r).state = .opened n) ∨ (s.door r).state = .held ∨ (s.door r).state = .forced →
      deliverRelease r seconds who s = reportEffect (.opened who) s) ∧
    (∀ x, (s.door r).state = .unknown x → deliverRelease r seconds who s = reportEffect (.unused who) s) ∧
    ((s.door r).state = .evacuation → deliverRelease r seconds who s = reportEffect (.drop who) s)) ∧
  (∀ (a : LoopAddr) (r : RoomNo) (rep : StatusReport) (s : State), PlainReply a r rep s → isEntry a = true →
    let u : State := { s with polling := none }
    let d := { s.door r with contact := some rep.door }
    let opens := rep.door = true ∧ (s.door r).contact ≠ some true
    let closes := rep.door = false ∧ (s.door r).contact = some true
    let leaves := fun t => exec (.statusReply rep) s = .next t
    (∀ n, (s.door r).state = .released n → opens →
      leaves (handOver .opened r (u.setDoor r { d with state := .opened s.timings.heldOpen }))) ∧
    ((s.door r).state = .secure → opens → leaves (u.setDoor r { d with openingPending := true })) ∧
    ((s.door r).state = .unknown .back → rep.door = true → leaves (heldOpen r d u)) ∧
    ((s.door r).state = .unknown .clear → rep.door = true →
      leaves (u.setDoor r { d with state := .opened s.timings.heldOpen })) ∧
    (∀ x, (s.door r).state = .unknown x → rep.door = false → leaves (u.setDoor r { d with state := .secure })) ∧
    ((∃ n, (s.door r).state = .opened n) ∨ (s.door r).state = .held ∨ (s.door r).state = .forced → closes →
      leaves (u.setDoor r { d with state := .secure })) ∧
    ((s.door r).state = .evacuation ∨
        (((s.door r).state = .secure ∨ ∃ n, (s.door r).state = .released n) ∧ ¬ opens) ∨
        (((∃ n, (s.door r).state = .opened n) ∨ (s.door r).state = .held ∨ (s.door r).state = .forced) ∧ ¬ closes) →
      leaves (u.setDoor r d))) ∧
  (∀ (a : LoopAddr) (r : RoomNo) (rep : StatusReport) (s : State), PlainReply a r rep s → isEntry a = false →
    let u : State := { s with polling := none }
    let leaves := fun t => exec (.statusReply rep) s = .next t
    ((s.door r).openingPending = false → leaves (u.setDoor r { s.door r with pushMark := rep.door })) ∧
    ((s.door r).openingPending = true → rep.door = true ∨ (s.door r).pushMark = true → leaves (judgedEgress r u)) ∧
    ((s.door r).openingPending = true → rep.door = false → (s.door r).pushMark = false → leaves (judgedForced r u))) ∧
  (∀ (r : RoomNo) (s : State), s.supply = .normal →
    ((s.door r).state = .released 0 → (s.door r).contact ≠ some true → exec (.releaseEnd r) s =
      .next (handOver .unused r (s.setDoor r { s.door r with state := .secure }))) ∧
    ((s.door r).state ≠ .released 0 ∨ (s.door r).contact = some true → exec (.releaseEnd r) s = .next s) ∧
    ((s.door r).state = .opened 0 → exec (.heldOpenLimit r) s = .next (heldOpen r (s.door r) s)) ∧
    ((s.door r).state ≠ .opened 0 → exec (.heldOpenLimit r) s = .next s)) ∧
  ∀ s : State,
    (∀ e es, s.turn = none → s.heldEffects = e :: es →
      exec .heldResolution s = .next (grantNext (applyEffect e { s with heldEffects := es }))) ∧
    (s.turn ≠ none ∨ s.heldEffects = [] → exec .heldResolution s = .next s)

namespace Sys2Proof.Claims

open Sys2Proof.Machine

/-- R100: a room's list names each of its presences once. -/
abbrev Listed (s : State) : Prop :=
  ∀ r, (s.roomState r).list.Nodup ∧ ∀ i ∈ (s.roomState r).list, ∃ p, s.presence i = some p ∧ p.room = r

/-- R105, R106, R110, R114 to R116: a room after every ARRIVING presence has been removed: its list closed up, its lone state brought
up to date, and its uncertain mark cleared where the list emptied. -/
structure Refreshed (s t : State) (r : RoomNo) : Prop where
  list : (t.roomState r).list = (s.roomState r).list.filter fun i => (s.presence i).any (·.state != .arriving)
  untouched : (s.roomState r).list = [] → t.roomState r = s.roomState r
  mark : (s.roomState r).list ≠ [] →
    (t.roomState r).uncertain = ((s.roomState r).uncertain && !(t.roomState r).list.isEmpty)
  nobody : (s.roomState r).list ≠ [] → (∀ i, ¬ Alone t r i) → (t.roomState r).lone = none
  same : ∀ i k, Alone t r i → (s.roomState r).lone = some k → k.who = i → (t.roomState r).lone = some k
  fresh : ∀ i, Alone t r i → (∀ k, (s.roomState r).lone = some k → k.who ≠ i) →
    (t.roomState r).lone = some ⟨i, s.clock.abs, false⟩

/-- R92: the HOLD-CANCELLED records of an evacuation, room by room. -/
def holdsCancelled (s : State) : List JournalBody :=
  (List.finRange 64).filterMap fun r => (s.hold r).map fun h =>
    { kind := .holdCancelled, station := entryStation s r, room := some r, badge := some h.badge
      permit := (s.permit h.slot).map (·.number), outcome := some (.reason .evacuation) }

end Sys2Proof.Claims

/-- R92, R103, R104, R109, R111, R115, R121, R132 to R134: an evacuation's first edge announces itself, queues EVAC-RELEASE in place
of every decision command, whose presences are resolved as unused, puts every door in EVACUATION with its tied set untied at once, and
ends every hold with its record; other presences, the permits and the configuration stay. A further edge raises the count, a fall
records the line; and an accepted ALL CLEAR undoes the state, queues RESUME-NORMAL, settles the doors, and leaves only UNVERIFIED
presences. That a room empty before ALL CLEAR keeps its uncertain mark is the model's reading (log entry 34), and so is that no effect
held during a turn ties anyone after the first edge (log entry 22); that the holds' records follow those of the resolutions, in
ascending order of rooms, is its choice (log entry 9). -/
def Obligations.EvacuationBeginsAndEnds : Prop :=
  (∀ s : State, s.supply = .normal → s.evacuateLine = false → s.evacuating = false →
    ∃ t, exec .evacuateRise s = .next t ∧ t.evacuateLine = true ∧ t.evacuateTaken = true ∧ t.evacuating = true ∧
      t.edgeCount = 1 ∧ (∀ r, t.hold r = none) ∧
      (∀ r, t.door r = { s.door r with state := .evacuation, openingPending := false, tied := [] }) ∧
      (∀ r who, PresenceEffect.tie r who ∈ t.heldEffects → who = []) ∧
      (∀ a, Polled s a → (t.station a).mode = some .evacRelease ∧ (t.station a).decision = none) ∧
      (∀ l, (s.queue l).notices.length < 32 →
        (⟨{ kind := .evacuation, figures := .value 1 }, 7, s.clock⟩ : Notice) ∈ (t.queue l).notices) ∧
      (∃ later mid, t.journal = (s.journal ++
          (⟨s.nextSequence, s.clock, { kind := .evacStart, value := some 1 }⟩ : JournalRecord) :: later).drop
            (s.journal.length + 1 + later.length - 512) ∧
        later.map (·.body) = mid ++ holdsCancelled s ∧
        ∀ b ∈ mid, b.kind = .grantUnused ∨ b.kind = .exitUnused ∨ b.kind = .unescorted) ∧
      (∀ i p, s.presence i = some p → (∀ a, Polled s a → i ∉ carriedOn (s.station a)) → t.presence i = some p) ∧
      (∀ a i p, Polled s a → i ∈ carriedOn (s.station a) → s.presence i = some p → i ∈ (s.roomState p.room).list →
        s.turn = none → s.heldEffects = [] →
        t.presence i = if p.state = .arriving then none else if p.state = .leaving then some { p with state := .inside } else some p) ∧
      (s.turn ≠ none ∨ s.heldEffects ≠ [] → t.pool = s.pool ∧ t.occupancy = s.occupancy ∧
        ∀ a i, Polled s a → i ∈ carriedOn (s.station a) → (∀ r, i ∉ running s r) →
          ∃ who, i ∈ who ∧ PresenceEffect.unused who ∈ t.heldEffects) ∧
      t = { s with
        evacuateLine := true, evacuateTaken := true, evacuating := true, edgeCount := 1, stations := t.stations, doors := t.doors
        holds := t.holds, pool := t.pool, occupancy := t.occupancy, heldEffects := t.heldEffects, readQueue := t.readQueue
        turn := t.turn, polling := t.polling, notices := t.notices, journal := t.journal, nextSequence := t.nextSequence
        ports := t.ports, freeUsed := t.freeUsed }) ∧
  (∀ s : State, s.supply = .normal → s.evacuateLine = false → s.evacuating = true →
    let n := min 255 (s.edgeCount + 1)
    exec .evacuateRise s = .next (queueModeEverywhere false .evacRelease
      (writeJournal { kind := .evacStart, value := some n } (post { kind := .evacuation, figures := .value n }
        { s with evacuateLine := true, evacuateTaken := true, edgeCount := n })))) ∧
  (∀ s : State,
    (s.evacuateLine = true → exec .evacuateRise s = .next s) ∧
    (s.supply = .backup → exec .evacuateRise s = .next { s with evacuateLine := true } ∧
      exec .evacuateFall s = .next { s with evacuateLine := false }) ∧
    (s.supply = .normal → exec .evacuateFall s = .next { s with evacuateLine := false, evacuateTaken := false })) ∧
  ∀ (l : Link) (s : State), InTurn l .allClear s → s.evacuating = true → s.evacuateTaken = false →
    ∃ t, exec (.allClear l) s = .next t ∧ t.evacuating = false ∧ t.edgeCount = 0 ∧
      (∀ a, Polled s a → (t.station a).mode = some .resumeNormal) ∧
      (∀ r, (s.door r).state = .evacuation → (t.door r).state = .unknown .clear ∧ (t.door r).contact = none ∧
        (t.door r).pushMark = false) ∧
      (∀ r, (s.door r).state ≠ .evacuation → (t.door r).state = (s.door r).state) ∧
      (∀ i, t.presence i = (s.presence i).bind fun p =>
        if p.state = .arriving then none else some { p with state := .unverified }) ∧
      (∀ i, isCarried t i = false) ∧ (Listed s → ∀ r, Refreshed s t r) ∧
      (∃ n, t.journal.getLast? = some ⟨n, s.clock, { kind := .allClear }⟩) ∧
      (t.port l).transmit = (s.port l).transmit.take 3 ++ [⟨Request.allClear.code, .done, .nothing, true⟩] ∧
      (∀ r, t.hold r = s.hold r) ∧ (∀ i, t.permit i = s.permit i)

/-! ### The Minute Sweep and the firm walks (chapter 8) -/

namespace Sys2Proof.Claims

open Sys2Proof.Machine

/-- R136, R138: the sweep holds the turn with a run in progress. -/
abbrev Sweeping (place : SweepPlace) (m : Nat) (full : Bool) (s : State) : Prop :=
  s.sweep.run = some ⟨place, m, full⟩ ∧ s.turn.map Turn.user = some .sweepStep

/-- R138: the run goes on at a place. -/
def sweepAt (place : SweepPlace) (m : Nat) (full : Bool) (t : State) : State :=
  { t with sweep := { t.sweep with run := some ⟨place, m, full⟩ } }

/-- R139: the sweep lapses a permit by its grace end. -/
abbrev LapseDue (p : Permit) (m : Nat) : Prop :=
  (p.standing = .provisional ∨ ∃ reason held, p.standing = .suspended .provisional reason held) ∧
    ∃ g, p.graceEnd = some g ∧ g ≤ m

/-- R140: a full sweep purges a permit. -/
abbrev PurgeDue (p : Permit) (i : SlotNo) (m : Nat) (full : Bool) (s : State) : Prop :=
  full = true ∧ (∃ how t, p.standing = .ended how t ∧ t + 1440 ≤ m) ∧ ∀ k x, s.presence k = some x → x.slot ≠ i

end Sys2Proof.Claims

/-- R34, R38, R91, R138 to R140: a sweep's step on a slot: a live or held permit past its span end is EXPIRED, else one past its grace
is LAPSED with its notice, else a full sweep purges an old terminal one that no presence refers to; the cursor goes on, after slot 255
to the first presence. The revision that a purge's record carries is the discarded record's (the model's choice, log entry 17). -/
def Obligations.SweepStepsOverPermits : Prop :=
  ∀ (i : SlotNo) (m : Nat) (full : Bool) (s : State), Sweeping (.permits i) m full s →
    let goes := fun t => exec .sweepPermitStep s =
      .next (endTurn (sweepAt (if i.val < 255 then .permits (i + 1) else .presences 0) m full t))
    (s.permit i = none → goes s) ∧
    ∀ p, s.permit i = some p →
      (Terminal p.standing = false → p.spanEnd ≤ m →
        goes (replaced i p.standing.state { p with standing := .ended .expired m } .sweep s)) ∧
      (m < p.spanEnd → LapseDue p m →
        let q := { p with standing := .ended .lapsed m }
        goes (retestHolds i p.badge (post { kind := .lapsed, badge := some p.badge, permit := some p.number }
          (writeJournal (changeRecord i p.standing.state .lapsed q .sweep) (s.setPermit i (some q)))))) ∧
      (PurgeDue p i m full s →
        goes (retestHolds i p.badge
          (writeJournal (changeRecord i p.standing.state .vacant p .sweep) (s.setPermit i none)))) ∧
      ((Terminal p.standing = false → m < p.spanEnd) → ¬ LapseDue p m → ¬ PurgeDue p i m full s → goes s)

/-- R73, R107, R138, R141 to R143, R161: a sweep's step on a pool record: an INSIDE or UNVERIFIED presence is marked, reported and
counted as an overstay once its permit fails, and the mark is cleared once it passes; a lone period that has reached the limit is
reported once; and after the last record the sweep posts REVIEW if it was full and is idle, or starts the pending one at the clock's
minute. -/
def Obligations.SweepStepsOverPresences : Prop :=
  ∀ (i : PoolIx) (m : Nat) (full : Bool) (s : State), Sweeping (.presences i) m full s →
    let completed := fun (t : State) =>
      let u := if full then
          post { kind := .review, figures := .counts (poolCount t) (permitsIn t .provisional) (overstays t) (permitsIn t .pending) } t
        else t
      { u with sweep := if s.sweep.pending then ⟨some ⟨.permits 0, s.clock.abs, s.sweep.pendingFull⟩, false, false, s.sweep.overruns⟩
                        else { s.sweep with run := none } }
    let goes := fun t => exec .sweepPresenceStep s =
      .next (endTurn (if i.val < 127 then sweepAt (.presences (i + 1)) m full t else completed t))
    (s.presence i = none → goes s) ∧
    ∀ p, s.presence i = some p → ∃ u t, goes t ∧
      (p.state = .arriving ∨ p.state = .leaving → u = s) ∧
      (∀ q, p.state = .inside ∨ p.state = .unverified → s.permit p.slot = some q →
        (∀ e k, evaluate s q p.room m .overstay = .passes e k →
          u = if p.overstay then s.setPresence i (some { p with overstay := false }) else s) ∧
        ∀ why stage, evaluate s q p.room m .overstay = .fails why stage →
          (p.overstay = true → u = s) ∧
          (p.overstay = false → u = report .overstay (some p.room) 1
            (writeJournal
              { kind := .overstay, room := some p.room, badge := some p.badge, permit := some q.number
                outcome := some (.reason why) }
              (post { kind := .overstay, room := some p.room, badge := some p.badge, permit := some q.number
                      figures := .value why.code }
                (s.setPresence i (some { p with overstay := true })))))) ∧
      (∀ since, (s.roomState p.room).lone = some ⟨i, since, false⟩ → since + s.timings.lone ≤ m →
        t = State.setRoomState
          (writeJournal { kind := .lone, room := some p.room, badge := some p.badge, value := some (m - since) }
            (post { kind := .loneWorker, room := some p.room, badge := some p.badge, figures := .value (m - since) } u))
          p.room { s.roomState p.room with lone := some ⟨i, since, true⟩ }) ∧
      ((∀ since, (s.roomState p.room).lone = some ⟨i, since, false⟩ → m < since + s.timings.lone) → t = u)

namespace Sys2Proof.Claims

open Sys2Proof.Machine

/-- R145: a walk holds the turn. -/
abbrev Walking (k : WalkKind) (firm : Nat) (i : SlotNo) (n : Nat) (s : State) : Prop :=
  s.walk = some ⟨k, firm, i, n⟩ ∧ s.turn.map Turn.user = some .walkStep

/-- R145, R148: the walk goes on to the next slot with its count, or after slot 255 is answered and discarded. -/
def walkGoes (k : WalkKind) (firm : Nat) (i : SlotNo) (n : Nat) (r : Request) (t : State) : State :=
  if i.val < 255 then { t with walk := some ⟨k, firm, i + 1, n⟩ }
  else answered .security r .done (.walked n 255) { t with walk := none }

end Sys2Proof.Claims

/-- R46, R47, R91, R145 to R148: an accepted SUSPEND FIRM or RESUME FIRM starts a walk at slot 0; each of its turns takes one slot,
changes and counts a permit of the firm as its kind says, and after slot 255 the walk is answered with its count. -/
def Obligations.FirmWalksStepThroughTheTable : Prop :=
  (∀ (l : Link) (firm reason : Nat) (s : State), 1 ≤ firm → firm ≤ 999 →
    (Handed l (.suspendFirm firm reason) s → reason ≠ 0 → exec (.suspendFirm l firm reason) s =
      .next (grantNext { s.setPort l { s.port l with inFlight := some ⟨.suspendFirm firm reason, .walking⟩ } with
        walk := some ⟨.suspend reason, firm, 0, 0⟩ })) ∧
    (Handed l (.resumeFirm firm) s → exec (.resumeFirm l firm) s =
      .next (grantNext { s.setPort l { s.port l with inFlight := some ⟨.resumeFirm firm, .walking⟩ } with
        walk := some ⟨.resume, firm, 0, 0⟩ }))) ∧
  (∀ (firm reason n : Nat) (i : SlotNo) (r : Request) (s : State), Walking (.suspend reason) firm i n s →
    (s.port .security).inFlight = some ⟨r, .walking⟩ →
    let goes := fun counted t =>
      exec .suspendFirmStep s = .next (endTurn (walkGoes (.suspend reason) firm i (n + counted) r t))
    ((∀ p, s.permit i = some p → p.firm ≠ firm) → goes 0 s) ∧
    ∀ p, s.permit i = some p → p.firm = firm →
      (∀ back, (p.standing = .pending ∧ back = .pending) ∨ (p.standing = .active ∧ back = .active) ∨
          (p.standing = .provisional ∧ back = .provisional) ∨ (∃ old, p.standing = .suspended back old true) →
        goes 1 (replaced i p.standing.state { p with standing := .suspended back reason true } .security s)) ∧
      ((∃ back old, p.standing = .suspended back old false) ∨ Terminal p.standing = true → goes 0 s)) ∧
  ∀ (firm n : Nat) (i : SlotNo) (r : Request) (s : State), Walking .resume firm i n s →
    (s.port .security).inFlight = some ⟨r, .walking⟩ →
    let goes := fun counted t =>
      exec .resumeFirmStep s = .next (endTurn (walkGoes .resume firm i (n + counted) r t))
    ((∀ p, s.permit i = some p → p.firm ≠ firm) → goes 0 s) ∧
    ∀ p, s.permit i = some p → p.firm = firm →
      ((∀ back old, p.standing ≠ .suspended back old true) → goes 0 s) ∧
      ∀ back old, p.standing = .suspended back old true →
        (back = .pending → goes 1 (replaced i .suspended { p with standing := .pending } .security s)) ∧
        (back = .active → goes 1 (replaced i .suspended { p with standing := .active } .security s)) ∧
        (∀ g, back = .provisional → p.graceEnd = some g → turnMinute s < g →
          goes 1 (replaced i .suspended { p with standing := .provisional } .security s)) ∧
        (∀ g, back = .provisional → p.graceEnd = some g → g ≤ turnMinute s →
          let q := { p with standing := .ended .lapsed (turnMinute s) }
          goes 1 (retestHolds i p.badge (post { kind := .lapsed, badge := some p.badge, permit := some p.number }
            (writeJournal (changeRecord i .suspended .lapsed q .security) (s.setPermit i (some q))))))

/-! ### Notices and attention lines (chapter 9) -/

namespace Sys2Proof.Claims

open Sys2Proof.Machine

/-- R156, R157: the queue holds a notice above a mask. -/
abbrev CallsFor (q : NoticeQueue) (mask : Nat) : Prop := ∃ n ∈ q.notices, mask < n.level

/-- R154: the notice that a TAKE NOTICE takes, with those before it and those after it: the oldest of the highest level present. -/
structure Foremost (q : NoticeQueue) (before : List Notice) (n : Notice) (after : List Notice) : Prop where
  split : q.notices = before ++ n :: after
  older : ∀ m ∈ before, m.level < n.level
  newer : ∀ m ∈ after, m.level ≤ n.level

/-- R152: the notice that a full queue gives up to a notice of a level, with those before it and those after it: the oldest of the
lowest level present, which is below that level. -/
structure Displaced (q : NoticeQueue) (level : Nat) (before : List Notice) (n : Notice) (after : List Notice) : Prop where
  split : q.notices = before ++ n :: after
  below : n.level < level
  older : ∀ m ∈ before, n.level < m.level
  newer : ∀ m ∈ after, n.level ≤ m.level

/-- R13, R157, R158: an attention line after its queue has changed: released in BACKUP, following the queue in LEVEL mode, and in
PULSE mode driven where a notice above the mask was placed. -/
abbrev LineFollows (l : Link) (placed : Option Nat) (s t : State) : Prop :=
  (t.port l).attention = true ↔ s.supply = .normal ∧
    (((s.port l).mode = .level ∧ CallsFor (t.queue l) (s.port l).mask) ∨
      ((s.port l).mode = .pulse ∧ ((s.port l).attention = true ∨ ∃ k, placed = some k ∧ (s.port l).mask < k)))

/-- R150: the level of each kind, in the order of their codes. -/
def levels : List (NoticeKind × Nat) :=
  [(.evacuation, 7), (.forcedDoor, 6), (.loneWorker, 5), (.tamper, 5), (.overstay, 4), (.heldDoor, 4), (.unescorted, 4),
    (.provisionalIssued, 3), (.lapsed, 3), (.stationOffline, 3), (.supplyReturn, 3), (.unreadEgress, 2), (.exitMismatch, 2),
    (.counterOverflow, 2), (.review, 2), (.exitUnmatched, 1), (.stationOnline, 1), (.sweepOverrun, 1), (.clockSet, 1)]

/-- Section 11.3: the TAKE NOTICE reply body after its status. Bit 4 is set for REVIEW's counts too (log entry 36). -/
def noticeBody (lost : Bool) (left : Nat) (n : Notice) : List Byte :=
  let b := n.body
  be1 (bitAt 0 lost) ++ be1 left ++ be1 ((levels.map (·.1)).idxOf b.kind + 1) ++ be1 n.level ++ time6 n.time ++
    be1 (bitAt 0 b.room.isSome + bitAt 1 b.station.isSome + bitAt 2 b.badge.isSome + bitAt 3 b.permit.isSome +
      bitAt 4 (b.figures != .none)) ++
    be1 ((b.room.map (·.val)).getD 0) ++ be1 ((b.station.map (·.val)).getD 0) ++ be3 (b.badge.getD 0) ++ be2 (b.permit.getD 0) ++
    match b.figures with
    | .none => be4 0 ++ be4 0
    | .value v => be2 v ++ be2 0 ++ be4 0
    | .counts x y z w => be2 x ++ be2 y ++ be2 z ++ be2 w

/-- R150, R169: the queues a notice goes to. -/
abbrev GoesTo (b : NoticeBody) : List Link :=
  let both : List NoticeKind := [.evacuation, .overstay, .lapsed, .stationOffline, .supplyReturn, .stationOnline]
  let works : List NoticeKind := [.review, .sweepOverrun, .clockSet]
  let worksCounters : List Figures := [.value 0, .value 1, .value 2, .value 3]
  if b.kind ∈ both then [.works, .security]
  else if b.kind ∈ works ∨ (b.kind = .counterOverflow ∧ b.figures ∈ worksCounters) then [.works]
  else [.security]

end Sys2Proof.Claims

/-- R149 to R152, R157, R158: a notice offered to one queue in NORMAL goes last where there is room; from a full queue it displaces the
oldest of the lowest level below its own, or is itself lost; a loss sets the lost flag; the attention line follows; and a posted
notice is stamped with the clock and its kind's level and goes to its kind's queues. -/
def Obligations.NoticesAreQueuedByLevel : Prop :=
  (∀ (l : Link) (n : Notice) (s : State), s.supply = .normal → n.level ≤ 7 →
    let q := s.queue l
    let leaves := fun (ns : List Notice) (lost placed : Bool) =>
      (postTo l n s).queue l = ⟨ns, lost⟩ ∧ LineFollows l (if placed then some n.level else none) s (postTo l n s)
    (q.notices.length < 32 → leaves (q.notices ++ [n]) q.lost true) ∧
    (∀ before m after, 32 ≤ q.notices.length → Displaced q n.level before m after →
      leaves (before ++ after ++ [n]) true true) ∧
    (32 ≤ q.notices.length → (∀ m ∈ q.notices, n.level ≤ m.level) → leaves q.notices true false) ∧
    ∃ a, postTo l n s = (s.setQueue l ((postTo l n s).queue l)).setPort l { s.port l with attention := a }) ∧
  (∀ k n, (k, n) ∈ levels → k.level = n) ∧
  ∀ (b : NoticeBody) (s : State), (b.kind = .counterOverflow → ∃ c, b.figures = .value c) →
    let stamped : Notice := ⟨{ b with figures := b.figures.capped }, b.kind.level, s.clock⟩
    (s.supply = .backup → post b s = s) ∧
    (s.supply = .normal → post b s = (GoesTo b).foldl (fun t l => postTo l stamped t) s)

/-- R154, R156 to R158, section 11.3: TAKE NOTICE takes the oldest notice of the highest level with the lost flag and the count left,
in the octets of section 11.3; SET NOTICE MASK holds at most 6; a change to LEVEL judges the line and a change to PULSE releases it;
and a pulse ends. That the value bit is set for REVIEW's four counts is the model's choice (log entry 36). -/
def Obligations.NoticesAreTakenAndLinesDriven : Prop :=
  (∀ (lost : Bool) (left : Nat) (n : Notice),
    (ReplyContent.notice lost left (some n)).octets = noticeBody lost left n ∧ (noticeBody lost left n).length = 26 ∧
      (ReplyContent.notice lost left none).octets = be1 (bitAt 0 lost) ++ be1 left) ∧
  ∀ (l : Link) (s : State),
    (∀ before n after, Handed l .takeNotice s → Foremost (s.queue l) before n after →
      ∃ a, exec (.takeNotice l) s = .next (answered l .takeNotice .done
          (.notice (s.queue l).lost (before.length + after.length) (some n))
          ((s.setQueue l ⟨before ++ after, false⟩).setPort l { s.port l with attention := a })) ∧
        (a = true ↔ ((s.port l).mode = .level ∧ CallsFor ⟨before ++ after, false⟩ (s.port l).mask) ∨
          ((s.port l).mode = .pulse ∧ (s.port l).attention = true))) ∧
    (Handed l .takeNotice s → (s.queue l).notices = [] →
      exec (.takeNotice l) s = .next (answered l .takeNotice .empty (.notice (s.queue l).lost 0 none)
        ((s.setQueue l ⟨[], false⟩).setPort l
          { s.port l with attention := decide ((s.port l).mode = .pulse) && (s.port l).attention }))) ∧
    (∀ k, Handed l (.setNoticeMask k) s →
      ∃ a, exec (.setNoticeMask l k) s = .next (answered l (.setNoticeMask k) (if k ≤ 6 then .done else .clamped) (.mask (min 6 k))
          (s.setPort l { s.port l with mask := min 6 k, attention := a })) ∧
        (a = true ↔ ((s.port l).mode = .level ∧ CallsFor (s.queue l) (min 6 k)) ∨
          ((s.port l).mode = .pulse ∧ (s.port l).attention = true))) ∧
    (Handed l (.setAttentionMode 0) s →
      ∃ a, exec (.setAttentionMode l 0) s = .next (answered l (.setAttentionMode 0) .done (.mode .level)
          (s.setPort l { s.port l with mode := .level, attention := a })) ∧
        ((s.port l).mode = .pulse → (a = true ↔ CallsFor (s.queue l) (s.port l).mask)) ∧
        ((s.port l).mode = .level → a = (s.port l).attention)) ∧
    (Handed l (.setAttentionMode 1) s →
      exec (.setAttentionMode l 1) s = .next (answered l (.setAttentionMode 1) .done (.mode .pulse)
          (s.setPort l { s.port l with
            mode := .pulse, attention := decide ((s.port l).mode = .pulse) && (s.port l).attention }))) ∧
    ((s.port l).mode = .pulse → exec (.pulseEnd l) s = .next (s.setPort l { s.port l with attention := false })) ∧
    ((s.port l).mode = .level → exec (.pulseEnd l) s = .next s)

/-- The law of R153: a level-7 notice leaves a queue only through TAKE NOTICE on its link, a restart or a cold start. A fall of supply
first serves a TAKE NOTICE already handed over (R12). -/
def Obligations.LevelSevenNoticesStay : Prop :=
  ∀ (c : Instr) (l : Link) (n : Notice) (s t : State), n.level = 7 → exec c s = .next t →
    c ≠ .takeNotice l → c ≠ .resetLine → (∀ x y, c ≠ .powerUp x y) →
    (∀ m f, c = .replySent m → (s.port m).inFlight = some f → f.request ≠ .restart) →
    (c = .supplyFall → (s.port l).inFlight ≠ some ⟨.takeNotice, .handed⟩) →
    (s.queue l).notices.count n ≤ (t.queue l).notices.count n

/-! ### The Access Journal and the Event Counters (chapter 10) -/

namespace Sys2Proof.Claims

open Sys2Proof.Machine

/-- Section 10.1: the journal kinds, in the order of their codes from 1. -/
def journalKinds : List JournalKind :=
  [.entryGrant, .entryDeny, .reEntry, .holdOpen, .holdTimeout, .holdCancelled, .entered, .grantUnused, .exit, .exitUnused,
    .exitMismatch, .exitUnmatched, .reconciledAuto, .reconcile, .unreadEgress, .forced, .held, .overstay, .lone, .unescorted,
    .permitChange, .clockSet, .configChange, .evacStart, .allClear, .supplyReturn, .restart, .stationOffline, .stationOnline]

/-- Section 11.4: the reply statuses, in the order of their codes from 0. -/
def statuses : List Status :=
  [.done, .clamped, .busy, .unknownRequest, .badLength, .notYours, .locked, .noSuchPermit, .stale, .wrongState, .tableFull,
    .duplicate, .badgeLimit, .badRoom, .badTime, .alreadyOver, .occupied, .empty]

/-- Section 11.4: the denial reasons, in the order of their codes from 1. -/
def reasons : List Reason :=
  [.unmapped, .mapConflict, .clockUnset, .evacuation, .noPermit, .notCountersigned, .suspended, .notThisRoom, .notYet, .over,
    .outOfSlot, .frozen, .passback, .roomFull, .poolFull, .noCompanion, .noEscort]

/-- Section 11.3: a journal record as READ JOURNAL's reply carries it. -/
def recordBody (r : JournalRecord) : List Byte :=
  let b := r.body
  be4 r.sequence.toNat ++ time6 r.time ++ be1 (journalKinds.idxOf b.kind + 1) ++
    be1 (bitAt 0 b.station.isSome + bitAt 1 b.room.isSome + bitAt 2 b.badge.isSome + bitAt 3 b.permit.isSome +
      bitAt 4 b.outcome.isSome + bitAt 5 b.value.isSome) ++
    be1 ((b.station.map (·.val)).getD 0) ++ be1 ((b.room.map (·.val)).getD 0) ++ be3 (b.badge.getD 0) ++ be2 (b.permit.getD 0) ++
    be1 (match b.outcome with
      | some (.status x) => statuses.idxOf x | some (.reason x) => reasons.idxOf x + 1
      | some (.permit x) => permitStates.idxOf x | none => 0) ++
    be2 (b.value.getD 0) ++
    match b.change with
    | some k => be1 k.slot.val ++ be1 (permitStates.idxOf k.oldState) ++
        be1 (match k.source with | .works => 1 | .security => 2 | .sweep => 3) ++ be1 k.revision.toNat
    | none => [0, 0, 0, 0]

end Sys2Proof.Claims

/-- R161, R162, R164, section 11.3: a record takes the next sequence number and the clock's reading, its value at most 65,535, and the
last 512 are kept; none is written in BACKUP. READ JOURNAL returns, by the distance d, the records asked for, those from the oldest
with GAP and the count skipped, or none, in the octets of section 11.3. That next to ask is the next sequence number where GAP is set
and no record is retained (log entry 42), and that an absent field of a record is sent as 0 (log entry 47), are the model's choices.
-/
def Obligations.JournalIsWrittenAndRead : Prop :=
  (∀ (b : JournalBody) (s : State),
    (s.supply = .backup → writeJournal b s = s) ∧
    (s.supply = .normal → ∃ kept r, writeJournal b s = { s with journal := kept ++ [r], nextSequence := s.nextSequence + 1 } ∧
      r = ⟨s.nextSequence, s.clock, { b with value := b.value.map (min 65535) }⟩ ∧
      (s.journal.length < 512 → kept = s.journal) ∧
      (∀ oldest rest, s.journal.length = 512 → s.journal = oldest :: rest → kept = rest))) ∧
  (∀ (gap : Bool) (skipped : Nat) (next : Word32) (rs : List JournalRecord),
    (ReplyContent.journal gap skipped next rs).octets =
        be1 (bitAt 0 gap) ++ be4 skipped ++ be4 next.toNat ++ be1 rs.length ++ rs.flatMap recordBody ∧
      ∀ r, (recordBody r).length = 26) ∧
  ∀ (l : Link) (start : Word32) (count : Nat) (s : State), Handed l (.readJournal start count) s →
    let n := max 1 (min 8 count)
    let d := (s.nextSequence - start).toNat
    let held := s.journal.length
    let replies := fun (gap : Bool) (skipped : Nat) (next : Word32) (rs : List JournalRecord) =>
      exec (.readJournal l start count) s = .next (answered l (.readJournal start count) (if n = count then .done else .clamped)
        (.journal gap skipped next rs) s)
    (d = 0 ∨ (held < d ∧ 2 ^ 31 < d) → replies false 0 s.nextSequence []) ∧
    (1 ≤ d → d ≤ held → replies false 0 (start + BitVec.ofNat 32 (min n d)) ((s.journal.drop (held - d)).take n)) ∧
    (held < d → d ≤ 2 ^ 31 →
      replies true (d - held) (s.nextSequence - BitVec.ofNat 32 held + BitVec.ofNat 32 (min n held)) (s.journal.take n))

namespace Sys2Proof.Claims

open Sys2Proof.Machine

/-- Section 11.4, R167: the selects by code; DENIAL-OF, code 2, is apart. -/
def selects : List (Option Select) :=
  [some .grants, some .denials, none, some .entries, some .exits, some .occupancyMinutes, some .holdTimeouts, some .doorForced,
    some .doorHeld, some .overstays, some .stationMisses, some .unreadEgress, some .off]

/-- R167: a select names a reported event. -/
inductive Counts : Select → CountEvent → Prop where
  | grants : Counts .grants .grants
  | denials (why : Reason) : Counts .denials (.denial why)
  | denialOf (why : Reason) : Counts (.denialOf why) (.denial why)
  | entries : Counts .entries .entries
  | exits : Counts .exits .exits
  | holdTimeouts : Counts .holdTimeouts .holdTimeout
  | doorForced : Counts .doorForced .doorForced
  | doorHeld : Counts .doorHeld .doorHeld
  | overstays : Counts .overstays .overstay
  | stationMisses : Counts .stationMisses .stationMiss
  | unreadEgress : Counts .unreadEgress .unreadEgress

/-- R167: a counter selects a report: its select names the event, and its filter is ALL or the report's room. -/
abbrev Selected (k : Counter) (e : CountEvent) (room : Option RoomNo) : Prop :=
  Counts k.select e ∧ (k.filter = none ∨ k.filter = room)

end Sys2Proof.Claims

/-- R166, R167, R169 to R171: a report in NORMAL adds its amount, modulo 2^32 with sticky overflow, to just the counters whose select
and filter choose it; each of them with notify that passes its top with its sticky overflow clear posts one COUNTER-OVERFLOW with its
number, in ascending number, and nothing else is changed; SET COUNTER writes a counter of the link's group whole, and READ COUNTER
reports it. That a reason carried with another select than DENIAL-OF is not looked at is the model's choice (log entry 48). -/
def Obligations.CountersAddAndAreSet : Prop :=
  (∀ (e : CountEvent) (room : Option RoomNo) (n : Nat) (s : State), n < 2 ^ 32 →
    (s.supply = .backup → report e room n s = s) ∧
    (s.supply = .normal →
      let t := report e room n s
      t = { s with counters := t.counters, notices := t.notices, ports := t.ports } ∧
      (∀ c, Selected (look s.counters c) e room → look t.counters c = { look s.counters c with
        value := (look s.counters c).value + BitVec.ofNat 32 n
        sticky := (look s.counters c).sticky || decide (2 ^ 32 ≤ (look s.counters c).value.toNat + n) }) ∧
      (∀ c, ¬ Selected (look s.counters c) e room → look t.counters c = look s.counters c) ∧
      ∀ past : CounterNo → Bool, (∀ c, past c = true ↔ Selected (look s.counters c) e room ∧ (look s.counters c).notify = true ∧
          (look s.counters c).sticky = false ∧ 2 ^ 32 ≤ (look s.counters c).value.toNat + n) →
        t.notices = (overflowsPosted past s).notices ∧ t.ports = (overflowsPosted past s).ports)) ∧
  (∀ (l : Link) (b : CounterBody) (c : CounterNo) (x : Select) (s : State), Handed l (.setCounter b) s → b.number = c.val →
    (l = .works ↔ c.val ≤ 3) → b.filter ≤ 63 ∨ b.filter = 255 → b.notify ≤ 1 →
    (selects[b.select]? = some (some x) ∨ b.select = 2 ∧ ∃ why, x = .denialOf why ∧ why.code = b.reason) →
    ∃ k : Counter, k.select = x ∧ (∀ r : RoomNo, b.filter = r.val → k.filter = some r) ∧ (b.filter = 255 → k.filter = none) ∧
      k.notify = decide (b.notify = 1) ∧ k.value = b.value ∧ k.sticky = false ∧
      exec (.setCounter l b) s = .next (answered l (.setCounter b) .done (.counter k) { s with counters := put s.counters c k })) ∧
  ∀ (l : Link) (c : CounterNo) (s : State), Handed l (.readCounter c.val) s → (l = .works ↔ c.val ≤ 3) →
    exec (.readCounter l c.val) s = .next (answered l (.readCounter c.val) .done (.counter (look s.counters c)) s)

/-! ### Resets (R12 to R14, R55, R98, R114, R116, R135, R159, R160, R163, R178 to R180) -/

namespace Sys2Proof.Claims

open Sys2Proof.Machine

/-- R55, R104: no turn is in progress and no effect is held, so that a restart has nothing to complete first. -/
abbrev Unturned (s : State) : Prop := s.turn = none ∧ s.heldEffects = []

/-- R12, R55: a fall has nothing to complete first: nor is any request handed over but one that still waits for its turn. -/
abbrev AtRest (s : State) : Prop :=
  Unturned s ∧ ∀ l r, (s.port l).inFlight = some ⟨r, .handed⟩ → needsTurn r = true

/-- R55, R98, R135, R136, R148, R173: what a fall, a warm return and a restart each empty. -/
structure Emptied (s t : State) : Prop where
  turn : t.turn = none
  lastServed : t.lastServed = .security
  reads : t.readQueue = []
  holds : ∀ r, t.hold r = none
  effects : t.heldEffects = []
  polling : t.polling = none ∧ t.lastPolled = none ∧ t.passKept = []
  sweep : t.sweep = ⟨none, false, false, s.sweep.overruns⟩
  walk : t.walk = none
  stations : ∀ a, t.station a = ⟨.unknown, 0, none, (t.station a).mode, none, false⟩
  doors : ∀ r, t.door r = ⟨(t.door r).state, [], none, false, false⟩
  ports : ∀ l, t.port l = { s.port l with
    reception := .awaitingStart, inFlight := none, transmit := [], attention := (t.port l).attention }

/-- What every fall, return and restart keeps. -/
structure Stays (s t : State) : Prop where
  clock : t.clock = s.clock ∧ t.clockUnset = s.clockUnset ∧ t.mark = s.mark ∧ t.tickPhase = s.tickPhase
  layout : t.rooms = s.rooms ∧ t.timings = s.timings ∧ t.stationMap = s.stationMap ∧ t.freezes = s.freezes
  permits : t.permits = s.permits
  counters : t.counters = s.counters
  rest : t.evacuateLine = s.evacuateLine ∧ t.pending = s.pending

/-- R135: the evacuation state, the doors and the mode commands as a line's level sets them. -/
structure FollowsLine (high : Bool) (s t : State) : Prop where
  state : t.evacuating = high ∧ t.evacuateTaken = high ∧ t.edgeCount = (if high then 1 else 0)
  doors : ∀ r, (t.door r).state = if high then .evacuation else .unknown .back
  modes : ∀ a, (t.station a).mode =
    if mapOutcome s a = .unpolled then none else some (if high then .evacRelease else .resumeNormal)

end Sys2Proof.Claims

/-- R12 to R14, R55, R98, R104, R114, R135, R159, R163, R180: a fall is that of the part after what was under way has been completed;
what a fall and a warm return then leave: what each empties and keeps, its presences and rooms, its queues and lines, and its records.
The model's own: the order in which the work under way is completed (log entry 28), that the pass begins anew (log entry 23) and the
POLL that is out is forgotten (log entry 56), that the stations are emptied at the fall already (log entry 29), and that a room empty
before keeps its uncertain mark (log entry 34). -/
def Obligations.SupplyFallsAndReturns : Prop :=
  (∀ s : State, s.supply = .normal → AtRest (settle s) ∧ exec .supplyFall s = exec .supplyFall (settle s)) ∧
  (∀ s : State, s.supply = .normal → AtRest s →
    ∃ t, exec .supplyFall s = .next t ∧ Emptied s t ∧ Stays s t ∧ t.supply = .backup ∧ t.supplyLine = false ∧
      t.backupMinutes = 0 ∧ t.locked = s.locked ∧ t.notices = s.notices ∧ (∀ l, (t.port l).attention = false) ∧
      t.journal = s.journal ∧ t.nextSequence = s.nextSequence ∧ (∀ a, (t.station a).mode = none) ∧
      (∀ r, (t.door r).state = .unknown .back) ∧
      (∀ i, t.presence i = (s.presence i).bind fun p =>
        if p.state = .arriving then none else some { p with state := .unverified }) ∧
      (Listed s → ∀ r, Refreshed s t r) ∧
      t.evacuating = s.evacuating ∧ t.edgeCount = s.edgeCount ∧ t.evacuateTaken = s.evacuateTaken) ∧
  (∀ s : State, s.supply = .backup → exec .supplyFall s = .next { s with supplyLine := false }) ∧
  (∀ s : State, s.supply = .normal → exec .warmReturn s = .next { s with supplyLine := true }) ∧
  ∀ s : State, s.supply = .backup → s.backupMinutes ≤ 65535 → s.journal.length < 500 →
    ∃ t, exec .warmReturn s = .next t ∧ Emptied s t ∧ Stays s t ∧ FollowsLine s.evacuateLine s t ∧ t.supply = .normal ∧
      t.supplyLine = true ∧ t.backupMinutes = 0 ∧ t.locked = s.locked ∧ t.restartDue = false ∧ t.pool = s.pool ∧
      t.occupancy = s.occupancy ∧
      (let returned := post { kind := .supplyReturn, figures := .value s.backupMinutes } { s with supply := .normal };
        t.notices = if s.evacuateLine then (post { kind := .evacuation, figures := .value 1 } returned).notices
          else returned.notices) ∧
      (∀ l, (s.queue l).notices.length < 31 → t.queue l = ⟨(s.queue l).notices ++
        ⟨{ kind := .supplyReturn, figures := .value s.backupMinutes }, 3, s.clock⟩ ::
          (if s.evacuateLine then [⟨{ kind := .evacuation, figures := .value 1 }, 7, s.clock⟩] else []), (s.queue l).lost⟩) ∧
      (∀ l, (s.port l).mode = .level → ((t.port l).attention = true ↔ CallsFor (t.queue l) (s.port l).mask)) ∧
      (∀ l, (s.port l).mode = .pulse → (s.queue l).notices.length < 31 →
        ((t.port l).attention = true ↔ (s.port l).mask < 3 ∨ (s.evacuateLine = true ∧ (s.port l).mask < 7))) ∧
      let due := if s.restartDue then [(⟨s.nextSequence, s.clock, { kind := .restart, value := some 0 }⟩ : JournalRecord)] else []
      let next := s.nextSequence + BitVec.ofNat 32 due.length
      t.journal = s.journal ++ due ++
        ⟨next, s.clock, { kind := .supplyReturn, value := some s.backupMinutes }⟩ ::
          (if s.evacuateLine then [⟨next + 1, s.clock, { kind := .evacStart, value := some 1 }⟩] else [])

namespace Sys2Proof.Claims

open Sys2Proof.Machine

/-- R116: what a restart makes of every presence. -/
abbrev RestartedPresences (s t : State) : Prop :=
  ∀ i, t.presence i = (s.presence i).bind fun p =>
    if p.state = .arriving then none else if p.state = .leaving then some { p with state := .inside } else some p

/-- R178: the reply to a RESTART in flight is the next frame to be sent on a link. -/
abbrev RestartReplied (l : Link) (s : State) : Prop :=
  (s.port l).inFlight = some ⟨.restart, .answered⟩ ∧ ∃ x rest, (s.port l).transmit = x :: rest ∧ x.answers = true

end Sys2Proof.Claims

/-- R55, R98, R104, R116, R135, R160, R163, R178, R179: a restart, by the RESET line or once the reply to RESTART has been sent, is
that of the part after the turn in progress and the effects held during it have been completed; what it then leaves: what it empties
and keeps, its presences and rooms, its queues and lines, its record and the configuration lock. In BACKUP its record and the
evacuation state wait for the warm return. The model's own: that the held effects follow the turn (log entry 28), that the pass begins
anew (log entry 23) and the POLL that is out is forgotten (log entry 56), and that a room empty before keeps its uncertain mark (log
entry 34). -/
def Obligations.RestartsFollowTheirTable : Prop :=
  (∀ s : State, Unturned (finishTurn s) ∧ exec .resetLine s = exec .resetLine (finishTurn s)) ∧
  (∀ (l : Link) (s : State), s.supply = .normal → RestartReplied l s →
    RestartReplied l (finishTurn s) ∧ exec (.replySent l) s = exec (.replySent l) (finishTurn s)) ∧
  (∀ (c : Instr) (value : Nat) (s : State), s.supply = .normal → Unturned s → s.journal.length < 500 →
    (c = .resetLine ∧ value = 0 ∨ ∃ l, c = .replySent l ∧ value = 1 ∧ RestartReplied l s) →
    ∃ t, exec c s = .next t ∧
      Emptied { s with ports := ⟨{ s.ports.works with sent := t.ports.works.sent },
                                 { s.ports.security with sent := t.ports.security.sent }⟩ } t ∧
      Stays s t ∧ FollowsLine s.evacuateLine s t ∧ t.supply = .normal ∧ t.supplyLine = s.supplyLine ∧
      t.locked = (decide (value = 1) && s.locked) ∧ RestartedPresences s t ∧ (Listed s → ∀ r, Refreshed s t r) ∧
      (∀ l, t.queue l =
        ⟨if s.evacuateLine then [⟨{ kind := .evacuation, figures := .value 1 }, 7, s.clock⟩] else [], false⟩) ∧
      (∀ l, (t.port l).attention = (s.evacuateLine && decide ((s.port l).mask < 7))) ∧
      t.journal = s.journal ++
        ⟨s.nextSequence, s.clock, { kind := .restart, value := some value }⟩ ::
          (if s.evacuateLine then [⟨s.nextSequence + 1, s.clock, { kind := .evacStart, value := some 1 }⟩] else [])) ∧
  ∀ s : State, s.supply = .backup → Unturned s →
    ∃ t, exec .resetLine s = .next t ∧ Emptied s t ∧ Stays s t ∧ t.supply = .backup ∧ t.restartDue = true ∧ t.locked = false ∧
      t.journal = s.journal ∧ (∀ l, t.queue l = ⟨[], false⟩) ∧ (∀ l, (t.port l).attention = false) ∧
      RestartedPresences s t ∧ (Listed s → ∀ r, Refreshed s t r) ∧ (∀ r, (t.door r).state = .unknown .back) ∧
      (∀ a, (t.station a).mode = none) ∧ t.evacuating = s.evacuating ∧ t.evacuateTaken = s.evacuateTaken ∧
      t.edgeCount = s.edgeCount

/-! ### Laws that every command keeps -/

/-- R1, R10, R26, R132, R134, R136, R137, R13, R55, R180: every command keeps the clock, mark and timings in range, the evacuation
state, the sweep and the stillness of BACKUP sound. That no POLL is out in BACKUP rests on the model's choice to forget it at the fall
(log entry 56). -/
def Obligations.EveryCommandKeepsTheCoreSound : Prop :=
  ∀ (c : Instr) (s t : State), exec c s = .next t →
    (ClockSound s → ClockSound t) ∧ (EvacuationSound s → EvacuationSound t) ∧
      (SweepSound s → SweepSound t) ∧ (BackupSound s → BackupSound t)

/-- R13, R150, R151, R157, R162, R173, R176: every command keeps the notice queues, the journal, the ports and the attention lines
sound. That a transmit queue never holds more than its 4 frames rests on the model's choice of what gives way (log entry 8). -/
def Obligations.EveryCommandKeepsReportsSound : Prop :=
  ∀ (c : Instr) (s t : State), exec c s = .next t →
    (NoticesSound s → NoticesSound t) ∧ (JournalSound s → JournalSound t) ∧ (PortsSound s → PortsSound t) ∧
      (AttentionSound s → AttentionSound t)

/-- R33, R36, R83: every command keeps permit numbers distinct, a badge to four live-or-held permits, a room's presences to its
maximum, and a request in flight on its own link. -/
def Obligations.EveryCommandKeepsTablesWithinBounds : Prop :=
  ∀ (c : Instr) (s t : State), exec c s = .next t →
    (NumbersDistinct s → NumbersDistinct t) ∧ (BadgesBounded s → BadgesBounded t) ∧
      (RoomsWithinMaximum s → RoomsWithinMaximum t) ∧ (RequestsOwned s → RequestsOwned t)

/-- R49, R80, R86, R91, R99: every command keeps a badge to one presence or one hold, each presence on a non-VACANT slot and each hold
on a live permit of its badge. -/
def Obligations.EveryCommandKeepsBadgesApart : Prop :=
  ∀ (c : Instr) (s t : State), BadgeOnce s → SlotsReferred s → exec c s = .next t → BadgeOnce t ∧ SlotsReferred t
end

