-- ==== Sys2Proof/Laws/State.lean ====
section
/-! SUPPORT. What each update of the state leaves in each field, one lemma per field per update, and the reads after the writes of
tables and pairs. -/

namespace Sys2Proof

variable {n : Nat} {α β : Type}

@[simp] theorem look_put_same (t : Table n α) (i : Fin n) (x : α) : look (put t i x) i = x := by simp [look, put]

@[simp] theorem look_put_other (t : Table n α) {i j : Fin n} (x : α) (h : i ≠ j) : look (put t i x) j = look t j := by
  have h' : i.val ≠ j.val := fun e => h (Fin.ext e)
  simp [look, put, h']

theorem look_put (t : Table n α) (i j : Fin n) (x : α) : look (put t i x) j = if i = j then x else look t j := by
  split
  · next h => subst h; simp
  · next h => simp [h]

@[simp] theorem put_look (t : Table n α) (i : Fin n) : put t i (look t i) = t := by
  apply Vector.ext
  intro k hk
  simp only [put, look, Vector.getElem_set]
  split
  · next h => subst h; rfl
  · rfl

@[simp] theorem put_put (t : Table n α) (i : Fin n) (x y : α) : put (put t i x) i y = put t i y := by
  apply Vector.ext
  intro k hk
  simp only [put, Vector.getElem_set]
  split <;> rfl

@[simp] theorem look_mapAll (f : α → β) (t : Table n α) (i : Fin n) : look (mapAll f t) i = f (look t i) := by
  simp [look, mapAll]

@[simp] theorem look_fill (x : α) (i : Fin n) : look (fill x : Table n α) i = x := by simp [look, fill]

theorem table_ext {t u : Table n α} (h : ∀ i, look t i = look u i) : t = u :=
  Vector.ext fun k hk => h ⟨k, hk⟩

end Sys2Proof

namespace Sys2Proof.Machine

@[simp] theorem side_withSide_same {α : Type} (b : Both α) (l : Link) (x : α) : side (withSide b l x) l = x := by
  cases l <;> rfl

@[simp] theorem side_withSide_other {α : Type} (b : Both α) {l m : Link} (x : α) (h : l ≠ m) :
    side (withSide b l x) m = side b m := by
  cases l <;> cases m <;> first | rfl | exact absurd rfl h

@[simp] theorem withSide_withSide {α : Type} (b : Both α) (l : Link) (x y : α) :
    withSide (withSide b l x) l y = withSide b l y := by
  cases l <;> rfl

@[simp] theorem withSide_side {α : Type} (b : Both α) (l : Link) : withSide b l (side b l) = b := by
  cases l <;> rfl

theorem both_ext {α : Type} {b c : Both α} (h : ∀ l, side b l = side c l) : b = c := by
  cases b; cases c
  have hw := h .works
  have hs := h .security
  simp only [side] at hw hs
  subst hw; subst hs; rfl

/-! ### setPort -/

@[simp] theorem State.setPort_clock (s : State) (l : Link) (x : Port) : (s.setPort l x).clock = s.clock := rfl
@[simp] theorem State.setPort_clockUnset (s : State) (l : Link) (x : Port) : (s.setPort l x).clockUnset = s.clockUnset := rfl
@[simp] theorem State.setPort_mark (s : State) (l : Link) (x : Port) : (s.setPort l x).mark = s.mark := rfl
@[simp] theorem State.setPort_supply (s : State) (l : Link) (x : Port) : (s.setPort l x).supply = s.supply := rfl
@[simp] theorem State.setPort_backupMinutes (s : State) (l : Link) (x : Port) : (s.setPort l x).backupMinutes = s.backupMinutes := rfl
@[simp] theorem State.setPort_tickPhase (s : State) (l : Link) (x : Port) : (s.setPort l x).tickPhase = s.tickPhase := rfl
@[simp] theorem State.setPort_supplyLine (s : State) (l : Link) (x : Port) : (s.setPort l x).supplyLine = s.supplyLine := rfl
@[simp] theorem State.setPort_evacuateLine (s : State) (l : Link) (x : Port) : (s.setPort l x).evacuateLine = s.evacuateLine := rfl
@[simp] theorem State.setPort_rooms (s : State) (l : Link) (x : Port) : (s.setPort l x).rooms = s.rooms := rfl
@[simp] theorem State.setPort_timings (s : State) (l : Link) (x : Port) : (s.setPort l x).timings = s.timings := rfl
@[simp] theorem State.setPort_locked (s : State) (l : Link) (x : Port) : (s.setPort l x).locked = s.locked := rfl
@[simp] theorem State.setPort_stationMap (s : State) (l : Link) (x : Port) : (s.setPort l x).stationMap = s.stationMap := rfl
@[simp] theorem State.setPort_freezes (s : State) (l : Link) (x : Port) : (s.setPort l x).freezes = s.freezes := rfl
@[simp] theorem State.setPort_permits (s : State) (l : Link) (x : Port) : (s.setPort l x).permits = s.permits := rfl
@[simp] theorem State.setPort_turn (s : State) (l : Link) (x : Port) : (s.setPort l x).turn = s.turn := rfl
@[simp] theorem State.setPort_lastServed (s : State) (l : Link) (x : Port) : (s.setPort l x).lastServed = s.lastServed := rfl
@[simp] theorem State.setPort_readQueue (s : State) (l : Link) (x : Port) : (s.setPort l x).readQueue = s.readQueue := rfl
@[simp] theorem State.setPort_holds (s : State) (l : Link) (x : Port) : (s.setPort l x).holds = s.holds := rfl
@[simp] theorem State.setPort_pool (s : State) (l : Link) (x : Port) : (s.setPort l x).pool = s.pool := rfl
@[simp] theorem State.setPort_occupancy (s : State) (l : Link) (x : Port) : (s.setPort l x).occupancy = s.occupancy := rfl
@[simp] theorem State.setPort_heldEffects (s : State) (l : Link) (x : Port) : (s.setPort l x).heldEffects = s.heldEffects := rfl
@[simp] theorem State.setPort_stations (s : State) (l : Link) (x : Port) : (s.setPort l x).stations = s.stations := rfl
@[simp] theorem State.setPort_lastPolled (s : State) (l : Link) (x : Port) : (s.setPort l x).lastPolled = s.lastPolled := rfl
@[simp] theorem State.setPort_passKept (s : State) (l : Link) (x : Port) : (s.setPort l x).passKept = s.passKept := rfl
@[simp] theorem State.setPort_polling (s : State) (l : Link) (x : Port) : (s.setPort l x).polling = s.polling := rfl
@[simp] theorem State.setPort_doors (s : State) (l : Link) (x : Port) : (s.setPort l x).doors = s.doors := rfl
@[simp] theorem State.setPort_evacuating (s : State) (l : Link) (x : Port) : (s.setPort l x).evacuating = s.evacuating := rfl
@[simp] theorem State.setPort_edgeCount (s : State) (l : Link) (x : Port) : (s.setPort l x).edgeCount = s.edgeCount := rfl
@[simp] theorem State.setPort_evacuateTaken (s : State) (l : Link) (x : Port) : (s.setPort l x).evacuateTaken = s.evacuateTaken := rfl
@[simp] theorem State.setPort_sweep (s : State) (l : Link) (x : Port) : (s.setPort l x).sweep = s.sweep := rfl
@[simp] theorem State.setPort_walk (s : State) (l : Link) (x : Port) : (s.setPort l x).walk = s.walk := rfl
@[simp] theorem State.setPort_notices (s : State) (l : Link) (x : Port) : (s.setPort l x).notices = s.notices := rfl
@[simp] theorem State.setPort_journal (s : State) (l : Link) (x : Port) : (s.setPort l x).journal = s.journal := rfl
@[simp] theorem State.setPort_nextSequence (s : State) (l : Link) (x : Port) : (s.setPort l x).nextSequence = s.nextSequence := rfl
@[simp] theorem State.setPort_restartDue (s : State) (l : Link) (x : Port) : (s.setPort l x).restartDue = s.restartDue := rfl
@[simp] theorem State.setPort_counters (s : State) (l : Link) (x : Port) : (s.setPort l x).counters = s.counters := rfl
@[simp] theorem State.setPort_freeUsed (s : State) (l : Link) (x : Port) : (s.setPort l x).freeUsed = s.freeUsed := rfl
@[simp] theorem State.setPort_pending (s : State) (l : Link) (x : Port) : (s.setPort l x).pending = s.pending := rfl

@[simp] theorem State.setPort_port_same (s : State) (l : Link) (x : Port) : (s.setPort l x).port l = x := by
  simp [State.setPort, State.port]

@[simp] theorem State.setPort_port_other (s : State) (l : Link) (x : Port) {k : Link} (h : l ≠ k) :
    (s.setPort l x).port k = s.port k := by
  simp [State.setPort, State.port, h]

@[simp] theorem State.setPort_setPort (s : State) (l : Link) (x : Port) (y : Port) : (s.setPort l x).setPort l y = s.setPort l y := by
  simp [State.setPort]

@[simp] theorem State.setPort_queue (s : State) (l : Link) (x : Port) (k : Link) : (s.setPort l x).queue k = s.queue k := rfl
@[simp] theorem State.setPort_station (s : State) (l : Link) (x : Port) (k : LoopAddr) : (s.setPort l x).station k = s.station k := rfl
@[simp] theorem State.setPort_door (s : State) (l : Link) (x : Port) (k : RoomNo) : (s.setPort l x).door k = s.door k := rfl
@[simp] theorem State.setPort_permit (s : State) (l : Link) (x : Port) (k : SlotNo) : (s.setPort l x).permit k = s.permit k := rfl
@[simp] theorem State.setPort_presence (s : State) (l : Link) (x : Port) (k : PoolIx) : (s.setPort l x).presence k = s.presence k := rfl
@[simp] theorem State.setPort_roomState (s : State) (l : Link) (x : Port) (k : RoomNo) : (s.setPort l x).roomState k = s.roomState k := rfl
@[simp] theorem State.setPort_hold (s : State) (l : Link) (x : Port) (k : RoomNo) : (s.setPort l x).hold k = s.hold k := rfl
@[simp] theorem State.setPort_room (s : State) (l : Link) (x : Port) (k : RoomNo) : (s.setPort l x).room k = s.room k := rfl

/-! ### setQueue -/

@[simp] theorem State.setQueue_clock (s : State) (l : Link) (x : NoticeQueue) : (s.setQueue l x).clock = s.clock := rfl
@[simp] theorem State.setQueue_clockUnset (s : State) (l : Link) (x : NoticeQueue) : (s.setQueue l x).clockUnset = s.clockUnset := rfl
@[simp] theorem State.setQueue_mark (s : State) (l : Link) (x : NoticeQueue) : (s.setQueue l x).mark = s.mark := rfl
@[simp] theorem State.setQueue_supply (s : State) (l : Link) (x : NoticeQueue) : (s.setQueue l x).supply = s.supply := rfl
@[simp] theorem State.setQueue_backupMinutes (s : State) (l : Link) (x : NoticeQueue) : (s.setQueue l x).backupMinutes = s.backupMinutes := rfl
@[simp] theorem State.setQueue_tickPhase (s : State) (l : Link) (x : NoticeQueue) : (s.setQueue l x).tickPhase = s.tickPhase := rfl
@[simp] theorem State.setQueue_supplyLine (s : State) (l : Link) (x : NoticeQueue) : (s.setQueue l x).supplyLine = s.supplyLine := rfl
@[simp] theorem State.setQueue_evacuateLine (s : State) (l : Link) (x : NoticeQueue) : (s.setQueue l x).evacuateLine = s.evacuateLine := rfl
@[simp] theorem State.setQueue_rooms (s : State) (l : Link) (x : NoticeQueue) : (s.setQueue l x).rooms = s.rooms := rfl
@[simp] theorem State.setQueue_timings (s : State) (l : Link) (x : NoticeQueue) : (s.setQueue l x).timings = s.timings := rfl
@[simp] theorem State.setQueue_locked (s : State) (l : Link) (x : NoticeQueue) : (s.setQueue l x).locked = s.locked := rfl
@[simp] theorem State.setQueue_stationMap (s : State) (l : Link) (x : NoticeQueue) : (s.setQueue l x).stationMap = s.stationMap := rfl
@[simp] theorem State.setQueue_freezes (s : State) (l : Link) (x : NoticeQueue) : (s.setQueue l x).freezes = s.freezes := rfl
@[simp] theorem State.setQueue_permits (s : State) (l : Link) (x : NoticeQueue) : (s.setQueue l x).permits = s.permits := rfl
@[simp] theorem State.setQueue_turn (s : State) (l : Link) (x : NoticeQueue) : (s.setQueue l x).turn = s.turn := rfl
@[simp] theorem State.setQueue_lastServed (s : State) (l : Link) (x : NoticeQueue) : (s.setQueue l x).lastServed = s.lastServed := rfl
@[simp] theorem State.setQueue_readQueue (s : State) (l : Link) (x : NoticeQueue) : (s.setQueue l x).readQueue = s.readQueue := rfl
@[simp] theorem State.setQueue_holds (s : State) (l : Link) (x : NoticeQueue) : (s.setQueue l x).holds = s.holds := rfl
@[simp] theorem State.setQueue_pool (s : State) (l : Link) (x : NoticeQueue) : (s.setQueue l x).pool = s.pool := rfl
@[simp] theorem State.setQueue_occupancy (s : State) (l : Link) (x : NoticeQueue) : (s.setQueue l x).occupancy = s.occupancy := rfl
@[simp] theorem State.setQueue_heldEffects (s : State) (l : Link) (x : NoticeQueue) : (s.setQueue l x).heldEffects = s.heldEffects := rfl
@[simp] theorem State.setQueue_stations (s : State) (l : Link) (x : NoticeQueue) : (s.setQueue l x).stations = s.stations := rfl
@[simp] theorem State.setQueue_lastPolled (s : State) (l : Link) (x : NoticeQueue) : (s.setQueue l x).lastPolled = s.lastPolled := rfl
@[simp] theorem State.setQueue_passKept (s : State) (l : Link) (x : NoticeQueue) : (s.setQueue l x).passKept = s.passKept := rfl
@[simp] theorem State.setQueue_polling (s : State) (l : Link) (x : NoticeQueue) : (s.setQueue l x).polling = s.polling := rfl
@[simp] theorem State.setQueue_doors (s : State) (l : Link) (x : NoticeQueue) : (s.setQueue l x).doors = s.doors := rfl
@[simp] theorem State.setQueue_evacuating (s : State) (l : Link) (x : NoticeQueue) : (s.setQueue l x).evacuating = s.evacuating := rfl
@[simp] theorem State.setQueue_edgeCount (s : State) (l : Link) (x : NoticeQueue) : (s.setQueue l x).edgeCount = s.edgeCount := rfl
@[simp] theorem State.setQueue_evacuateTaken (s : State) (l : Link) (x : NoticeQueue) : (s.setQueue l x).evacuateTaken = s.evacuateTaken := rfl
@[simp] theorem State.setQueue_sweep (s : State) (l : Link) (x : NoticeQueue) : (s.setQueue l x).sweep = s.sweep := rfl
@[simp] theorem State.setQueue_walk (s : State) (l : Link) (x : NoticeQueue) : (s.setQueue l x).walk = s.walk := rfl
@[simp] theorem State.setQueue_journal (s : State) (l : Link) (x : NoticeQueue) : (s.setQueue l x).journal = s.journal := rfl
@[simp] theorem State.setQueue_nextSequence (s : State) (l : Link) (x : NoticeQueue) : (s.setQueue l x).nextSequence = s.nextSequence := rfl
@[simp] theorem State.setQueue_restartDue (s : State) (l : Link) (x : NoticeQueue) : (s.setQueue l x).restartDue = s.restartDue := rfl
@[simp] theorem State.setQueue_counters (s : State) (l : Link) (x : NoticeQueue) : (s.setQueue l x).counters = s.counters := rfl
@[simp] theorem State.setQueue_ports (s : State) (l : Link) (x : NoticeQueue) : (s.setQueue l x).ports = s.ports := rfl
@[simp] theorem State.setQueue_freeUsed (s : State) (l : Link) (x : NoticeQueue) : (s.setQueue l x).freeUsed = s.freeUsed := rfl
@[simp] theorem State.setQueue_pending (s : State) (l : Link) (x : NoticeQueue) : (s.setQueue l x).pending = s.pending := rfl

@[simp] theorem State.setQueue_port (s : State) (l : Link) (x : NoticeQueue) (k : Link) : (s.setQueue l x).port k = s.port k := rfl
@[simp] theorem State.setQueue_queue_same (s : State) (l : Link) (x : NoticeQueue) : (s.setQueue l x).queue l = x := by
  simp [State.setQueue, State.queue]

@[simp] theorem State.setQueue_queue_other (s : State) (l : Link) (x : NoticeQueue) {k : Link} (h : l ≠ k) :
    (s.setQueue l x).queue k = s.queue k := by
  simp [State.setQueue, State.queue, h]

@[simp] theorem State.setQueue_setQueue (s : State) (l : Link) (x : NoticeQueue) (y : NoticeQueue) : (s.setQueue l x).setQueue l y = s.setQueue l y := by
  simp [State.setQueue]

@[simp] theorem State.setQueue_station (s : State) (l : Link) (x : NoticeQueue) (k : LoopAddr) : (s.setQueue l x).station k = s.station k := rfl
@[simp] theorem State.setQueue_door (s : State) (l : Link) (x : NoticeQueue) (k : RoomNo) : (s.setQueue l x).door k = s.door k := rfl
@[simp] theorem State.setQueue_permit (s : State) (l : Link) (x : NoticeQueue) (k : SlotNo) : (s.setQueue l x).permit k = s.permit k := rfl
@[simp] theorem State.setQueue_presence (s : State) (l : Link) (x : NoticeQueue) (k : PoolIx) : (s.setQueue l x).presence k = s.presence k := rfl
@[simp] theorem State.setQueue_roomState (s : State) (l : Link) (x : NoticeQueue) (k : RoomNo) : (s.setQueue l x).roomState k = s.roomState k := rfl
@[simp] theorem State.setQueue_hold (s : State) (l : Link) (x : NoticeQueue) (k : RoomNo) : (s.setQueue l x).hold k = s.hold k := rfl
@[simp] theorem State.setQueue_room (s : State) (l : Link) (x : NoticeQueue) (k : RoomNo) : (s.setQueue l x).room k = s.room k := rfl

/-! ### setStation -/

@[simp] theorem State.setStation_clock (s : State) (a : LoopAddr) (x : Station) : (s.setStation a x).clock = s.clock := rfl
@[simp] theorem State.setStation_clockUnset (s : State) (a : LoopAddr) (x : Station) : (s.setStation a x).clockUnset = s.clockUnset := rfl
@[simp] theorem State.setStation_mark (s : State) (a : LoopAddr) (x : Station) : (s.setStation a x).mark = s.mark := rfl
@[simp] theorem State.setStation_supply (s : State) (a : LoopAddr) (x : Station) : (s.setStation a x).supply = s.supply := rfl
@[simp] theorem State.setStation_backupMinutes (s : State) (a : LoopAddr) (x : Station) : (s.setStation a x).backupMinutes = s.backupMinutes := rfl
@[simp] theorem State.setStation_tickPhase (s : State) (a : LoopAddr) (x : Station) : (s.setStation a x).tickPhase = s.tickPhase := rfl
@[simp] theorem State.setStation_supplyLine (s : State) (a : LoopAddr) (x : Station) : (s.setStation a x).supplyLine = s.supplyLine := rfl
@[simp] theorem State.setStation_evacuateLine (s : State) (a : LoopAddr) (x : Station) : (s.setStation a x).evacuateLine = s.evacuateLine := rfl
@[simp] theorem State.setStation_rooms (s : State) (a : LoopAddr) (x : Station) : (s.setStation a x).rooms = s.rooms := rfl
@[simp] theorem State.setStation_timings (s : State) (a : LoopAddr) (x : Station) : (s.setStation a x).timings = s.timings := rfl
@[simp] theorem State.setStation_locked (s : State) (a : LoopAddr) (x : Station) : (s.setStation a x).locked = s.locked := rfl
@[simp] theorem State.setStation_stationMap (s : State) (a : LoopAddr) (x : Station) : (s.setStation a x).stationMap = s.stationMap := rfl
@[simp] theorem State.setStation_freezes (s : State) (a : LoopAddr) (x : Station) : (s.setStation a x).freezes = s.freezes := rfl
@[simp] theorem State.setStation_permits (s : State) (a : LoopAddr) (x : Station) : (s.setStation a x).permits = s.permits := rfl
@[simp] theorem State.setStation_turn (s : State) (a : LoopAddr) (x : Station) : (s.setStation a x).turn = s.turn := rfl
@[simp] theorem State.setStation_lastServed (s : State) (a : LoopAddr) (x : Station) : (s.setStation a x).lastServed = s.lastServed := rfl
@[simp] theorem State.setStation_readQueue (s : State) (a : LoopAddr) (x : Station) : (s.setStation a x).readQueue = s.readQueue := rfl
@[simp] theorem State.setStation_holds (s : State) (a : LoopAddr) (x : Station) : (s.setStation a x).holds = s.holds := rfl
@[simp] theorem State.setStation_pool (s : State) (a : LoopAddr) (x : Station) : (s.setStation a x).pool = s.pool := rfl
@[simp] theorem State.setStation_occupancy (s : State) (a : LoopAddr) (x : Station) : (s.setStation a x).occupancy = s.occupancy := rfl
@[simp] theorem State.setStation_heldEffects (s : State) (a : LoopAddr) (x : Station) : (s.setStation a x).heldEffects = s.heldEffects := rfl
@[simp] theorem State.setStation_lastPolled (s : State) (a : LoopAddr) (x : Station) : (s.setStation a x).lastPolled = s.lastPolled := rfl
@[simp] theorem State.setStation_passKept (s : State) (a : LoopAddr) (x : Station) : (s.setStation a x).passKept = s.passKept := rfl
@[simp] theorem State.setStation_polling (s : State) (a : LoopAddr) (x : Station) : (s.setStation a x).polling = s.polling := rfl
@[simp] theorem State.setStation_doors (s : State) (a : LoopAddr) (x : Station) : (s.setStation a x).doors = s.doors := rfl
@[simp] theorem State.setStation_evacuating (s : State) (a : LoopAddr) (x : Station) : (s.setStation a x).evacuating = s.evacuating := rfl
@[simp] theorem State.setStation_edgeCount (s : State) (a : LoopAddr) (x : Station) : (s.setStation a x).edgeCount = s.edgeCount := rfl
@[simp] theorem State.setStation_evacuateTaken (s : State) (a : LoopAddr) (x : Station) : (s.setStation a x).evacuateTaken = s.evacuateTaken := rfl
@[simp] theorem State.setStation_sweep (s : State) (a : LoopAddr) (x : Station) : (s.setStation a x).sweep = s.sweep := rfl
@[simp] theorem State.setStation_walk (s : State) (a : LoopAddr) (x : Station) : (s.setStation a x).walk = s.walk := rfl
@[simp] theorem State.setStation_notices (s : State) (a : LoopAddr) (x : Station) : (s.setStation a x).notices = s.notices := rfl
@[simp] theorem State.setStation_journal (s : State) (a : LoopAddr) (x : Station) : (s.setStation a x).journal = s.journal := rfl
@[simp] theorem State.setStation_nextSequence (s : State) (a : LoopAddr) (x : Station) : (s.setStation a x).nextSequence = s.nextSequence := rfl
@[simp] theorem State.setStation_restartDue (s : State) (a : LoopAddr) (x : Station) : (s.setStation a x).restartDue = s.restartDue := rfl
@[simp] theorem State.setStation_counters (s : State) (a : LoopAddr) (x : Station) : (s.setStation a x).counters = s.counters := rfl
@[simp] theorem State.setStation_ports (s : State) (a : LoopAddr) (x : Station) : (s.setStation a x).ports = s.ports := rfl
@[simp] theorem State.setStation_freeUsed (s : State) (a : LoopAddr) (x : Station) : (s.setStation a x).freeUsed = s.freeUsed := rfl
@[simp] theorem State.setStation_pending (s : State) (a : LoopAddr) (x : Station) : (s.setStation a x).pending = s.pending := rfl

@[simp] theorem State.setStation_port (s : State) (a : LoopAddr) (x : Station) (k : Link) : (s.setStation a x).port k = s.port k := rfl
@[simp] theorem State.setStation_queue (s : State) (a : LoopAddr) (x : Station) (k : Link) : (s.setStation a x).queue k = s.queue k := rfl
@[simp] theorem State.setStation_station_same (s : State) (a : LoopAddr) (x : Station) : (s.setStation a x).station a = x := by
  simp [State.setStation, State.station]

@[simp] theorem State.setStation_station_other (s : State) (a : LoopAddr) (x : Station) {k : LoopAddr} (h : a ≠ k) :
    (s.setStation a x).station k = s.station k := by
  simp [State.setStation, State.station, h]

@[simp] theorem State.setStation_setStation (s : State) (a : LoopAddr) (x : Station) (y : Station) : (s.setStation a x).setStation a y = s.setStation a y := by
  simp [State.setStation]

@[simp] theorem State.setStation_door (s : State) (a : LoopAddr) (x : Station) (k : RoomNo) : (s.setStation a x).door k = s.door k := rfl
@[simp] theorem State.setStation_permit (s : State) (a : LoopAddr) (x : Station) (k : SlotNo) : (s.setStation a x).permit k = s.permit k := rfl
@[simp] theorem State.setStation_presence (s : State) (a : LoopAddr) (x : Station) (k : PoolIx) : (s.setStation a x).presence k = s.presence k := rfl
@[simp] theorem State.setStation_roomState (s : State) (a : LoopAddr) (x : Station) (k : RoomNo) : (s.setStation a x).roomState k = s.roomState k := rfl
@[simp] theorem State.setStation_hold (s : State) (a : LoopAddr) (x : Station) (k : RoomNo) : (s.setStation a x).hold k = s.hold k := rfl
@[simp] theorem State.setStation_room (s : State) (a : LoopAddr) (x : Station) (k : RoomNo) : (s.setStation a x).room k = s.room k := rfl

/-! ### setDoor -/

@[simp] theorem State.setDoor_clock (s : State) (r : RoomNo) (x : Door) : (s.setDoor r x).clock = s.clock := rfl
@[simp] theorem State.setDoor_clockUnset (s : State) (r : RoomNo) (x : Door) : (s.setDoor r x).clockUnset = s.clockUnset := rfl
@[simp] theorem State.setDoor_mark (s : State) (r : RoomNo) (x : Door) : (s.setDoor r x).mark = s.mark := rfl
@[simp] theorem State.setDoor_supply (s : State) (r : RoomNo) (x : Door) : (s.setDoor r x).supply = s.supply := rfl
@[simp] theorem State.setDoor_backupMinutes (s : State) (r : RoomNo) (x : Door) : (s.setDoor r x).backupMinutes = s.backupMinutes := rfl
@[simp] theorem State.setDoor_tickPhase (s : State) (r : RoomNo) (x : Door) : (s.setDoor r x).tickPhase = s.tickPhase := rfl
@[simp] theorem State.setDoor_supplyLine (s : State) (r : RoomNo) (x : Door) : (s.setDoor r x).supplyLine = s.supplyLine := rfl
@[simp] theorem State.setDoor_evacuateLine (s : State) (r : RoomNo) (x : Door) : (s.setDoor r x).evacuateLine = s.evacuateLine := rfl
@[simp] theorem State.setDoor_rooms (s : State) (r : RoomNo) (x : Door) : (s.setDoor r x).rooms = s.rooms := rfl
@[simp] theorem State.setDoor_timings (s : State) (r : RoomNo) (x : Door) : (s.setDoor r x).timings = s.timings := rfl
@[simp] theorem State.setDoor_locked (s : State) (r : RoomNo) (x : Door) : (s.setDoor r x).locked = s.locked := rfl
@[simp] theorem State.setDoor_stationMap (s : State) (r : RoomNo) (x : Door) : (s.setDoor r x).stationMap = s.stationMap := rfl
@[simp] theorem State.setDoor_freezes (s : State) (r : RoomNo) (x : Door) : (s.setDoor r x).freezes = s.freezes := rfl
@[simp] theorem State.setDoor_permits (s : State) (r : RoomNo) (x : Door) : (s.setDoor r x).permits = s.permits := rfl
@[simp] theorem State.setDoor_turn (s : State) (r : RoomNo) (x : Door) : (s.setDoor r x).turn = s.turn := rfl
@[simp] theorem State.setDoor_lastServed (s : State) (r : RoomNo) (x : Door) : (s.setDoor r x).lastServed = s.lastServed := rfl
@[simp] theorem State.setDoor_readQueue (s : State) (r : RoomNo) (x : Door) : (s.setDoor r x).readQueue = s.readQueue := rfl
@[simp] theorem State.setDoor_holds (s : State) (r : RoomNo) (x : Door) : (s.setDoor r x).holds = s.holds := rfl
@[simp] theorem State.setDoor_pool (s : State) (r : RoomNo) (x : Door) : (s.setDoor r x).pool = s.pool := rfl
@[simp] theorem State.setDoor_occupancy (s : State) (r : RoomNo) (x : Door) : (s.setDoor r x).occupancy = s.occupancy := rfl
@[simp] theorem State.setDoor_heldEffects (s : State) (r : RoomNo) (x : Door) : (s.setDoor r x).heldEffects = s.heldEffects := rfl
@[simp] theorem State.setDoor_stations (s : State) (r : RoomNo) (x : Door) : (s.setDoor r x).stations = s.stations := rfl
@[simp] theorem State.setDoor_lastPolled (s : State) (r : RoomNo) (x : Door) : (s.setDoor r x).lastPolled = s.lastPolled := rfl
@[simp] theorem State.setDoor_passKept (s : State) (r : RoomNo) (x : Door) : (s.setDoor r x).passKept = s.passKept := rfl
@[simp] theorem State.setDoor_polling (s : State) (r : RoomNo) (x : Door) : (s.setDoor r x).polling = s.polling := rfl
@[simp] theorem State.setDoor_evacuating (s : State) (r : RoomNo) (x : Door) : (s.setDoor r x).evacuating = s.evacuating := rfl
@[simp] theorem State.setDoor_edgeCount (s : State) (r : RoomNo) (x : Door) : (s.setDoor r x).edgeCount = s.edgeCount := rfl
@[simp] theorem State.setDoor_evacuateTaken (s : State) (r : RoomNo) (x : Door) : (s.setDoor r x).evacuateTaken = s.evacuateTaken := rfl
@[simp] theorem State.setDoor_sweep (s : State) (r : RoomNo) (x : Door) : (s.setDoor r x).sweep = s.sweep := rfl
@[simp] theorem State.setDoor_walk (s : State) (r : RoomNo) (x : Door) : (s.setDoor r x).walk = s.walk := rfl
@[simp] theorem State.setDoor_notices (s : State) (r : RoomNo) (x : Door) : (s.setDoor r x).notices = s.notices := rfl
@[simp] theorem State.setDoor_journal (s : State) (r : RoomNo) (x : Door) : (s.setDoor r x).journal = s.journal := rfl
@[simp] theorem State.setDoor_nextSequence (s : State) (r : RoomNo) (x : Door) : (s.setDoor r x).nextSequence = s.nextSequence := rfl
@[simp] theorem State.setDoor_restartDue (s : State) (r : RoomNo) (x : Door) : (s.setDoor r x).restartDue = s.restartDue := rfl
@[simp] theorem State.setDoor_counters (s : State) (r : RoomNo) (x : Door) : (s.setDoor r x).counters = s.counters := rfl
@[simp] theorem State.setDoor_ports (s : State) (r : RoomNo) (x : Door) : (s.setDoor r x).ports = s.ports := rfl
@[simp] theorem State.setDoor_freeUsed (s : State) (r : RoomNo) (x : Door) : (s.setDoor r x).freeUsed = s.freeUsed := rfl
@[simp] theorem State.setDoor_pending (s : State) (r : RoomNo) (x : Door) : (s.setDoor r x).pending = s.pending := rfl

@[simp] theorem State.setDoor_port (s : State) (r : RoomNo) (x : Door) (k : Link) : (s.setDoor r x).port k = s.port k := rfl
@[simp] theorem State.setDoor_queue (s : State) (r : RoomNo) (x : Door) (k : Link) : (s.setDoor r x).queue k = s.queue k := rfl
@[simp] theorem State.setDoor_station (s : State) (r : RoomNo) (x : Door) (k : LoopAddr) : (s.setDoor r x).station k = s.station k := rfl
@[simp] theorem State.setDoor_door_same (s : State) (r : RoomNo) (x : Door) : (s.setDoor r x).door r = x := by
  simp [State.setDoor, State.door]

@[simp] theorem State.setDoor_door_other (s : State) (r : RoomNo) (x : Door) {k : RoomNo} (h : r ≠ k) :
    (s.setDoor r x).door k = s.door k := by
  simp [State.setDoor, State.door, h]

@[simp] theorem State.setDoor_setDoor (s : State) (r : RoomNo) (x : Door) (y : Door) : (s.setDoor r x).setDoor r y = s.setDoor r y := by
  simp [State.setDoor]

@[simp] theorem State.setDoor_permit (s : State) (r : RoomNo) (x : Door) (k : SlotNo) : (s.setDoor r x).permit k = s.permit k := rfl
@[simp] theorem State.setDoor_presence (s : State) (r : RoomNo) (x : Door) (k : PoolIx) : (s.setDoor r x).presence k = s.presence k := rfl
@[simp] theorem State.setDoor_roomState (s : State) (r : RoomNo) (x : Door) (k : RoomNo) : (s.setDoor r x).roomState k = s.roomState k := rfl
@[simp] theorem State.setDoor_hold (s : State) (r : RoomNo) (x : Door) (k : RoomNo) : (s.setDoor r x).hold k = s.hold k := rfl
@[simp] theorem State.setDoor_room (s : State) (r : RoomNo) (x : Door) (k : RoomNo) : (s.setDoor r x).room k = s.room k := rfl

/-! ### setPermit -/

@[simp] theorem State.setPermit_clock (s : State) (i : SlotNo) (x : Option Permit) : (s.setPermit i x).clock = s.clock := rfl
@[simp] theorem State.setPermit_clockUnset (s : State) (i : SlotNo) (x : Option Permit) : (s.setPermit i x).clockUnset = s.clockUnset := rfl
@[simp] theorem State.setPermit_mark (s : State) (i : SlotNo) (x : Option Permit) : (s.setPermit i x).mark = s.mark := rfl
@[simp] theorem State.setPermit_supply (s : State) (i : SlotNo) (x : Option Permit) : (s.setPermit i x).supply = s.supply := rfl
@[simp] theorem State.setPermit_backupMinutes (s : State) (i : SlotNo) (x : Option Permit) : (s.setPermit i x).backupMinutes = s.backupMinutes := rfl
@[simp] theorem State.setPermit_tickPhase (s : State) (i : SlotNo) (x : Option Permit) : (s.setPermit i x).tickPhase = s.tickPhase := rfl
@[simp] theorem State.setPermit_supplyLine (s : State) (i : SlotNo) (x : Option Permit) : (s.setPermit i x).supplyLine = s.supplyLine := rfl
@[simp] theorem State.setPermit_evacuateLine (s : State) (i : SlotNo) (x : Option Permit) : (s.setPermit i x).evacuateLine = s.evacuateLine := rfl
@[simp] theorem State.setPermit_rooms (s : State) (i : SlotNo) (x : Option Permit) : (s.setPermit i x).rooms = s.rooms := rfl
@[simp] theorem State.setPermit_timings (s : State) (i : SlotNo) (x : Option Permit) : (s.setPermit i x).timings = s.timings := rfl
@[simp] theorem State.setPermit_locked (s : State) (i : SlotNo) (x : Option Permit) : (s.setPermit i x).locked = s.locked := rfl
@[simp] theorem State.setPermit_stationMap (s : State) (i : SlotNo) (x : Option Permit) : (s.setPermit i x).stationMap = s.stationMap := rfl
@[simp] theorem State.setPermit_freezes (s : State) (i : SlotNo) (x : Option Permit) : (s.setPermit i x).freezes = s.freezes := rfl
@[simp] theorem State.setPermit_turn (s : State) (i : SlotNo) (x : Option Permit) : (s.setPermit i x).turn = s.turn := rfl
@[simp] theorem State.setPermit_lastServed (s : State) (i : SlotNo) (x : Option Permit) : (s.setPermit i x).lastServed = s.lastServed := rfl
@[simp] theorem State.setPermit_readQueue (s : State) (i : SlotNo) (x : Option Permit) : (s.setPermit i x).readQueue = s.readQueue := rfl
@[simp] theorem State.setPermit_holds (s : State) (i : SlotNo) (x : Option Permit) : (s.setPermit i x).holds = s.holds := rfl
@[simp] theorem State.setPermit_pool (s : State) (i : SlotNo) (x : Option Permit) : (s.setPermit i x).pool = s.pool := rfl
@[simp] theorem State.setPermit_occupancy (s : State) (i : SlotNo) (x : Option Permit) : (s.setPermit i x).occupancy = s.occupancy := rfl
@[simp] theorem State.setPermit_heldEffects (s : State) (i : SlotNo) (x : Option Permit) : (s.setPermit i x).heldEffects = s.heldEffects := rfl
@[simp] theorem State.setPermit_stations (s : State) (i : SlotNo) (x : Option Permit) : (s.setPermit i x).stations = s.stations := rfl
@[simp] theorem State.setPermit_lastPolled (s : State) (i : SlotNo) (x : Option Permit) : (s.setPermit i x).lastPolled = s.lastPolled := rfl
@[simp] theorem State.setPermit_passKept (s : State) (i : SlotNo) (x : Option Permit) : (s.setPermit i x).passKept = s.passKept := rfl
@[simp] theorem State.setPermit_polling (s : State) (i : SlotNo) (x : Option Permit) : (s.setPermit i x).polling = s.polling := rfl
@[simp] theorem State.setPermit_doors (s : State) (i : SlotNo) (x : Option Permit) : (s.setPermit i x).doors = s.doors := rfl
@[simp] theorem State.setPermit_evacuating (s : State) (i : SlotNo) (x : Option Permit) : (s.setPermit i x).evacuating = s.evacuating := rfl
@[simp] theorem State.setPermit_edgeCount (s : State) (i : SlotNo) (x : Option Permit) : (s.setPermit i x).edgeCount = s.edgeCount := rfl
@[simp] theorem State.setPermit_evacuateTaken (s : State) (i : SlotNo) (x : Option Permit) : (s.setPermit i x).evacuateTaken = s.evacuateTaken := rfl
@[simp] theorem State.setPermit_sweep (s : State) (i : SlotNo) (x : Option Permit) : (s.setPermit i x).sweep = s.sweep := rfl
@[simp] theorem State.setPermit_walk (s : State) (i : SlotNo) (x : Option Permit) : (s.setPermit i x).walk = s.walk := rfl
@[simp] theorem State.setPermit_notices (s : State) (i : SlotNo) (x : Option Permit) : (s.setPermit i x).notices = s.notices := rfl
@[simp] theorem State.setPermit_journal (s : State) (i : SlotNo) (x : Option Permit) : (s.setPermit i x).journal = s.journal := rfl
@[simp] theorem State.setPermit_nextSequence (s : State) (i : SlotNo) (x : Option Permit) : (s.setPermit i x).nextSequence = s.nextSequence := rfl
@[simp] theorem State.setPermit_restartDue (s : State) (i : SlotNo) (x : Option Permit) : (s.setPermit i x).restartDue = s.restartDue := rfl
@[simp] theorem State.setPermit_counters (s : State) (i : SlotNo) (x : Option Permit) : (s.setPermit i x).counters = s.counters := rfl
@[simp] theorem State.setPermit_ports (s : State) (i : SlotNo) (x : Option Permit) : (s.setPermit i x).ports = s.ports := rfl
@[simp] theorem State.setPermit_freeUsed (s : State) (i : SlotNo) (x : Option Permit) : (s.setPermit i x).freeUsed = s.freeUsed := rfl
@[simp] theorem State.setPermit_pending (s : State) (i : SlotNo) (x : Option Permit) : (s.setPermit i x).pending = s.pending := rfl

@[simp] theorem State.setPermit_port (s : State) (i : SlotNo) (x : Option Permit) (k : Link) : (s.setPermit i x).port k = s.port k := rfl
@[simp] theorem State.setPermit_queue (s : State) (i : SlotNo) (x : Option Permit) (k : Link) : (s.setPermit i x).queue k = s.queue k := rfl
@[simp] theorem State.setPermit_station (s : State) (i : SlotNo) (x : Option Permit) (k : LoopAddr) : (s.setPermit i x).station k = s.station k := rfl
@[simp] theorem State.setPermit_door (s : State) (i : SlotNo) (x : Option Permit) (k : RoomNo) : (s.setPermit i x).door k = s.door k := rfl
@[simp] theorem State.setPermit_permit_same (s : State) (i : SlotNo) (x : Option Permit) : (s.setPermit i x).permit i = x := by
  simp [State.setPermit, State.permit]

@[simp] theorem State.setPermit_permit_other (s : State) (i : SlotNo) (x : Option Permit) {k : SlotNo} (h : i ≠ k) :
    (s.setPermit i x).permit k = s.permit k := by
  simp [State.setPermit, State.permit, h]

@[simp] theorem State.setPermit_setPermit (s : State) (i : SlotNo) (x : Option Permit) (y : Option Permit) : (s.setPermit i x).setPermit i y = s.setPermit i y := by
  simp [State.setPermit]

@[simp] theorem State.setPermit_presence (s : State) (i : SlotNo) (x : Option Permit) (k : PoolIx) : (s.setPermit i x).presence k = s.presence k := rfl
@[simp] theorem State.setPermit_roomState (s : State) (i : SlotNo) (x : Option Permit) (k : RoomNo) : (s.setPermit i x).roomState k = s.roomState k := rfl
@[simp] theorem State.setPermit_hold (s : State) (i : SlotNo) (x : Option Permit) (k : RoomNo) : (s.setPermit i x).hold k = s.hold k := rfl
@[simp] theorem State.setPermit_room (s : State) (i : SlotNo) (x : Option Permit) (k : RoomNo) : (s.setPermit i x).room k = s.room k := rfl

/-! ### setPresence -/

@[simp] theorem State.setPresence_clock (s : State) (i : PoolIx) (x : Option Presence) : (s.setPresence i x).clock = s.clock := rfl
@[simp] theorem State.setPresence_clockUnset (s : State) (i : PoolIx) (x : Option Presence) : (s.setPresence i x).clockUnset = s.clockUnset := rfl
@[simp] theorem State.setPresence_mark (s : State) (i : PoolIx) (x : Option Presence) : (s.setPresence i x).mark = s.mark := rfl
@[simp] theorem State.setPresence_supply (s : State) (i : PoolIx) (x : Option Presence) : (s.setPresence i x).supply = s.supply := rfl
@[simp] theorem State.setPresence_backupMinutes (s : State) (i : PoolIx) (x : Option Presence) : (s.setPresence i x).backupMinutes = s.backupMinutes := rfl
@[simp] theorem State.setPresence_tickPhase (s : State) (i : PoolIx) (x : Option Presence) : (s.setPresence i x).tickPhase = s.tickPhase := rfl
@[simp] theorem State.setPresence_supplyLine (s : State) (i : PoolIx) (x : Option Presence) : (s.setPresence i x).supplyLine = s.supplyLine := rfl
@[simp] theorem State.setPresence_evacuateLine (s : State) (i : PoolIx) (x : Option Presence) : (s.setPresence i x).evacuateLine = s.evacuateLine := rfl
@[simp] theorem State.setPresence_rooms (s : State) (i : PoolIx) (x : Option Presence) : (s.setPresence i x).rooms = s.rooms := rfl
@[simp] theorem State.setPresence_timings (s : State) (i : PoolIx) (x : Option Presence) : (s.setPresence i x).timings = s.timings := rfl
@[simp] theorem State.setPresence_locked (s : State) (i : PoolIx) (x : Option Presence) : (s.setPresence i x).locked = s.locked := rfl
@[simp] theorem State.setPresence_stationMap (s : State) (i : PoolIx) (x : Option Presence) : (s.setPresence i x).stationMap = s.stationMap := rfl
@[simp] theorem State.setPresence_freezes (s : State) (i : PoolIx) (x : Option Presence) : (s.setPresence i x).freezes = s.freezes := rfl
@[simp] theorem State.setPresence_permits (s : State) (i : PoolIx) (x : Option Presence) : (s.setPresence i x).permits = s.permits := rfl
@[simp] theorem State.setPresence_turn (s : State) (i : PoolIx) (x : Option Presence) : (s.setPresence i x).turn = s.turn := rfl
@[simp] theorem State.setPresence_lastServed (s : State) (i : PoolIx) (x : Option Presence) : (s.setPresence i x).lastServed = s.lastServed := rfl
@[simp] theorem State.setPresence_readQueue (s : State) (i : PoolIx) (x : Option Presence) : (s.setPresence i x).readQueue = s.readQueue := rfl
@[simp] theorem State.setPresence_holds (s : State) (i : PoolIx) (x : Option Presence) : (s.setPresence i x).holds = s.holds := rfl
@[simp] theorem State.setPresence_occupancy (s : State) (i : PoolIx) (x : Option Presence) : (s.setPresence i x).occupancy = s.occupancy := rfl
@[simp] theorem State.setPresence_heldEffects (s : State) (i : PoolIx) (x : Option Presence) : (s.setPresence i x).heldEffects = s.heldEffects := rfl
@[simp] theorem State.setPresence_stations (s : State) (i : PoolIx) (x : Option Presence) : (s.setPresence i x).stations = s.stations := rfl
@[simp] theorem State.setPresence_lastPolled (s : State) (i : PoolIx) (x : Option Presence) : (s.setPresence i x).lastPolled = s.lastPolled := rfl
@[simp] theorem State.setPresence_passKept (s : State) (i : PoolIx) (x : Option Presence) : (s.setPresence i x).passKept = s.passKept := rfl
@[simp] theorem State.setPresence_polling (s : State) (i : PoolIx) (x : Option Presence) : (s.setPresence i x).polling = s.polling := rfl
@[simp] theorem State.setPresence_doors (s : State) (i : PoolIx) (x : Option Presence) : (s.setPresence i x).doors = s.doors := rfl
@[simp] theorem State.setPresence_evacuating (s : State) (i : PoolIx) (x : Option Presence) : (s.setPresence i x).evacuating = s.evacuating := rfl
@[simp] theorem State.setPresence_edgeCount (s : State) (i : PoolIx) (x : Option Presence) : (s.setPresence i x).edgeCount = s.edgeCount := rfl
@[simp] theorem State.setPresence_evacuateTaken (s : State) (i : PoolIx) (x : Option Presence) : (s.setPresence i x).evacuateTaken = s.evacuateTaken := rfl
@[simp] theorem State.setPresence_sweep (s : State) (i : PoolIx) (x : Option Presence) : (s.setPresence i x).sweep = s.sweep := rfl
@[simp] theorem State.setPresence_walk (s : State) (i : PoolIx) (x : Option Presence) : (s.setPresence i x).walk = s.walk := rfl
@[simp] theorem State.setPresence_notices (s : State) (i : PoolIx) (x : Option Presence) : (s.setPresence i x).notices = s.notices := rfl
@[simp] theorem State.setPresence_journal (s : State) (i : PoolIx) (x : Option Presence) : (s.setPresence i x).journal = s.journal := rfl
@[simp] theorem State.setPresence_nextSequence (s : State) (i : PoolIx) (x : Option Presence) : (s.setPresence i x).nextSequence = s.nextSequence := rfl
@[simp] theorem State.setPresence_restartDue (s : State) (i : PoolIx) (x : Option Presence) : (s.setPresence i x).restartDue = s.restartDue := rfl
@[simp] theorem State.setPresence_counters (s : State) (i : PoolIx) (x : Option Presence) : (s.setPresence i x).counters = s.counters := rfl
@[simp] theorem State.setPresence_ports (s : State) (i : PoolIx) (x : Option Presence) : (s.setPresence i x).ports = s.ports := rfl
@[simp] theorem State.setPresence_freeUsed (s : State) (i : PoolIx) (x : Option Presence) : (s.setPresence i x).freeUsed = s.freeUsed := rfl
@[simp] theorem State.setPresence_pending (s : State) (i : PoolIx) (x : Option Presence) : (s.setPresence i x).pending = s.pending := rfl

@[simp] theorem State.setPresence_port (s : State) (i : PoolIx) (x : Option Presence) (k : Link) : (s.setPresence i x).port k = s.port k := rfl
@[simp] theorem State.setPresence_queue (s : State) (i : PoolIx) (x : Option Presence) (k : Link) : (s.setPresence i x).queue k = s.queue k := rfl
@[simp] theorem State.setPresence_station (s : State) (i : PoolIx) (x : Option Presence) (k : LoopAddr) : (s.setPresence i x).station k = s.station k := rfl
@[simp] theorem State.setPresence_door (s : State) (i : PoolIx) (x : Option Presence) (k : RoomNo) : (s.setPresence i x).door k = s.door k := rfl
@[simp] theorem State.setPresence_permit (s : State) (i : PoolIx) (x : Option Presence) (k : SlotNo) : (s.setPresence i x).permit k = s.permit k := rfl
@[simp] theorem State.setPresence_presence_same (s : State) (i : PoolIx) (x : Option Presence) : (s.setPresence i x).presence i = x := by
  simp [State.setPresence, State.presence]

@[simp] theorem State.setPresence_presence_other (s : State) (i : PoolIx) (x : Option Presence) {k : PoolIx} (h : i ≠ k) :
    (s.setPresence i x).presence k = s.presence k := by
  simp [State.setPresence, State.presence, h]

@[simp] theorem State.setPresence_setPresence (s : State) (i : PoolIx) (x : Option Presence) (y : Option Presence) : (s.setPresence i x).setPresence i y = s.setPresence i y := by
  simp [State.setPresence]

@[simp] theorem State.setPresence_roomState (s : State) (i : PoolIx) (x : Option Presence) (k : RoomNo) : (s.setPresence i x).roomState k = s.roomState k := rfl
@[simp] theorem State.setPresence_hold (s : State) (i : PoolIx) (x : Option Presence) (k : RoomNo) : (s.setPresence i x).hold k = s.hold k := rfl
@[simp] theorem State.setPresence_room (s : State) (i : PoolIx) (x : Option Presence) (k : RoomNo) : (s.setPresence i x).room k = s.room k := rfl

/-! ### setRoomState -/

@[simp] theorem State.setRoomState_clock (s : State) (r : RoomNo) (x : RoomOccupancy) : (s.setRoomState r x).clock = s.clock := rfl
@[simp] theorem State.setRoomState_clockUnset (s : State) (r : RoomNo) (x : RoomOccupancy) : (s.setRoomState r x).clockUnset = s.clockUnset := rfl
@[simp] theorem State.setRoomState_mark (s : State) (r : RoomNo) (x : RoomOccupancy) : (s.setRoomState r x).mark = s.mark := rfl
@[simp] theorem State.setRoomState_supply (s : State) (r : RoomNo) (x : RoomOccupancy) : (s.setRoomState r x).supply = s.supply := rfl
@[simp] theorem State.setRoomState_backupMinutes (s : State) (r : RoomNo) (x : RoomOccupancy) : (s.setRoomState r x).backupMinutes = s.backupMinutes := rfl
@[simp] theorem State.setRoomState_tickPhase (s : State) (r : RoomNo) (x : RoomOccupancy) : (s.setRoomState r x).tickPhase = s.tickPhase := rfl
@[simp] theorem State.setRoomState_supplyLine (s : State) (r : RoomNo) (x : RoomOccupancy) : (s.setRoomState r x).supplyLine = s.supplyLine := rfl
@[simp] theorem State.setRoomState_evacuateLine (s : State) (r : RoomNo) (x : RoomOccupancy) : (s.setRoomState r x).evacuateLine = s.evacuateLine := rfl
@[simp] theorem State.setRoomState_rooms (s : State) (r : RoomNo) (x : RoomOccupancy) : (s.setRoomState r x).rooms = s.rooms := rfl
@[simp] theorem State.setRoomState_timings (s : State) (r : RoomNo) (x : RoomOccupancy) : (s.setRoomState r x).timings = s.timings := rfl
@[simp] theorem State.setRoomState_locked (s : State) (r : RoomNo) (x : RoomOccupancy) : (s.setRoomState r x).locked = s.locked := rfl
@[simp] theorem State.setRoomState_stationMap (s : State) (r : RoomNo) (x : RoomOccupancy) : (s.setRoomState r x).stationMap = s.stationMap := rfl
@[simp] theorem State.setRoomState_freezes (s : State) (r : RoomNo) (x : RoomOccupancy) : (s.setRoomState r x).freezes = s.freezes := rfl
@[simp] theorem State.setRoomState_permits (s : State) (r : RoomNo) (x : RoomOccupancy) : (s.setRoomState r x).permits = s.permits := rfl
@[simp] theorem State.setRoomState_turn (s : State) (r : RoomNo) (x : RoomOccupancy) : (s.setRoomState r x).turn = s.turn := rfl
@[simp] theorem State.setRoomState_lastServed (s : State) (r : RoomNo) (x : RoomOccupancy) : (s.setRoomState r x).lastServed = s.lastServed := rfl
@[simp] theorem State.setRoomState_readQueue (s : State) (r : RoomNo) (x : RoomOccupancy) : (s.setRoomState r x).readQueue = s.readQueue := rfl
@[simp] theorem State.setRoomState_holds (s : State) (r : RoomNo) (x : RoomOccupancy) : (s.setRoomState r x).holds = s.holds := rfl
@[simp] theorem State.setRoomState_pool (s : State) (r : RoomNo) (x : RoomOccupancy) : (s.setRoomState r x).pool = s.pool := rfl
@[simp] theorem State.setRoomState_heldEffects (s : State) (r : RoomNo) (x : RoomOccupancy) : (s.setRoomState r x).heldEffects = s.heldEffects := rfl
@[simp] theorem State.setRoomState_stations (s : State) (r : RoomNo) (x : RoomOccupancy) : (s.setRoomState r x).stations = s.stations := rfl
@[simp] theorem State.setRoomState_lastPolled (s : State) (r : RoomNo) (x : RoomOccupancy) : (s.setRoomState r x).lastPolled = s.lastPolled := rfl
@[simp] theorem State.setRoomState_passKept (s : State) (r : RoomNo) (x : RoomOccupancy) : (s.setRoomState r x).passKept = s.passKept := rfl
@[simp] theorem State.setRoomState_polling (s : State) (r : RoomNo) (x : RoomOccupancy) : (s.setRoomState r x).polling = s.polling := rfl
@[simp] theorem State.setRoomState_doors (s : State) (r : RoomNo) (x : RoomOccupancy) : (s.setRoomState r x).doors = s.doors := rfl
@[simp] theorem State.setRoomState_evacuating (s : State) (r : RoomNo) (x : RoomOccupancy) : (s.setRoomState r x).evacuating = s.evacuating := rfl
@[simp] theorem State.setRoomState_edgeCount (s : State) (r : RoomNo) (x : RoomOccupancy) : (s.setRoomState r x).edgeCount = s.edgeCount := rfl
@[simp] theorem State.setRoomState_evacuateTaken (s : State) (r : RoomNo) (x : RoomOccupancy) : (s.setRoomState r x).evacuateTaken = s.evacuateTaken := rfl
@[simp] theorem State.setRoomState_sweep (s : State) (r : RoomNo) (x : RoomOccupancy) : (s.setRoomState r x).sweep = s.sweep := rfl
@[simp] theorem State.setRoomState_walk (s : State) (r : RoomNo) (x : RoomOccupancy) : (s.setRoomState r x).walk = s.walk := rfl
@[simp] theorem State.setRoomState_notices (s : State) (r : RoomNo) (x : RoomOccupancy) : (s.setRoomState r x).notices = s.notices := rfl
@[simp] theorem State.setRoomState_journal (s : State) (r : RoomNo) (x : RoomOccupancy) : (s.setRoomState r x).journal = s.journal := rfl
@[simp] theorem State.setRoomState_nextSequence (s : State) (r : RoomNo) (x : RoomOccupancy) : (s.setRoomState r x).nextSequence = s.nextSequence := rfl
@[simp] theorem State.setRoomState_restartDue (s : State) (r : RoomNo) (x : RoomOccupancy) : (s.setRoomState r x).restartDue = s.restartDue := rfl
@[simp] theorem State.setRoomState_counters (s : State) (r : RoomNo) (x : RoomOccupancy) : (s.setRoomState r x).counters = s.counters := rfl
@[simp] theorem State.setRoomState_ports (s : State) (r : RoomNo) (x : RoomOccupancy) : (s.setRoomState r x).ports = s.ports := rfl
@[simp] theorem State.setRoomState_freeUsed (s : State) (r : RoomNo) (x : RoomOccupancy) : (s.setRoomState r x).freeUsed = s.freeUsed := rfl
@[simp] theorem State.setRoomState_pending (s : State) (r : RoomNo) (x : RoomOccupancy) : (s.setRoomState r x).pending = s.pending := rfl

@[simp] theorem State.setRoomState_port (s : State) (r : RoomNo) (x : RoomOccupancy) (k : Link) : (s.setRoomState r x).port k = s.port k := rfl
@[simp] theorem State.setRoomState_queue (s : State) (r : RoomNo) (x : RoomOccupancy) (k : Link) : (s.setRoomState r x).queue k = s.queue k := rfl
@[simp] theorem State.setRoomState_station (s : State) (r : RoomNo) (x : RoomOccupancy) (k : LoopAddr) : (s.setRoomState r x).station k = s.station k := rfl
@[simp] theorem State.setRoomState_door (s : State) (r : RoomNo) (x : RoomOccupancy) (k : RoomNo) : (s.setRoomState r x).door k = s.door k := rfl
@[simp] theorem State.setRoomState_permit (s : State) (r : RoomNo) (x : RoomOccupancy) (k : SlotNo) : (s.setRoomState r x).permit k = s.permit k := rfl
@[simp] theorem State.setRoomState_presence (s : State) (r : RoomNo) (x : RoomOccupancy) (k : PoolIx) : (s.setRoomState r x).presence k = s.presence k := rfl
@[simp] theorem State.setRoomState_roomState_same (s : State) (r : RoomNo) (x : RoomOccupancy) : (s.setRoomState r x).roomState r = x := by
  simp [State.setRoomState, State.roomState]

@[simp] theorem State.setRoomState_roomState_other (s : State) (r : RoomNo) (x : RoomOccupancy) {k : RoomNo} (h : r ≠ k) :
    (s.setRoomState r x).roomState k = s.roomState k := by
  simp [State.setRoomState, State.roomState, h]

@[simp] theorem State.setRoomState_setRoomState (s : State) (r : RoomNo) (x : RoomOccupancy) (y : RoomOccupancy) : (s.setRoomState r x).setRoomState r y = s.setRoomState r y := by
  simp [State.setRoomState]

@[simp] theorem State.setRoomState_hold (s : State) (r : RoomNo) (x : RoomOccupancy) (k : RoomNo) : (s.setRoomState r x).hold k = s.hold k := rfl
@[simp] theorem State.setRoomState_room (s : State) (r : RoomNo) (x : RoomOccupancy) (k : RoomNo) : (s.setRoomState r x).room k = s.room k := rfl

/-! ### setHold -/

@[simp] theorem State.setHold_clock (s : State) (r : RoomNo) (x : Option Hold) : (s.setHold r x).clock = s.clock := rfl
@[simp] theorem State.setHold_clockUnset (s : State) (r : RoomNo) (x : Option Hold) : (s.setHold r x).clockUnset = s.clockUnset := rfl
@[simp] theorem State.setHold_mark (s : State) (r : RoomNo) (x : Option Hold) : (s.setHold r x).mark = s.mark := rfl
@[simp] theorem State.setHold_supply (s : State) (r : RoomNo) (x : Option Hold) : (s.setHold r x).supply = s.supply := rfl
@[simp] theorem State.setHold_backupMinutes (s : State) (r : RoomNo) (x : Option Hold) : (s.setHold r x).backupMinutes = s.backupMinutes := rfl
@[simp] theorem State.setHold_tickPhase (s : State) (r : RoomNo) (x : Option Hold) : (s.setHold r x).tickPhase = s.tickPhase := rfl
@[simp] theorem State.setHold_supplyLine (s : State) (r : RoomNo) (x : Option Hold) : (s.setHold r x).supplyLine = s.supplyLine := rfl
@[simp] theorem State.setHold_evacuateLine (s : State) (r : RoomNo) (x : Option Hold) : (s.setHold r x).evacuateLine = s.evacuateLine := rfl
@[simp] theorem State.setHold_rooms (s : State) (r : RoomNo) (x : Option Hold) : (s.setHold r x).rooms = s.rooms := rfl
@[simp] theorem State.setHold_timings (s : State) (r : RoomNo) (x : Option Hold) : (s.setHold r x).timings = s.timings := rfl
@[simp] theorem State.setHold_locked (s : State) (r : RoomNo) (x : Option Hold) : (s.setHold r x).locked = s.locked := rfl
@[simp] theorem State.setHold_stationMap (s : State) (r : RoomNo) (x : Option Hold) : (s.setHold r x).stationMap = s.stationMap := rfl
@[simp] theorem State.setHold_freezes (s : State) (r : RoomNo) (x : Option Hold) : (s.setHold r x).freezes = s.freezes := rfl
@[simp] theorem State.setHold_permits (s : State) (r : RoomNo) (x : Option Hold) : (s.setHold r x).permits = s.permits := rfl
@[simp] theorem State.setHold_turn (s : State) (r : RoomNo) (x : Option Hold) : (s.setHold r x).turn = s.turn := rfl
@[simp] theorem State.setHold_lastServed (s : State) (r : RoomNo) (x : Option Hold) : (s.setHold r x).lastServed = s.lastServed := rfl
@[simp] theorem State.setHold_readQueue (s : State) (r : RoomNo) (x : Option Hold) : (s.setHold r x).readQueue = s.readQueue := rfl
@[simp] theorem State.setHold_pool (s : State) (r : RoomNo) (x : Option Hold) : (s.setHold r x).pool = s.pool := rfl
@[simp] theorem State.setHold_occupancy (s : State) (r : RoomNo) (x : Option Hold) : (s.setHold r x).occupancy = s.occupancy := rfl
@[simp] theorem State.setHold_heldEffects (s : State) (r : RoomNo) (x : Option Hold) : (s.setHold r x).heldEffects = s.heldEffects := rfl
@[simp] theorem State.setHold_stations (s : State) (r : RoomNo) (x : Option Hold) : (s.setHold r x).stations = s.stations := rfl
@[simp] theorem State.setHold_lastPolled (s : State) (r : RoomNo) (x : Option Hold) : (s.setHold r x).lastPolled = s.lastPolled := rfl
@[simp] theorem State.setHold_passKept (s : State) (r : RoomNo) (x : Option Hold) : (s.setHold r x).passKept = s.passKept := rfl
@[simp] theorem State.setHold_polling (s : State) (r : RoomNo) (x : Option Hold) : (s.setHold r x).polling = s.polling := rfl
@[simp] theorem State.setHold_doors (s : State) (r : RoomNo) (x : Option Hold) : (s.setHold r x).doors = s.doors := rfl
@[simp] theorem State.setHold_evacuating (s : State) (r : RoomNo) (x : Option Hold) : (s.setHold r x).evacuating = s.evacuating := rfl
@[simp] theorem State.setHold_edgeCount (s : State) (r : RoomNo) (x : Option Hold) : (s.setHold r x).edgeCount = s.edgeCount := rfl
@[simp] theorem State.setHold_evacuateTaken (s : State) (r : RoomNo) (x : Option Hold) : (s.setHold r x).evacuateTaken = s.evacuateTaken := rfl
@[simp] theorem State.setHold_sweep (s : State) (r : RoomNo) (x : Option Hold) : (s.setHold r x).sweep = s.sweep := rfl
@[simp] theorem State.setHold_walk (s : State) (r : RoomNo) (x : Option Hold) : (s.setHold r x).walk = s.walk := rfl
@[simp] theorem State.setHold_notices (s : State) (r : RoomNo) (x : Option Hold) : (s.setHold r x).notices = s.notices := rfl
@[simp] theorem State.setHold_journal (s : State) (r : RoomNo) (x : Option Hold) : (s.setHold r x).journal = s.journal := rfl
@[simp] theorem State.setHold_nextSequence (s : State) (r : RoomNo) (x : Option Hold) : (s.setHold r x).nextSequence = s.nextSequence := rfl
@[simp] theorem State.setHold_restartDue (s : State) (r : RoomNo) (x : Option Hold) : (s.setHold r x).restartDue = s.restartDue := rfl
@[simp] theorem State.setHold_counters (s : State) (r : RoomNo) (x : Option Hold) : (s.setHold r x).counters = s.counters := rfl
@[simp] theorem State.setHold_ports (s : State) (r : RoomNo) (x : Option Hold) : (s.setHold r x).ports = s.ports := rfl
@[simp] theorem State.setHold_freeUsed (s : State) (r : RoomNo) (x : Option Hold) : (s.setHold r x).freeUsed = s.freeUsed := rfl
@[simp] theorem State.setHold_pending (s : State) (r : RoomNo) (x : Option Hold) : (s.setHold r x).pending = s.pending := rfl

@[simp] theorem State.setHold_port (s : State) (r : RoomNo) (x : Option Hold) (k : Link) : (s.setHold r x).port k = s.port k := rfl
@[simp] theorem State.setHold_queue (s : State) (r : RoomNo) (x : Option Hold) (k : Link) : (s.setHold r x).queue k = s.queue k := rfl
@[simp] theorem State.setHold_station (s : State) (r : RoomNo) (x : Option Hold) (k : LoopAddr) : (s.setHold r x).station k = s.station k := rfl
@[simp] theorem State.setHold_door (s : State) (r : RoomNo) (x : Option Hold) (k : RoomNo) : (s.setHold r x).door k = s.door k := rfl
@[simp] theorem State.setHold_permit (s : State) (r : RoomNo) (x : Option Hold) (k : SlotNo) : (s.setHold r x).permit k = s.permit k := rfl
@[simp] theorem State.setHold_presence (s : State) (r : RoomNo) (x : Option Hold) (k : PoolIx) : (s.setHold r x).presence k = s.presence k := rfl
@[simp] theorem State.setHold_roomState (s : State) (r : RoomNo) (x : Option Hold) (k : RoomNo) : (s.setHold r x).roomState k = s.roomState k := rfl
@[simp] theorem State.setHold_hold_same (s : State) (r : RoomNo) (x : Option Hold) : (s.setHold r x).hold r = x := by
  simp [State.setHold, State.hold]

@[simp] theorem State.setHold_hold_other (s : State) (r : RoomNo) (x : Option Hold) {k : RoomNo} (h : r ≠ k) :
    (s.setHold r x).hold k = s.hold k := by
  simp [State.setHold, State.hold, h]

@[simp] theorem State.setHold_setHold (s : State) (r : RoomNo) (x : Option Hold) (y : Option Hold) : (s.setHold r x).setHold r y = s.setHold r y := by
  simp [State.setHold]

@[simp] theorem State.setHold_room (s : State) (r : RoomNo) (x : Option Hold) (k : RoomNo) : (s.setHold r x).room k = s.room k := rfl

end Sys2Proof.Machine
end

