-- ==== Sys2Proof/Laws/Ops.lean ====
section
/-! SUPPORT. What the shared operations of Machine/Ops.lean and Machine/Arbiter.lean do, each said once: the journal, notices and
attention lines, the counters, replies and refusals. -/

namespace Sys2Proof.Machine

/-! ### The journal -/

theorem writeJournal_backup (b : JournalBody) (s : State) (h : s.supply = .backup) : writeJournal b s = s := by
  simp [writeJournal, h]

theorem writeJournal_normal (b : JournalBody) (s : State) (h : s.supply = .normal) :
    writeJournal b s =
      { s with
        journal := s.journal.drop (s.journal.length + 1 - Config.journalCapacity) ++
          [⟨s.nextSequence, s.clock, { b with value := b.value.map cap16 }⟩]
        nextSequence := s.nextSequence + 1 } := by
  simp [writeJournal, h]

theorem writeJournal_frame (b : JournalBody) (s : State) :
    writeJournal b s = { s with journal := (writeJournal b s).journal, nextSequence := (writeJournal b s).nextSequence } := by
  unfold writeJournal; split <;> rfl

/-! ### Notices -/

theorem lowestLevel_mem (ns : List Notice) (h : lowestLevel ns < 8) : ∃ n ∈ ns, n.level = lowestLevel ns := by
  induction ns with
  | nil => simp [lowestLevel] at h
  | cons a ns ih =>
    simp only [lowestLevel] at h ⊢
    by_cases ha : a.level ≤ lowestLevel ns
    · exact ⟨a, by simp, by omega⟩
    · obtain ⟨n, hn, he⟩ := ih (by omega)
      exact ⟨n, by simp [hn], by omega⟩

theorem lowestLevel_le (ns : List Notice) (n : Notice) (h : n ∈ ns) : lowestLevel ns ≤ n.level := by
  induction ns with
  | nil => simp at h
  | cons a ns ih =>
    simp only [lowestLevel]
    rcases List.mem_cons.mp h with rfl | h
    · omega
    · have := ih h; omega

theorem le_highestLevel (ns : List Notice) (n : Notice) (h : n ∈ ns) : n.level ≤ highestLevel ns := by
  induction ns with
  | nil => simp at h
  | cons a ns ih =>
    simp only [highestLevel]
    rcases List.mem_cons.mp h with rfl | h
    · omega
    · have := ih h; omega

theorem highestLevel_mem (ns : List Notice) (h : ns ≠ []) : ∃ n ∈ ns, n.level = highestLevel ns := by
  induction ns with
  | nil => exact absurd rfl h
  | cons a ns ih =>
    simp only [highestLevel]
    by_cases ha : highestLevel ns ≤ a.level
    · exact ⟨a, by simp, by omega⟩
    · have hne : ns ≠ [] := by
        intro h0; simp [h0, highestLevel] at ha
      obtain ⟨n, hn, he⟩ := ih hne
      exact ⟨n, by simp [hn], by omega⟩

theorem kind_level_bounds (k : NoticeKind) : 1 ≤ k.level ∧ k.level ≤ 7 := by cases k <;> decide

/-- R151, R152: a queue of at most 32 stays so, whatever of a proper level is offered. -/
theorem offer_length (q : NoticeQueue) (n : Notice) (hn : n.level ≤ 8) (h : q.notices.length ≤ Config.noticeCapacity) :
    (q.offer n).1.notices.length ≤ Config.noticeCapacity := by
  unfold NoticeQueue.offer
  split
  · next hl => simp only [List.length_append, List.length_singleton]; omega
  · split
    · next hl hk =>
      obtain ⟨m, hm, he⟩ := lowestLevel_mem q.notices (by omega)
      have := List.length_eraseP_add_one (p := fun m => m.level == lowestLevel q.notices) hm (by simp [he])
      simp only [List.length_append, List.length_singleton]
      omega
    · exact h

/-- R151, R152: what a queue holds after an offer was there before or is what was offered. -/
theorem offer_mem (q : NoticeQueue) (n m : Notice) (h : m ∈ (q.offer n).1.notices) : m ∈ q.notices ∨ m = n := by
  unfold NoticeQueue.offer at h
  split at h
  · simpa using h
  · split at h
    · rcases List.mem_append.mp h with h | h
      · exact .inl (List.mem_of_mem_eraseP h)
      · exact .inr (by simpa using h)
    · exact .inl h

@[simp] theorem setPort_port (l : Link) (s : State) : s.setPort l (s.port l) = s := by simp [State.setPort, State.port]

/-- R157: judging a line changes that line alone. -/
theorem judgeAttention_frame (l : Link) (s : State) :
    ∃ a, judgeAttention l s = s.setPort l { s.port l with attention := a } := by
  unfold judgeAttention
  dsimp only
  split
  · exact ⟨_, rfl⟩
  · exact ⟨_, rfl⟩
  · exact ⟨(s.port l).attention, (setPort_port l s).symm⟩

/-- R158: a pulse changes that line alone. -/
theorem pulseFor_frame (l : Link) (k : Nat) (s : State) :
    ∃ a, pulseFor l k s = s.setPort l { s.port l with attention := a } := by
  unfold pulseFor
  dsimp only
  split
  · split
    · exact ⟨_, rfl⟩
    · exact ⟨(s.port l).attention, (setPort_port l s).symm⟩
  · exact ⟨(s.port l).attention, (setPort_port l s).symm⟩

/-- R151, R152, R157, R158: one copy of a notice reaches one queue and one attention line. -/
theorem postTo_frame (l : Link) (n : Notice) (s : State) :
    ∃ a, postTo l n s = (s.setQueue l ((s.queue l).offer n).1).setPort l { s.port l with attention := a } := by
  unfold postTo
  obtain ⟨a, ha⟩ := judgeAttention_frame l (s.setQueue l ((s.queue l).offer n).1)
  simp only [ha]
  split
  · obtain ⟨b, hb⟩ := pulseFor_frame l n.level
      ((s.setQueue l ((s.queue l).offer n).1).setPort l { (s.setQueue l ((s.queue l).offer n).1).port l with attention := a })
    exact ⟨b, by rw [hb]; simp⟩
  · exact ⟨a, by simp⟩

theorem post_backup (b : NoticeBody) (s : State) (h : s.supply = .backup) : post b s = s := by simp [post, h]

theorem post_normal (b : NoticeBody) (s : State) (h : s.supply = .normal) :
    post b s =
      b.queues.foldl (fun t l => postTo l ⟨{ b with figures := b.figures.capped }, b.kind.level, t.clock⟩ t) s := by
  simp [post, h]

/-! ### Counters -/

/-- R169: an addition changes one counter's value and sticky overflow, and may post COUNTER-OVERFLOW. -/
theorem addToCounter_value (c : CounterNo) (n : Nat) (s : State) :
    (addToCounter c n s).counters =
      put s.counters c { look s.counters c with
        value := (look s.counters c).value + BitVec.ofNat 32 n
        sticky := (look s.counters c).sticky || decide (2 ^ 32 ≤ (look s.counters c).value.toNat + n) } := by
  have hpost : ∀ b (t : State), (post b t).counters = t.counters := by
    intro b t
    have hfold : ∀ (ls : List Link) (f : State → Notice) (t : State),
        (ls.foldl (fun t l => postTo l (f t) t) t).counters = t.counters := by
      intro ls f
      induction ls with
      | nil => intro t; rfl
      | cons l ls ih =>
        intro t
        obtain ⟨a, ha⟩ := postTo_frame l (f t) t
        rw [List.foldl_cons, ih, ha]
        rfl
    unfold post
    split
    · rfl
    · exact hfold _ _ t
  by_cases h : (look s.counters c).value.toNat + n < 2 ^ 32
  · have hd : decide (2 ^ 32 ≤ (look s.counters c).value.toNat + n) = false := by simp only [decide_eq_false_iff_not]; omega
    rw [hd, Bool.or_false]
    simp only [addToCounter, h, if_true]
  · have hd : decide (2 ^ 32 ≤ (look s.counters c).value.toNat + n) = true := by simp only [decide_eq_true_eq]; omega
    rw [hd, Bool.or_true]
    simp only [addToCounter, h, if_false]
    split <;> simp only [hpost]

theorem report_backup (e : CountEvent) (room : Option RoomNo) (n : Nat) (s : State) (h : s.supply = .backup) :
    report e room n s = s := by simp [report, h]

/-! ### Replies -/

/-- R176: the reply to a request in flight and not yet answered. -/
theorem reply_unanswered (l : Link) (st : Status) (c : ReplyContent) (s : State) (r : Request) (g : Stage)
    (h : (s.port l).inFlight = some ⟨r, g⟩) (hg : g ≠ .answered) :
    reply l st c s = s.setPort l
      { s.port l with
        inFlight := some ⟨r, .answered⟩
        transmit := (s.port l).transmit.take (Config.transmitCapacity - 1) ++ [⟨r.code, st, c, true⟩] } := by
  unfold reply
  simp only [h]

/-- R176: a reply changes the link's port alone. -/
theorem reply_frame (l : Link) (st : Status) (c : ReplyContent) (s : State) :
    ∃ p, reply l st c s = s.setPort l p := by
  unfold reply
  dsimp only
  split
  · exact ⟨s.port l, (setPort_port l s).symm⟩
  · exact ⟨s.port l, (setPort_port l s).symm⟩
  · exact ⟨_, rfl⟩

/-- R175: a refusal changes the link's transmit queue alone. -/
theorem refuse_frame (l : Link) (code : Nat) (st : Status) (s : State) :
    ∃ q, refuse l code st s = s.setPort l { s.port l with transmit := q } := by
  unfold refuse
  dsimp only
  split
  · exact ⟨_, rfl⟩
  · exact ⟨(s.port l).transmit, (setPort_port l s).symm⟩

/-- R36, R175: checks that all pass. -/
theorem checked_passes (l : Link) (checks : List (Bool × Status)) (f : State → State) (s : State)
    (h : firstFailing checks = none) : checked l checks f s = f s := by simp [checked, h]

/-- R36, R175: the first check that fails. -/
theorem checked_fails (l : Link) (checks : List (Bool × Status)) (f : State → State) (s : State) (st : Status)
    (h : firstFailing checks = some st) : checked l checks f s = reply l st .nothing s := by simp [checked, h]

end Sys2Proof.Machine
end

