-- ==== Sys2Proof/Laws/Frames.lean ====
section
/-! SUPPORT. The frame of the occupancy, arbiter and loop operations: whatever they do to presences, doors, stations, holds, notices,
journal and counters, they leave the clock, the layout, the permits, the evacuation state, the sweep and the walk as they were. -/

namespace Sys2Proof.Machine

/-- Every field outside presences, doors, stations, holds, turns, reads, notices, journal, counters and ports is as it was. -/
structure Kept (s t : State) : Prop where
  clock : t.clock = s.clock
  clockUnset : t.clockUnset = s.clockUnset
  mark : t.mark = s.mark
  supply : t.supply = s.supply
  backupMinutes : t.backupMinutes = s.backupMinutes
  tickPhase : t.tickPhase = s.tickPhase
  supplyLine : t.supplyLine = s.supplyLine
  evacuateLine : t.evacuateLine = s.evacuateLine
  rooms : t.rooms = s.rooms
  timings : t.timings = s.timings
  locked : t.locked = s.locked
  stationMap : t.stationMap = s.stationMap
  freezes : t.freezes = s.freezes
  permits : t.permits = s.permits
  lastPolled : t.lastPolled = s.lastPolled
  passKept : t.passKept = s.passKept
  evacuating : t.evacuating = s.evacuating
  edgeCount : t.edgeCount = s.edgeCount
  evacuateTaken : t.evacuateTaken = s.evacuateTaken
  sweep : t.sweep = s.sweep
  walk : t.walk = s.walk
  restartDue : t.restartDue = s.restartDue
  pending : t.pending = s.pending

theorem Kept.refl (s : State) : Kept s s := by constructor <;> rfl

theorem Kept.trans {s t u : State} (h : Kept s t) (k : Kept t u) : Kept s u :=
  ⟨k.clock.trans h.clock, k.clockUnset.trans h.clockUnset, k.mark.trans h.mark, k.supply.trans h.supply, k.backupMinutes.trans h.backupMinutes, k.tickPhase.trans h.tickPhase, k.supplyLine.trans h.supplyLine, k.evacuateLine.trans h.evacuateLine, k.rooms.trans h.rooms, k.timings.trans h.timings, k.locked.trans h.locked, k.stationMap.trans h.stationMap, k.freezes.trans h.freezes, k.permits.trans h.permits, k.lastPolled.trans h.lastPolled, k.passKept.trans h.passKept, k.evacuating.trans h.evacuating, k.edgeCount.trans h.edgeCount, k.evacuateTaken.trans h.evacuateTaken, k.sweep.trans h.sweep, k.walk.trans h.walk, k.restartDue.trans h.restartDue, k.pending.trans h.pending⟩

theorem Kept.foldl {α : Type} {f : State → α → State} (h : ∀ s x, Kept s (f s x)) (l : List α) (s : State) :
    Kept s (l.foldl f s) := by
  induction l generalizing s with
  | nil => exact Kept.refl s
  | cons x l ih => exact (h s x).trans (ih (f s x))

theorem Kept.foldl_pair {α β : Type} {f : State × β → α → State × β} (h : ∀ x a, Kept x.1 (f x a).1) (l : List α) (x : State × β) :
    Kept x.1 (l.foldl f x).1 := by
  induction l generalizing x with
  | nil => exact Kept.refl x.1
  | cons a l ih => exact (h x a).trans (ih (f x a))

/-! ### Updates of one record -/

theorem setPort_kept (l : Link) (x : Port) (s : State) : Kept s (s.setPort l x) := by constructor <;> rfl

theorem setQueue_kept (l : Link) (x : NoticeQueue) (s : State) : Kept s (s.setQueue l x) := by constructor <;> rfl

theorem setStation_kept (a : LoopAddr) (x : Station) (s : State) : Kept s (s.setStation a x) := by constructor <;> rfl

theorem setDoor_kept (r : RoomNo) (x : Door) (s : State) : Kept s (s.setDoor r x) := by constructor <;> rfl

theorem setPresence_kept (i : PoolIx) (x : Option Presence) (s : State) : Kept s (s.setPresence i x) := by constructor <;> rfl

theorem setRoomState_kept (r : RoomNo) (x : RoomOccupancy) (s : State) : Kept s (s.setRoomState r x) := by constructor <;> rfl

theorem setHold_kept (r : RoomNo) (x : Option Hold) (s : State) : Kept s (s.setHold r x) := by constructor <;> rfl

/-! ### Notices, journal, counters -/

theorem postTo_kept (l : Link) (n : Notice) (s : State) : Kept s (postTo l n s) := by
  obtain ⟨a, ha⟩ := postTo_frame l n s
  rw [ha]
  exact (setQueue_kept ..).trans (setPort_kept ..)

theorem post_kept (b : NoticeBody) (s : State) : Kept s (post b s) := by
  unfold post
  split
  · exact Kept.refl s
  · exact Kept.foldl (fun s l => postTo_kept l _ s) _ s

theorem writeJournal_kept (b : JournalBody) (s : State) : Kept s (writeJournal b s) := by
  unfold writeJournal
  split
  · exact Kept.refl s
  · constructor <;> rfl

theorem counters_kept (k : Table 8 Counter) (s : State) : Kept s { s with counters := k } := by constructor <;> rfl

theorem addToCounter_kept (c : CounterNo) (n : Nat) (s : State) : Kept s (addToCounter c n s) := by
  unfold addToCounter
  dsimp only
  split
  · exact counters_kept _ s
  · split
    · exact (counters_kept _ s).trans (post_kept _ _)
    · exact counters_kept _ s

theorem report_kept (e : CountEvent) (room : Option RoomNo) (n : Nat) (s : State) : Kept s (report e room n s) := by
  unfold report
  split
  · exact Kept.refl s
  · refine Kept.foldl (fun s c => ?_) _ s
    dsimp only
    split
    · exact addToCounter_kept c n s
    · exact Kept.refl s

theorem countOccupancyMinutes_kept (s : State) : Kept s (countOccupancyMinutes s) := by
  unfold countOccupancyMinutes
  refine Kept.foldl (fun s c => ?_) _ s
  dsimp only
  split
  · exact addToCounter_kept c _ s
  · exact Kept.refl s

theorem reply_kept (l : Link) (st : Status) (c : ReplyContent) (s : State) : Kept s (reply l st c s) := by
  obtain ⟨p, hp⟩ := reply_frame l st c s
  rw [hp]
  exact setPort_kept l p s

theorem refuse_kept (l : Link) (code : Nat) (st : Status) (s : State) : Kept s (refuse l code st s) := by
  obtain ⟨q, hq⟩ := refuse_frame l code st s
  rw [hq]
  exact setPort_kept l _ s

/-! ### Occupancy -/

theorem uncarry_kept (who : List PoolIx) (s : State) : Kept s (uncarry who s) := by constructor <;> rfl

theorem addPresence_kept (p : Presence) (s : State) : Kept s (addPresence p s).1 := by
  unfold addPresence
  split
  · exact Kept.refl s
  · exact (setPresence_kept _ _ s).trans (setRoomState_kept ..)

theorem removePresence_kept (i : PoolIx) (s : State) : Kept s (removePresence i s) := by
  unfold removePresence
  split
  · exact Kept.refl s
  · exact ((setPresence_kept _ _ s).trans (setRoomState_kept ..)).trans (uncarry_kept ..)

theorem setPresenceState_kept (i : PoolIx) (x : PresenceState) (s : State) : Kept s (setPresenceState i x s) := by
  unfold setPresenceState
  split
  · exact Kept.refl s
  · exact setPresence_kept ..

theorem refreshRoom_kept (r : RoomNo) (s : State) : Kept s (refreshRoom r s) := setRoomState_kept ..

theorem escortCheck_kept (r : RoomNo) (gone : List Nat) (s : State) : Kept s (escortCheck r gone s) := by
  unfold escortCheck
  dsimp only
  split
  · exact Kept.refl s
  · refine Kept.trans ?_ ((post_kept _ _).trans (writeJournal_kept _ _))
    split
    · exact Kept.refl s
    · constructor <;> rfl

theorem reexamine_kept (r : RoomNo) (gone : List Nat) (s : State) : Kept s (reexamine r gone s) :=
  (refreshRoom_kept r s).trans (escortCheck_kept r gone _)

theorem resolveOpened_kept (i : PoolIx) (x : State × List Nat) : Kept x.1 (resolveOpened i x).1 := by
  unfold resolveOpened
  split
  · exact Kept.refl _
  · dsimp only
    split
    · exact ((setPresenceState_kept ..).trans (writeJournal_kept _ _)).trans (report_kept ..)
    · exact ((removePresence_kept ..).trans (writeJournal_kept _ _)).trans (report_kept ..)
    · exact Kept.refl _
    · exact Kept.refl _

theorem resolveUnused_kept (i : PoolIx) (x : State × List Nat) : Kept x.1 (resolveUnused i x).1 := by
  unfold resolveUnused
  split
  · exact Kept.refl _
  · dsimp only
    split
    · exact (removePresence_kept ..).trans (writeJournal_kept _ _)
    · exact (setPresenceState_kept ..).trans (writeJournal_kept _ _)
    · exact Kept.refl _
    · exact Kept.refl _

theorem resolveRoom_kept {one : PoolIx → State × List Nat → State × List Nat} (h : ∀ i x, Kept x.1 (one i x).1)
    (who : List PoolIx) (s : State) (r : RoomNo) : Kept s (resolveRoom one who s r) :=
  (Kept.foldl_pair (fun x i => h i x) _ (s, [])).trans (reexamine_kept ..)

theorem resolve_kept {one : PoolIx → State × List Nat → State × List Nat} (h : ∀ i x, Kept x.1 (one i x).1)
    (who : List PoolIx) (s : State) : Kept s (resolve one who s) :=
  (uncarry_kept who s).trans (Kept.foldl (fun s r => resolveRoom_kept h who s r) _ _)

theorem applyEffect_kept (e : PresenceEffect) (s : State) : Kept s (applyEffect e s) := by
  unfold applyEffect
  split
  · exact (uncarry_kept ..).trans (setDoor_kept ..)
  · exact resolve_kept resolveOpened_kept ..
  · exact resolve_kept resolveUnused_kept ..
  · exact uncarry_kept ..

/-- R102: an effect that names no presence changes nothing. -/
theorem reportEffect_nobody (e : PresenceEffect) (s : State) (h : e.names = []) : reportEffect e s = s := by
  simp [reportEffect, h]

/-- R104: an effect reported during a turn, or behind others, is held. -/
theorem reportEffect_held (e : PresenceEffect) (s : State) (h : e.names ≠ []) (ht : s.turn ≠ none ∨ s.heldEffects ≠ []) :
    reportEffect e s = { s with heldEffects := s.heldEffects ++ [e] } := by
  have hc : (s.turn.isSome || !s.heldEffects.isEmpty) = true := by
    rcases ht with ht | ht
    · simp [Option.isSome_iff_ne_none.mpr ht]
    · simp [ht]
  simp [reportEffect, h, hc]

/-- R104: an effect reported with no turn in progress and none held is carried out at once. -/
theorem reportEffect_atOnce (e : PresenceEffect) (s : State) (h : e.names ≠ []) (ht : s.turn = none) (hh : s.heldEffects = []) :
    reportEffect e s = applyEffect e s := by
  simp [reportEffect, h, ht, hh]

theorem reportEffect_kept (e : PresenceEffect) (s : State) : Kept s (reportEffect e s) := by
  unfold reportEffect
  split
  · exact Kept.refl s
  · split
    · constructor <;> rfl
    · exact applyEffect_kept e s

/-- R102: a release on which nobody is leaves nothing to hand over. -/
theorem handOver_nobody (f : List PoolIx → PresenceEffect) (r : RoomNo) (s : State) (h : onRelease s r = []) :
    handOver f r s = s := by
  simp [handOver, h]

/-- R127, R129, R130: those on a running release cease to be tied and their resolution is reported. -/
theorem handOver_some (f : List PoolIx → PresenceEffect) (r : RoomNo) (s : State) (h : onRelease s r ≠ []) :
    handOver f r s = reportEffect (f (onRelease s r)) (uncarry (onRelease s r) s) := by
  simp [handOver, h]

theorem handOver_kept (f : List PoolIx → PresenceEffect) (r : RoomNo) (s : State) : Kept s (handOver f r s) := by
  unfold handOver
  dsimp only
  split
  · exact Kept.refl s
  · exact (uncarry_kept ..).trans (reportEffect_kept ..)

theorem untie_kept (r : RoomNo) (s : State) : Kept s (untie r s) := by
  unfold untie
  dsimp only
  split
  · exact Kept.refl s
  · exact uncarry_kept ..

/-- R125, R126: presences that cease to be carried are tied to no door. -/
theorem uncarry_tied (who : List PoolIx) (s : State) (r : RoomNo) :
    ((uncarry who s).door r).tied = (s.door r).tied.filter (· ∉ who) := by
  simp [uncarry, State.door]

theorem effect_kept (own : Bool) (e : PresenceEffect) (s : State) : Kept s (effect own e s) := by
  unfold effect
  split
  · exact applyEffect_kept e s
  · exact reportEffect_kept e s

theorem drainHeld_kept (k : Nat) (s : State) : Kept s (drainHeld k s) := by
  induction k generalizing s with
  | zero => exact Kept.refl s
  | succ k ih =>
    unfold drainHeld
    split
    · exact Kept.refl s
    · refine Kept.trans ?_ ((applyEffect_kept _ _).trans (ih _))
      constructor <;> rfl

/-! ### Turns -/

theorem grantNext_kept (s : State) : Kept s (grantNext s) := by
  unfold grantNext
  split
  · exact Kept.refl s
  · split
    · constructor <;> rfl
    · split
      · constructor <;> rfl
      · split
        · constructor <;> rfl
        · exact Kept.refl s

theorem endTurn_kept (s : State) : Kept s (endTurn s) :=
  Kept.trans (by constructor <;> rfl) (grantNext_kept { s with turn := none })

/-! ### Loop and doors -/

theorem loseCarried_kept (a : LoopAddr) (c : Carried) (s : State) : Kept s (loseCarried a c s) := by
  unfold loseCarried
  split
  · split
    · constructor <;> rfl
    · exact Kept.refl s
  · exact Kept.refl s

theorem loseCommand_kept (own : Bool) (c : Option DecisionCommand) (s : State) : Kept s (loseCommand own c s) := by
  unfold loseCommand
  split
  · exact effect_kept ..
  · exact Kept.refl s

theorem queueDecision_kept (own : Bool) (a : LoopAddr) (c : DecisionCommand) (s : State) : Kept s (queueDecision own a c s) :=
  ((setStation_kept ..).trans (loseCarried_kept ..)).trans (loseCommand_kept ..)

theorem clearRead_kept (a : LoopAddr) (s : State) : Kept s (clearRead a s) := by
  unfold clearRead
  dsimp only
  split
  · exact Kept.refl s
  · exact setStation_kept ..
  · split
    · split
      · constructor <;> rfl
      · constructor <;> rfl
    · constructor <;> rfl

theorem discardDecision_kept (own : Bool) (a : LoopAddr) (s : State) : Kept s (discardDecision own a s) :=
  ((setStation_kept ..).trans (loseCarried_kept ..)).trans (loseCommand_kept ..)

theorem queueMode_kept (own : Bool) (m : ModeCommand) (a : LoopAddr) (s : State) : Kept s (queueMode own m a s) := by
  unfold queueMode
  dsimp only
  split
  · exact ((setStation_kept ..).trans (loseCarried_kept ..)).trans ((discardDecision_kept ..).trans (clearRead_kept ..))
  · exact (setStation_kept ..).trans (loseCarried_kept ..)

theorem queueModeEverywhere_kept (own : Bool) (m : ModeCommand) (s : State) : Kept s (queueModeEverywhere own m s) :=
  Kept.foldl (fun s a => queueMode_kept own m a s) _ s

theorem cancelHold_kept (a : Option LoopAddr) (why : Option Reason) (s : State) (r : RoomNo) :
    Kept s (cancelHold a why s r) := by
  unfold cancelHold
  split
  · exact Kept.refl s
  · exact (setHold_kept ..).trans (writeJournal_kept _ _)

theorem refuseAtEntry_kept (own : Bool) (r : RoomNo) (why : Reason) (s : State) : Kept s (refuseAtEntry own r why s) := by
  unfold refuseAtEntry
  split
  · exact queueDecision_kept ..
  · exact Kept.refl s

theorem retestHold_kept (i : SlotNo) (badge : Nat) (s : State) (r : RoomNo) : Kept s (retestHold i badge s r) := by
  unfold retestHold
  split
  · exact Kept.refl s
  · split
    · split
      · exact Kept.refl s
      · exact (((setHold_kept ..).trans (refuseAtEntry_kept ..)).trans (writeJournal_kept _ _)).trans (report_kept ..)
    · exact Kept.refl s

theorem retestHolds_kept (i : SlotNo) (badge : Nat) (s : State) : Kept s (retestHolds i badge s) :=
  Kept.foldl (fun s r => retestHold_kept i badge s r) _ s

theorem loseDoor_kept (r : RoomNo) (s : State) : Kept s (loseDoor r s) := by
  unfold loseDoor
  split
  · exact Kept.refl s
  · exact (setDoor_kept ..).trans (handOver_kept ..)

theorem deliverRelease_kept (r : RoomNo) (seconds : Nat) (carries : List PoolIx) (s : State) :
    Kept s (deliverRelease r seconds carries s) := by
  unfold deliverRelease
  dsimp only
  split
  · exact (setDoor_kept ..).trans (reportEffect_kept ..)
  · exact (setDoor_kept ..).trans (reportEffect_kept ..)
  all_goals exact reportEffect_kept ..

theorem holdDoor_kept (r : RoomNo) (s : State) : Kept s (holdDoor r s) :=
  (((setDoor_kept ..).trans (post_kept ..)).trans (writeJournal_kept _ _)).trans (report_kept ..)

theorem contactReport_kept (r : RoomNo) (isOpen : Bool) (s : State) : Kept s (contactReport r isOpen s) := by
  unfold contactReport
  dsimp only
  split
  all_goals first
    | exact setDoor_kept ..
    | exact (setDoor_kept ..).trans (holdDoor_kept ..)
    | exact (setDoor_kept ..).trans (handOver_kept ..)

theorem judgeOpening_kept (r : RoomNo) (bar : Bool) (s : State) : Kept s (judgeOpening r bar s) := by
  unfold judgeOpening
  dsimp only
  split
  · exact Kept.refl s
  · split
    · exact (((((setDoor_kept ..).trans (setDoor_kept ..)).trans (post_kept ..)).trans (writeJournal_kept _ _)).trans
        (report_kept ..)).trans (setRoomState_kept ..)
    · exact ((((setDoor_kept ..).trans (setDoor_kept ..)).trans (post_kept ..)).trans (writeJournal_kept _ _)).trans (report_kept ..)

theorem loseEntryStation_kept (a : LoopAddr) (r : RoomNo) (s : State) : Kept s (loseEntryStation a r s) :=
  (loseDoor_kept ..).trans (cancelHold_kept ..)

theorem goOffline_kept (a : LoopAddr) (s : State) : Kept s (goOffline a s) := by
  unfold goOffline
  dsimp only
  have h : ∀ (f g : Option RoomNo) (b : NoticeBody) (j : JournalBody),
      Kept s (clearRead a (discardDecision false a (writeJournal j (post b (report .stationMiss f 1
        (s.setStation a { s.station a with state := .offline, misses := Config.missesToOffline })))))) := fun _ _ _ _ =>
    ((((setStation_kept ..).trans (report_kept ..)).trans (post_kept ..)).trans (writeJournal_kept _ _)).trans
      ((discardDecision_kept ..).trans (clearRead_kept ..))
  split
  · split
    · exact (h _ none _ _).trans (loseEntryStation_kept ..)
    · exact h _ none _ _
  · exact h _ none _ _

theorem countMiss_kept (a : LoopAddr) (s : State) : Kept s (countMiss a s) := by
  unfold countMiss
  dsimp only
  split
  · exact Kept.refl s
  · exact Kept.refl s
  all_goals
    split
    · exact (setStation_kept ..).trans (report_kept ..)
    · exact goOffline_kept a s

theorem comeOnline_kept (a : LoopAddr) (s : State) : Kept s (comeOnline a s) := by
  have alarm : ∀ t : State, Kept t (if t.evacuating && (t.station a).mode != some .evacRelease then queueMode false .evacRelease a t else t) := by
    intro t
    split
    · exact queueMode_kept ..
    · exact Kept.refl t
  unfold comeOnline
  dsimp only
  split
  · exact Kept.refl s
  · exact setStation_kept ..
  · exact (setStation_kept ..).trans (alarm _)
  · exact (((setStation_kept ..).trans (post_kept ..)).trans (writeJournal_kept _ _)).trans (alarm _)

theorem tamperReport_kept (a : LoopAddr) (isSet : Bool) (s : State) : Kept s (tamperReport a isSet s) := by
  unfold tamperReport
  dsimp only
  split
  · exact (setStation_kept ..).trans (post_kept ..)
  · exact setStation_kept ..

theorem offerRead_kept (a : LoopAddr) (badge : Nat) (s : State) : Kept s (offerRead a badge s) := by
  unfold offerRead
  dsimp only
  split
  · exact Kept.refl s
  · exact Kept.trans (by constructor <;> rfl) (grantNext_kept _)

/-! ### Decisions -/

theorem deny_kept (a : LoopAddr) (room : Option RoomNo) (badge : Nat) (why : Reason) (permit : Option Nat) (s : State) :
    Kept s (deny a room badge why permit s) :=
  ((queueDecision_kept ..).trans (writeJournal_kept _ _)).trans (report_kept ..)

theorem journalEntry_kept (kind : JournalKind) (a : LoopAddr) (r : RoomNo) (badge : Nat) (slot : SlotNo) (value : Nat) (s : State) :
    Kept s (journalEntry kind a r badge slot value s) := writeJournal_kept _ _

theorem queueRelease_kept (a : LoopAddr) (minutes : Nat) (carries : List PoolIx) (s : State) :
    Kept s (queueRelease a minutes carries s) := queueDecision_kept ..

theorem withPermit_kept (a : LoopAddr) (r : RoomNo) (badge : Nat) {go : Chosen → State → State} (h : ∀ c s, Kept s (go c s))
    (s : State) : Kept s (withPermit a r badge go s) := by
  unfold withPermit
  dsimp only
  split
  · exact h ..
  · split
    · exact deny_kept ..
    · exact deny_kept ..

theorem yieldPresence_kept (i : PoolIx) (p : Presence) (s : State) : Kept s (yieldPresence i p s) :=
  ((removePresence_kept ..).trans (writeJournal_kept _ _)).trans (reexamine_kept ..)

theorem passback_kept (a : LoopAddr) (r : RoomNo) (badge : Nat) {here : PoolIx → Presence → State → State} {go : State → State}
    (hh : ∀ i p s, Kept s (here i p s)) (hg : ∀ s, Kept s (go s)) (s : State) : Kept s (passback a r badge here go s) := by
  unfold passback
  split
  · split
    · exact deny_kept ..
    · exact hg s
  · split
    · exact hg s
    · split
      · exact hh ..
      · split
        · exact (yieldPresence_kept ..).trans (hg _)
        · exact deny_kept ..

theorem repeatArriving_kept (a : LoopAddr) (r : RoomNo) (c : Chosen) (s : State) : Kept s (repeatArriving a r c s) := by
  unfold repeatArriving
  split
  · exact queueDecision_kept ..
  · exact Kept.trans (by constructor <;> rfl) (queueDecision_kept ..)

theorem reEnter_kept (a : LoopAddr) (r : RoomNo) (badge : Nat) (c : Chosen) (i : PoolIx) (p : Presence) (s : State) :
    Kept s (reEnter a r badge c i p s) :=
  (((((uncarry_kept ..).trans (setPresence_kept ..)).trans (queueRelease_kept ..)).trans (writeJournal_kept _ _)).trans
    (report_kept ..)).trans (reexamine_kept ..)

theorem grantAlone_kept (a : LoopAddr) (r : RoomNo) (badge : Nat) (c : Chosen) (s : State) : Kept s (grantAlone a r badge c s) :=
  ((((addPresence_kept ..).trans (queueRelease_kept ..)).trans (writeJournal_kept _ _)).trans (report_kept ..)).trans
    (reexamine_kept ..)

theorem openHold_kept (a : LoopAddr) (r : RoomNo) (badge : Nat) (c : Chosen) (needs : Needs) (s : State) :
    Kept s (openHold a r badge c needs s) :=
  ((setHold_kept ..).trans (queueDecision_kept ..)).trans (writeJournal_kept _ _)

theorem admit_kept (a : LoopAddr) (r : RoomNo) (badge : Nat) (c : Chosen) (s : State) : Kept s (admitOrHold a r badge c s) := by
  unfold admitOrHold
  split
  · split
    · exact deny_kept ..
    · exact grantAlone_kept ..
  · split
    · exact deny_kept ..
    · exact openHold_kept ..

theorem admitPair_kept (a : LoopAddr) (r : RoomNo) (h : Hold) (badge : Nat) (c : Chosen) (s : State) :
    Kept s (admitPair a r h badge c s) :=
  (((((((setHold_kept r none s).trans (addPresence_kept ..)).trans (addPresence_kept ..)).trans (queueRelease_kept ..)).trans
    (writeJournal_kept _ _)).trans (writeJournal_kept _ _)).trans (report_kept ..)).trans (reexamine_kept ..)

theorem decideOpen_kept (a : LoopAddr) (r : RoomNo) (badge : Nat) (s : State) : Kept s (decideOpen a r badge s) := by
  refine withPermit_kept a r badge (fun c s => passback_kept a r badge (fun i p s => ?_) (admit_kept a r badge c) s) s
  split
  · exact repeatArriving_kept ..
  · exact reEnter_kept ..

theorem decidePartner_kept (a : LoopAddr) (r : RoomNo) (h : Hold) (badge : Nat) (s : State) :
    Kept s (decidePartner a r h badge s) := by
  unfold decidePartner
  split
  · exact queueDecision_kept ..
  · split
    · exact withPermit_kept a r badge (fun c s => repeatArriving_kept ..) s
    · exact deny_kept ..
    · refine withPermit_kept a r badge (fun c s => passback_kept a r badge (fun _ _ _ => deny_kept ..) (fun s => ?_) s) s
      unfold testPair
      split
      · exact deny_kept ..
      · split
        · exact deny_kept ..
        · exact admitPair_kept ..

theorem decideEntry_kept (a : LoopAddr) (badge : Nat) (s : State) : Kept s (decideEntry a badge s) := by
  unfold decideEntry
  split
  · exact Kept.refl s
  · exact deny_kept ..
  · exact deny_kept ..
  · split
    · exact deny_kept ..
    · split
      · exact deny_kept ..
      · split
        · exact decidePartner_kept ..
        · exact decideOpen_kept ..

theorem unmatched_kept (a : LoopAddr) (room : Option RoomNo) (badge : Nat) (why : Option Reason) (s : State) :
    Kept s (unmatched a room badge why s) := (writeJournal_kept _ _).trans (post_kept ..)

theorem decideExit_kept (a : LoopAddr) (badge : Nat) (s : State) : Kept s (decideExit a badge s) := by
  unfold decideExit
  split
  · exact Kept.refl s
  · exact (queueRelease_kept ..).trans (unmatched_kept ..)
  · exact (queueRelease_kept ..).trans (unmatched_kept ..)
  · split
    · exact (queueRelease_kept ..).trans (unmatched_kept ..)
    · split
      · exact Kept.refl s
      · split
        · exact (((uncarry_kept ..).trans (setPresenceState_kept ..)).trans (queueRelease_kept ..)).trans (reexamine_kept ..)
        · exact ((((removePresence_kept ..).trans (queueRelease_kept ..)).trans (writeJournal_kept _ _)).trans (post_kept ..)).trans
            ((reexamine_kept ..).trans (reexamine_kept ..))

theorem endRead_kept (a : LoopAddr) (clearAfter : Bool) (s : State) : Kept s (endRead a clearAfter s) := by
  unfold endRead
  dsimp only
  split
  · exact setStation_kept ..
  · exact setStation_kept ..

/-- R35, R52: a decision's turn leaves the permits, the clock and the layout as they were. -/
theorem serveDecision_kept (rd : Read) (clearAfter : Bool) (s : State) : Kept s (serveDecision rd clearAfter s) := by
  unfold serveDecision
  split
  · exact (decideEntry_kept ..).trans (endRead_kept ..)
  · exact (decideExit_kept ..).trans (endRead_kept ..)

/-! ### Replies of the loop -/

theorem deliver_kept (a : LoopAddr) (c : Carried) (s : State) : Kept s (deliver a c s) := by
  unfold deliver
  dsimp only
  split
  · exact Kept.refl s
  · exact setStation_kept ..
  · split
    · exact Kept.refl s
    · split
      · exact ((setStation_kept ..).trans (clearRead_kept ..)).trans (deliverRelease_kept ..)
      · exact (setStation_kept ..).trans (clearRead_kept ..)

theorem judgeAt_kept (a : LoopAddr) (bar : Bool) (s : State) : Kept s (judgeAt a bar s) := by
  unfold judgeAt
  split
  · split
    · exact Kept.refl s
    · exact judgeOpening_kept ..
  · exact Kept.refl s

theorem doorReport_kept (a : LoopAddr) (isSet judged : Bool) (s : State) : Kept s (doorReport a isSet judged s) := by
  unfold doorReport
  split
  · split
    · exact contactReport_kept ..
    · exact setDoor_kept ..
  · exact Kept.refl s

/-- R119: a good reply leaves the permits, the clock and the layout as they were. -/
theorem takeReply_kept (a : LoopAddr) (c : Carried) (r : StatusReport) (s : State) : Kept s (takeReply a c r s) :=
  (((((judgeAt_kept ..).trans (deliver_kept ..)).trans (comeOnline_kept ..)).trans (tamperReport_kept ..)).trans
    (doorReport_kept ..)).trans (offerRead_kept ..)

/-- R122: so does a miss. -/
theorem takeMiss_kept (a : LoopAddr) (s : State) : Kept s (takeMiss a s) := (judgeAt_kept ..).trans (countMiss_kept ..)

end Sys2Proof.Machine
end

