-- ==== Sys2Proof/Laws/Requests.lean ====
section
/-! SUPPORT. How a request row meets its port and its turn, and what replies, records and notices leave of a port, each said once. -/

namespace Sys2Proof.Machine

/-! ### Checks -/

@[simp] theorem firstFailing_nil : firstFailing [] = none := rfl

@[simp] theorem firstFailing_cons (b : Bool) (st : Status) (rest : List (Bool × Status)) :
    firstFailing ((b, st) :: rest) = if b then some st else firstFailing rest := by cases b <;> rfl

/-! ### A request in hand -/

theorem inHand_of_inFlight (l : Link) (r : Request) (s : State) (h : (s.port l).inFlight = some ⟨r, .handed⟩) :
    inHand l r s = true := by simp [inHand, h]

/-- R175: a request handed over and served at once. -/
theorem atOnce_served (l : Link) (r : Request) (serve : State → State) (s : State) (hs : s.supply = .normal)
    (h : (s.port l).inFlight = some ⟨r, .handed⟩) : atOnce l r serve s = serve s := by
  simp [atOnce, hs, present, inHand_of_inFlight l r s h]

/-- R36, R52: a request handed over whose turn has been granted is served and its turn ends. -/
theorem inTurn_served (l : Link) (r : Request) (serve : State → State) (s : State) (hs : s.supply = .normal)
    (h : (s.port l).inFlight = some ⟨r, .handed⟩) (ht : s.turn.map Turn.user = some (.request l)) :
    inTurn l r serve s = endTurn (serve s) := by
  simp [inTurn, hs, present, inHand_of_inFlight l r s h, holdsTurn, ht]

/-- R36, R52: a request handed over whose turn has not been granted waits. -/
theorem inTurn_waits (l : Link) (r : Request) (serve : State → State) (s : State) (hs : s.supply = .normal)
    (h : (s.port l).inFlight = some ⟨r, .handed⟩) (ht : s.turn.map Turn.user ≠ some (.request l)) :
    inTurn l r serve s = s := by
  simp [inTurn, hs, present, inHand_of_inFlight l r s h, holdsTurn, ht]

/-! ### What a port keeps -/

@[simp] theorem writeJournal_port (b : JournalBody) (s : State) (l : Link) : (writeJournal b s).port l = s.port l := by
  unfold writeJournal; split <;> simp only [State.port]

@[simp] theorem writeJournal_queue (b : JournalBody) (s : State) (l : Link) : (writeJournal b s).queue l = s.queue l := by
  unfold writeJournal; split <;> simp only [State.queue]

@[simp] theorem grantNext_port (l : Link) (s : State) : (grantNext s).port l = s.port l := by
  unfold grantNext
  repeat' split
  all_goals rfl

@[simp] theorem endTurn_port (l : Link) (s : State) : (endTurn s).port l = s.port l := grantNext_port l _

theorem judgeAttention_inFlight (k l : Link) (s : State) : ((judgeAttention k s).port l).inFlight = (s.port l).inFlight := by
  obtain ⟨a, h⟩ := judgeAttention_frame k s
  rw [h]
  by_cases e : k = l
  · subst e; simp
  · simp [e]

theorem postTo_inFlight (k l : Link) (n : Notice) (s : State) : ((postTo k n s).port l).inFlight = (s.port l).inFlight := by
  obtain ⟨a, h⟩ := postTo_frame k n s
  rw [h]
  by_cases e : k = l
  · subst e; simp
  · simp [e]

@[simp] theorem post_inFlight (l : Link) (b : NoticeBody) (s : State) : ((post b s).port l).inFlight = (s.port l).inFlight := by
  unfold post
  split
  · rfl
  · generalize b.queues = ls
    induction ls generalizing s with
    | nil => rfl
    | cons a ls ih => rw [List.foldl_cons, ih _ (by rw [(postTo_kept _ _ _).supply]; assumption), postTo_inFlight]

/-! ### The map -/

/-- R21: an address's case depends on the layout alone. -/
theorem mapOutcome_kept {s t : State} (h : Kept s t) (a : LoopAddr) :
    mapOutcome t a = mapOutcome s a := by
  simp only [mapOutcome, h.rooms, h.stationMap]

end Sys2Proof.Machine
end

