-- ==== Sys2Proof/Tests/Slice0.lean ====
section
/-! SUPPORT. The model's own tests: terms that do not fit the links, bodies written out from section 11.3, the handbook's worked cases,
one small step for the commands, and for each statement with hypotheses a state that meets them. -/

set_option Elab.async false

namespace Sys2Proof.Tests

open Sys2Proof Sys2Proof.Machine Sys2Proof.Claims

/-! ### Small states -/

/-- The state a command leaves. -/
def after (c : Instr) (s : State) : State :=
  match exec c s with
  | .next t => t
  | _ => State.reset

/-- A request handed over on a link of a part after reset. -/
def asked (l : Link) (r : Request) (s : State := State.reset) : State :=
  s.setPort l { s.port l with inFlight := some ⟨r, .handed⟩ }

/-- A request handed over whose turn has been granted. -/
def granted (l : Link) (r : Request) (s : State := State.reset) : State :=
  { asked l r s with turn := some ⟨.request l, s.clock⟩ }

/-- The status and content of the newest reply of a link. -/
def answer (l : Link) (s : State) : Option (Status × ReplyContent) := (s.port l).transmit.getLast?.map fun x => (x.status, x.content)

/-- Refusals waiting to be sent on the Works Link. -/
def refusals (n : Nat) (s : State := State.reset) : State :=
  s.setPort .works { s.port .works with transmit := List.replicate n ⟨1, .notYours, .nothing, false⟩ }

/-- Section 4.5: permit 5116. -/
def permit5116 : Permit :=
  ⟨5116, 0, .active, 212, 300455, .worker, [3], 13275240, 13278600, some ⟨0x60, 1320, 360⟩, false, false, 13275000, none, some 13275100⟩

/-- Section 4.6: permit 5116 drafted urgent and not countersigned. -/
def urgent5116 : Permit :=
  { permit5116 with standing := .provisional, urgent := true, drafted := 13275630, graceEnd := some 13275690, countersigned := none }

/-- Section 4.7: permit 6002. -/
def permit6002 : Permit :=
  ⟨6002, 0, .active, 212, 300455, .worker, [3], 13268160, 13307040, some ⟨0x3E, 420, 420⟩, false, false, 13268000, none, some 13268100⟩

/-- Saturday 2025-03-29 05:10:40, room 3 of class A with its stations at addresses 6 and 7, permit 5116 in slot 40. -/
def site : State :=
  { State.reset with
    clock := ⟨2025, 3, 29, 5, 10, 40⟩
    clockUnset := false
    rooms := put State.reset.rooms 3 (some ⟨.a, 4⟩)
    stationMap := put State.reset.stationMap 0 (some ⟨6, 2, 3⟩)
    permits := put State.reset.permits 40 (some permit5116) }

/-- The turn of a read's decision. -/
def deciding (a : LoopAddr) (badge : Nat) (s : State) : State :=
  { s with turn := some ⟨.decision ⟨a, badge⟩ false, s.clock⟩ }

/-- A presence in a room, the first of the pool. -/
def occupied (p : Presence) (s : State) : State :=
  (s.setPresence 0 (some p)).setRoomState p.room { s.roomState p.room with list := [0] }

/-- A companion's permit, a supervisor's, in slot 41. -/
def supervisor7001 : Permit := { permit5116 with number := 7001, badge := 410900, role := .supervisor, pattern := none }

/-- Room 3 with a hold open for permit 5116's badge. -/
def waiting : State :=
  ((site.setPermit 41 (some supervisor7001)).setHold 3
    (some ⟨300455, 40, .worker, 50, .companion, ⟨2025, 3, 29, 5, 10, 30⟩, 20⟩))

/-! ### Terms that do not fit the links (WellFormed) -/

def badMinute : CivilMinute := ⟨1999, 1, 1, 0, 0⟩
def goodMinute : CivilMinute := ⟨2025, 1, 1, 0, 0⟩

/-- One term for each check of `Request.wellFormed` that a field can fail: the clock's requests. -/
def illFormedClock : List Request :=
  [.setClock ⟨1999, 1, 1, 0, 0, 0⟩, .setClock ⟨2256, 1, 1, 0, 0, 0⟩, .setClock ⟨2025, 256, 1, 0, 0, 0⟩,
    .setClock ⟨2025, 1, 256, 0, 0, 0⟩, .setClock ⟨2025, 1, 1, 256, 0, 0⟩, .setClock ⟨2025, 1, 1, 0, 256, 0⟩,
    .setClock ⟨2025, 1, 1, 0, 0, 256⟩, .setMark ⟨some 255, none, none, none⟩, .setMark ⟨none, some 255, none, none⟩,
    .setMark ⟨none, none, some 255, none⟩, .setMark ⟨none, none, none, some 255⟩]

/-- One term for each check of `Request.wellFormed` that a field can fail: the layout's requests. -/
def illFormedLayout : List Request :=
  [.writeRoom ⟨256, 1, 0, 2⟩, .writeRoom ⟨0, 256, 0, 2⟩, .writeRoom ⟨0, 1, 256, 2⟩, .writeRoom ⟨0, 1, 0, 256⟩,
    .writeMap ⟨256, 0, 2, 0⟩, .writeMap ⟨0, 256, 2, 0⟩, .writeMap ⟨0, 0, 256, 0⟩, .writeMap ⟨0, 0, 2, 256⟩,
    .setFreeze ⟨256, goodMinute, goodMinute, 1⟩, .setFreeze ⟨0, badMinute, goodMinute, 1⟩, .setFreeze ⟨0, goodMinute, badMinute, 1⟩,
    .clearFreeze 256, .writeTimings ⟨256, 60, 30, 5, 60⟩, .writeTimings ⟨5, 65536, 30, 5, 60⟩, .writeTimings ⟨5, 60, 256, 5, 60⟩,
    .writeTimings ⟨5, 60, 30, 256, 60⟩, .writeTimings ⟨5, 60, 30, 5, 256⟩, .readRoom 256]

/-- One term for each check of `Request.wellFormed` that a field can fail: drafts and amends. -/
def illFormedPermits : List Request :=
  [.draftPermit ⟨65536, 1, 1, 0, 0, goodMinute, goodMinute, none, 1, [1]⟩,
    .draftPermit ⟨1, 65536, 1, 0, 0, goodMinute, goodMinute, none, 1, [1]⟩,
    .draftPermit ⟨1, 1, 16777216, 0, 0, goodMinute, goodMinute, none, 1, [1]⟩,
    .draftPermit ⟨1, 1, 1, 0, 0, badMinute, goodMinute, none, 1, [1]⟩,
    .draftPermit ⟨1, 1, 1, 0, 0, goodMinute, badMinute, none, 1, [1]⟩,
    .draftPermit ⟨1, 1, 1, 0, 0, goodMinute, goodMinute, some ⟨1, 0, 0⟩, 1, [1]⟩,
    .draftPermit ⟨1, 1, 1, 0x10, 0, goodMinute, goodMinute, some ⟨1, 65536, 0⟩, 1, [1]⟩,
    .draftPermit ⟨1, 1, 1, 0x10, 0, goodMinute, goodMinute, some ⟨1, 0, 65536⟩, 1, [1]⟩,
    .draftPermit ⟨1, 1, 1, 0, 0, goodMinute, goodMinute, none, 256, [1]⟩,
    .draftPermit ⟨1, 1, 1, 0, 0, goodMinute, goodMinute, none, 1, [256]⟩,
    .draftPermit ⟨1, 1, 1, 0, 0, goodMinute, goodMinute, none, 1, []⟩,
    .draftPermit ⟨1, 1, 1, 0x10, 0, goodMinute, goodMinute, none, 5, [1, 2, 3, 4, 5]⟩,
    .amendPermit ⟨65536, 0, goodMinute, goodMinute, none, 1, [1]⟩, .amendPermit ⟨1, 0, badMinute, goodMinute, none, 1, [1]⟩,
    .amendPermit ⟨1, 0, goodMinute, badMinute, none, 1, [1]⟩, .amendPermit ⟨1, 0, goodMinute, goodMinute, none, 1, []⟩]

/-- One term for each check of `Request.wellFormed` that a field can fail: the other requests. -/
def illFormedOthers : List Request :=
  [.countersign 65536 0, .countersign 0 256, .suspendPermit 65536 1, .suspendPermit 1 256, .resumePermit 65536, .revokePermit 65536,
    .closePermit 65536, .purgePermit 65536, .readPermit (.number 65536), .listPermits 0 .all 256, .listPermits 0 (.badge 16777216) 1,
    .listPermits 0 (.firm 65536) 1, .listPermits 0 (.state 256) 1, .readOccupancy (.room 256), .readOccupancy (.badge 16777216),
    .reconcileRoom 256 none, .reconcileRoom 0 (some 16777216), .readStation 256, .readDoor 256, .suspendFirm 65536 1,
    .suspendFirm 1 256, .resumeFirm 65536, .setNoticeMask 256, .setAttentionMode 256, .readJournal 0 256,
    .setCounter ⟨256, 0, 0, 255, 0, 0⟩, .setCounter ⟨0, 256, 0, 255, 0, 0⟩, .setCounter ⟨0, 0, 256, 255, 0, 0⟩,
    .setCounter ⟨0, 0, 0, 256, 0, 0⟩, .setCounter ⟨0, 0, 0, 255, 256, 0⟩, .readCounter 256]

theorem test_illFormed_clock_requests_are_refused : illFormedClock.all (fun r => !r.wellFormed) = true := by decide +kernel

theorem test_illFormed_layout_requests_are_refused : illFormedLayout.all (fun r => !r.wellFormed) = true := by decide +kernel

theorem test_illFormed_permits_are_refused : illFormedPermits.all (fun r => !r.wellFormed) = true := by decide +kernel

theorem test_illFormed_requests_are_refused : illFormedOthers.all (fun r => !r.wellFormed) = true := by decide +kernel

theorem test_illFormed_commands_are_refused :
    (Instr.statusReply ⟨0, 16777216, false, false⟩).wellFormed = false ∧ (Instr.setNoticeMask .works 256).wellFormed = false := by decide +kernel

/-! ### Bodies and frames written out from chapter 11 -/

/-- The published check value of CRC-16 from FFFFh with this polynomial: 29B1h for the digits 1 to 9. -/
theorem test_crc_of_digits : crc16 [0x31, 0x32, 0x33, 0x34, 0x35, 0x36, 0x37, 0x38, 0x39] = 0x29B1 := by decide +kernel

theorem test_decode_clock_family :
    decodeRequest 1 [25, 3, 29, 5, 10, 59] = some (.setClock ⟨2025, 3, 29, 5, 10, 59⟩) ∧
    decodeRequest 4 [0, 3, 0xFF, 0xFF] = some (.setMark ⟨some 0, some 3, none, none⟩) ∧ decodeRequest 2 [0] = none := by decide +kernel

theorem test_decode_layout_family :
    decodeRequest 5 [17, 1, 2, 16] = some (.writeRoom ⟨17, 1, 2, 16⟩) ∧
    decodeRequest 6 [7, 0x40, 0x80, 63] = some (.writeMap ⟨7, 64, 128, 63⟩) ∧
    decodeRequest 9 [5, 0x02, 0x58, 30, 5, 60] = some (.writeTimings ⟨5, 600, 30, 5, 60⟩) ∧
    decodeRequest 7 [1, 25, 3, 29, 0, 0, 25, 3, 30, 0, 0, 0x01] =
      some (.setFreeze ⟨1, ⟨2025, 3, 29, 0, 0⟩, ⟨2025, 3, 30, 0, 0⟩, 1⟩) := by decide +kernel

/-- Permit 5116 of section 4.5 as an urgent draft for ANY slot, length 26 + 1 with its pattern. -/
theorem test_decode_permit_family :
    decodeRequest 15 [0x13, 0xFC, 0x00, 0xD4, 0x04, 0x95, 0xA7, 0x1A, 0, 25, 3, 28, 22, 0, 25, 3, 31, 6, 0, 0x60, 0x05, 0x28, 0x01, 0x68,
        1, 3] =
      some (.draftPermit ⟨5116, 212, 300455, 0x1A, 0, ⟨2025, 3, 28, 22, 0⟩, ⟨2025, 3, 31, 6, 0⟩, some ⟨0x60, 1320, 360⟩, 1, [3]⟩) ∧
    decodeRequest 17 [0x13, 0xFC, 2] = some (.countersign 5116 2) ∧ decodeRequest 23 [40] = some (.readPermit (.slot 40)) ∧
    decodeRequest 23 [0x13, 0xFC] = some (.readPermit (.number 5116)) ∧
    decodeRequest 24 [31, 2, 0, 212, 3] = some (.listPermits 31 (.firm 212) 3) := by decide +kernel

theorem test_decode_other_families :
    decodeRequest 26 [5] = some (.reconcileRoom 5 none) ∧ decodeRequest 26 [5, 0, 0, 9] = some (.reconcileRoom 5 (some 9)) ∧
    decodeRequest 31 [0, 212, 7] = some (.suspendFirm 212 7) ∧
    decodeRequest 36 [0, 0, 0x25, 0xE5, 10] = some (.readJournal 9701 10) ∧
    decodeRequest 37 [6, 2, 13, 17, 0, 0, 0, 0, 0] = some (.setCounter ⟨6, 2, 13, 17, 0, 0⟩) ∧ decodeRequest 0 [] = none ∧
    decodeRequest 40 [] = none := by decide +kernel

/-- R177: the ends of the catalogue and the links of a few requests. -/
theorem test_owners :
    codeOwner 1 = some .security ∧ codeOwner 4 = some .works ∧ codeOwner 24 = some .either ∧ codeOwner 29 = some .security ∧
      codeOwner 39 = some .security ∧ codeOwner 0 = none ∧ codeOwner 40 = none := by decide +kernel

/-- Section 11.3: a READ PERMIT reply has length 53 + n and starts with slot, number, revision and state. -/
theorem test_permit_reply_octets :
    (permitOctets 40 permit5116 none).length = 51 + 1 ∧ (permitOctets 40 permit5116 none).take 5 = [40, 0x13, 0xFC, 0, 2] := by decide +kernel

/-- Section 11.3: a journal record is 26 octets and a notice 24. -/
theorem test_record_octets :
    (recordOctets ⟨0, ⟨2025, 1, 1, 0, 0, 0⟩, { kind := .exit }⟩).length = 26 ∧
      (noticeOctets ⟨{ kind := .evacuation }, 7, ⟨2025, 1, 1, 0, 0, 0⟩⟩).length = 24 := by decide +kernel

/-! ### The calendar (section 4.1) -/

theorem test_calendar_examples :
    absMinute ⟨2001, 1, 1, 0, 0⟩ = 527040 ∧ absMinute ⟨2024, 3, 1, 0, 0⟩ = 12709440 ∧ absMinute ⟨2025, 3, 29, 5, 10⟩ = 13275670 ∧
      absMinute ⟨2099, 12, 31, 23, 59⟩ = 52595999 := by decide +kernel

theorem test_weekdays : weekdayOf 0 = 6 ∧ weekdayOf 366 = 1 ∧ weekdayOf 8826 = 5 ∧ weekdayOf 36524 = 4 := by decide +kernel

/-- R62: a grace end past the last minute reports as 2100-01-01. -/
theorem test_civil_past_2099 : civilOf 52596000 = ⟨2100, 1, 1, 0, 0⟩ := by decide +kernel

/-! ### The worked cases of window evaluation (sections 4.5 to 4.7) -/

theorem test_window_cases_1_to_6 :
    evaluate site permit5116 3 13275670 .entry = .passes 13278600 50 ∧
    evaluate site permit5116 3 13275720 .entry = .fails .outOfSlot 4 ∧
    evaluate site permit5116 3 13276680 .entry = .passes 13278600 480 ∧
    evaluate site permit5116 3 13278180 .entry = .fails .outOfSlot 4 ∧
    evaluate site permit5116 3 13278600 .entry = .fails .over 3 ∧
    evaluate site permit5116 3 13275239 .overstay = .fails .notYet 3 := by decide +kernel

theorem test_window_cases_7_to_9 :
    let frozenSite := { site with freezes := put site.freezes 0 (some ⟨13275360, 13276800, ⟨true, false, false⟩⟩) }
    evaluate site urgent5116 3 13275670 .entry = .passes 13275690 20 ∧
    evaluate site urgent5116 3 13275690 .entry = .fails .over 3 ∧
    evaluate frozenSite urgent5116 3 13275670 .entry = .passes 13275690 20 ∧
    evaluate frozenSite permit5116 3 13275670 .entry = .fails .frozen 5 ∧
    evaluate frozenSite permit5116 3 13275670 .overstay = .passes 13278600 50 := by decide +kernel

theorem test_window_cases_10_to_12 :
    evaluate site permit6002 3 13278630 .entry = .fails .outOfSlot 4 ∧
    evaluate site permit6002 3 13278660 .entry = .passes 13307040 1439 ∧
    evaluate site permit6002 3 13285859 .entry = .passes 13307040 1 := by decide +kernel

/-- Section 4.8: the later validity end is chosen; a tie of failures goes to the lower slot. -/
theorem test_choice_of_permit :
    let s := site.setPermit 41 (some permit6002)
    choose s 3 13275670 (candidates s 300455) none = some ⟨41, .worker, false, 13307040, 110⟩ ∧
      furthest s 3 13278180 (candidates s 300455) none = some (.outOfSlot, 4, 5116) := by decide +kernel

/-! ### One small step for the commands

Expected values are worked out by hand from the rules named. -/

/-- R15, R135: a cold start with EVACUATE high starts EVACUATING with one edge. -/
theorem test_powerUp_in_alarm :
    (after (.powerUp true true) site).edgeCount = 1 ∧ (after (.powerUp true true) site).room 3 = none := by decide +kernel

/-- R3: the last second of the range wraps to 2000-01-01 00:00:00. -/
theorem test_tick_wraps :
    (after .tick { site with clock := ⟨2099, 12, 31, 23, 59, 59⟩, supply := .backup }).clock = ⟨2000, 1, 1, 0, 0, 0⟩ := by decide +kernel

/-- R6: 29 February 2025 does not exist. -/
theorem test_setClock_bad_date :
    answer .security (after (.setClock .security ⟨2025, 2, 29, 0, 0, 0⟩) (asked .security (.setClock ⟨2025, 2, 29, 0, 0, 0⟩))) =
      some (.badTime, .nothing) := by decide +kernel

/-- R8: 29 seconds held are set back to 0 and journalled. -/
theorem test_alignClock_back :
    let t := after (.alignClock .security) (asked .security .alignClock { site with clock := ⟨2025, 3, 29, 5, 10, 29⟩ })
    t.clock = ⟨2025, 3, 29, 5, 10, 0⟩ ∧ (t.journal.map fun r => r.body.value) = [some 29] := by decide +kernel

/-- R9: 2025-03-29 is a Saturday. -/
theorem test_readClock_weekday :
    answer .works (after (.readClock .works) (asked .works .readClock site)) =
      some (.done, .clock ⟨2025, 3, 29, 5, 10, 40⟩ 6 false) := by decide +kernel

/-- R11: hour 24 is out of range. -/
theorem test_setMark_bad_hour :
    answer .works (after (.setMark .works ⟨none, some 24, none, none⟩) (asked .works (.setMark ⟨none, some 24, none, none⟩))) =
      some (.badTime, .nothing) := by decide +kernel

/-- R17: a class A room holds at least two. -/
theorem test_writeRoom_class_a_alone :
    answer .security (after (.writeRoom .security ⟨5, 1, 0, 1⟩) (granted .security (.writeRoom ⟨5, 1, 0, 1⟩))) =
      some (.badRoom, .nothing) := by decide +kernel

theorem test_writeRoom :
    (after (.writeRoom .security ⟨5, 1, 0, 2⟩) (granted .security (.writeRoom ⟨5, 1, 0, 2⟩))).room 5 = some ⟨.a, 2⟩ := by decide +kernel

/-- R19, R20: descriptor 8, 4, 10 makes address 11 the exit station of room 11. -/
theorem test_writeMap :
    let t := after (.writeMap .security ⟨7, 8, 4, 10⟩) (granted .security (.writeMap ⟨7, 8, 4, 10⟩))
    mapOutcome t 11 = .mapped 11 false ∧ exitStation t 11 = some 11 ∧ mapOutcome t 12 = .unpolled := by decide +kernel

theorem test_setFreeze :
    let b : FreezeBody := ⟨1, ⟨2025, 3, 29, 0, 0⟩, ⟨2025, 3, 30, 0, 0⟩, 5⟩
    let t := after (.setFreeze .security b) (granted .security (.setFreeze b))
    frozen t .c 13275360 = true ∧ frozen t .b 13275360 = false ∧ frozen t .a 13276800 = false := by decide +kernel

/-- R25: entry 8 is outside 0 to 7. -/
theorem test_clearFreeze_number :
    answer .security (after (.clearFreeze .security 8) (granted .security (.clearFreeze 8))) = some (.badRoom, .nothing) := by
  decide +kernel

/-- R27: 0 seconds is taken as 1 and 700 as 600. -/
theorem test_writeTimings_clamps :
    answer .security (after (.writeTimings .security ⟨0, 700, 30, 5, 60⟩) (asked .security (.writeTimings ⟨0, 700, 30, 5, 60⟩))) =
      some (.clamped, .timings ⟨1, 600, 30, 5, 60⟩) := by decide +kernel

theorem test_lockConfiguration :
    (after (.lockConfiguration .security) (asked .security .lockConfiguration)).locked = true := by decide +kernel

theorem test_readRoom :
    answer .works (after (.readRoom .works 3) (asked .works (.readRoom 3) site)) = some (.done, .room (some ⟨.a, 4⟩) 0) ∧
      answer .works (after (.readRoom .works 64) (asked .works (.readRoom 64) site)) = some (.badRoom, .nothing) := by decide +kernel

theorem test_readMap :
    answer .works (after (.readMap .works) (asked .works .readMap site)) =
      some (.done, .map [some ⟨6, 2, 3⟩, none, none, none, none, none, none, none]) := by decide +kernel

theorem test_readFreeze :
    answer .works (after (.readFreeze .works) (asked .works .readFreeze)) =
      some (.done, .freezes [none, none, none, none, none, none, none, none]) := by decide +kernel

theorem test_readTimings :
    answer .works (after (.readTimings .works) (asked .works .readTimings)) =
      some (.done, .timingsAndLock ⟨5, 60, 30, 5, 60⟩ false) := by decide +kernel

/-- Section 4.6's draft: urgent, for ANY slot, at 04:30 with the grace of 60 minutes. -/
def draft5116 : DraftBody :=
  ⟨5117, 212, 300455, 0x1A, 0, ⟨2025, 3, 28, 22, 0⟩, ⟨2025, 3, 31, 6, 0⟩, some ⟨0x60, 1320, 360⟩, 1, [3]⟩

theorem test_draftPermit_urgent :
    let t := after (.draftPermit .works draft5116) (granted .works (.draftPermit draft5116) { site with clock := ⟨2025, 3, 29, 4, 30, 0⟩ })
    answer .works t = some (.done, .drafted 0 0 .provisional (some 13275690)) ∧
      ((t.queue .security).notices.map fun n => n.body.kind) = [.provisionalIssued] := by decide +kernel

theorem test_draftPermit_duplicate :
    let b := { draft5116 with permit := 5116 }
    answer .works (after (.draftPermit .works b) (granted .works (.draftPermit b) site)) = some (.duplicate, .nothing) := by decide +kernel

/-- R43, R44: a later span end is not narrowing, so an ACTIVE permit becomes PENDING. -/
def widen5116 : AmendBody := ⟨5116, 0x10, ⟨2025, 3, 28, 22, 0⟩, ⟨2025, 3, 31, 6, 1⟩, some ⟨0x60, 1320, 360⟩, 1, [3]⟩

theorem test_amendPermit_widening :
    answer .works (after (.amendPermit .works widen5116) (granted .works (.amendPermit widen5116) site)) =
      some (.done, .amended 1 .pending) := by decide +kernel

theorem test_countersign_stale :
    answer .security (after (.countersign .security 5116 1) (granted .security (.countersign 5116 1) site)) =
      some (.stale, .nothing) := by decide +kernel

theorem test_countersign_provisional :
    let t := after (.countersign .security 5116 0)
      (granted .security (.countersign 5116 0) (site.setPermit 40 (some urgent5116)))
    ((t.permit 40).map fun p => (p.standing, p.graceEnd, p.countersigned)) = some (.active, none, some 13275670) := by decide +kernel

theorem test_suspendPermit :
    ((after (.suspendPermit .security 5116 9) (granted .security (.suspendPermit 5116 9) site)).permit 40).map Permit.standing =
      some (.suspended .active 9 false) := by decide +kernel

/-- R47: a PROVISIONAL permit resumed at its grace end becomes LAPSED. -/
theorem test_resumePermit_lapses :
    let s := (site.setPermit 40 (some { urgent5116 with standing := .suspended .provisional 9 false }))
    let t := after (.resumePermit .security 5116)
      (granted .security (.resumePermit 5116) { s with clock := ⟨2025, 3, 29, 5, 30, 0⟩ })
    answer .security t = some (.done, .resumed .lapsed) ∧ (t.queue .works).notices.length = 1 := by decide +kernel

theorem test_revokePermit :
    ((after (.revokePermit .security 5116) (granted .security (.revokePermit 5116) site)).permit 40).map Permit.standing =
      some (.ended .revoked 13275670) := by decide +kernel

theorem test_closePermit_unknown :
    answer .works (after (.closePermit .works 1) (granted .works (.closePermit 1) site)) = some (.noSuchPermit, .nothing) := by
  decide +kernel

/-- R49: a permit that a presence refers to is not purged. -/
theorem test_purgePermit_occupied :
    let s := occupied ⟨300455, 40, 3, 13275670, .inside, false⟩
      (site.setPermit 40 (some { permit5116 with standing := .ended .closed 13275670 }))
    answer .works (after (.purgePermit .works 5116) (granted .works (.purgePermit 5116) s)) = some (.occupied, .nothing) := by
  decide +kernel

theorem test_readPermit_vacant :
    answer .works (after (.readPermit .works (.slot 41)) (granted .works (.readPermit (.slot 41)) site)) =
      some (.noSuchPermit, .nothing) := by decide +kernel

/-- Section 3.7: firm 212 in slots 4, 9, 30, 31 and 200, listed three at a time. -/
theorem test_listPermits_example :
    let s := [4, 9, 30, 31, 200].foldl (fun (s : State) i => s.setPermit i (some { permit5116 with number := 6000 })) State.reset
    answer .works (after (.listPermits .works 0 (.firm 212) 3) (granted .works (.listPermits 0 (.firm 212) 3) s)) =
        some (.done, .slots [4, 9, 30] 31) ∧
      answer .works (after (.listPermits .works 31 (.firm 212) 3) (granted .works (.listPermits 31 (.firm 212) 3) s)) =
        some (.done, .slots [31, 200] 256) := by decide +kernel

theorem test_readOccupancy_badge :
    let s := occupied ⟨300455, 40, 3, 13275670, .inside, false⟩ site
    answer .works (after (.readOccupancy .works (.badge 300455)) (granted .works (.readOccupancy (.badge 300455)) s)) =
      some (.done, .badgeOccupancy (some (⟨300455, some 5116, 40, .worker, false, .inside, 13275670, false, false, false⟩, 3, 0))) := by
  decide +kernel

theorem test_reconcileRoom :
    let s := occupied ⟨300455, 40, 3, 13275670, .unverified, false⟩ site
    let t := after (.reconcileRoom .security 3 none) (granted .security (.reconcileRoom 3 none) s)
    answer .security t = some (.done, .reconciled 1) ∧ t.presence 0 = none ∧ (t.journal.map fun r => r.body.value) = [some 3] := by
  decide +kernel

theorem test_readStation_unpolled :
    answer .works (after (.readStation .works 5) (asked .works (.readStation 5) site)) =
      some (.done, .station .unpolled 5 Station.initial) := by decide +kernel

theorem test_readDoor :
    answer .works (after (.readDoor .works 3) (asked .works (.readDoor 3) site)) =
      some (.done, .door (.unknown .back) none [] false false 0 none) := by decide +kernel

/-- R134: ALL CLEAR in NORMAL is refused. -/
theorem test_allClear_in_normal :
    answer .security (after (.allClear .security) (granted .security .allClear)) = some (.wrongState, .nothing) := by decide +kernel

theorem test_readSweep :
    answer .works (after (.readSweep .works) (asked .works .readSweep)) = some (.done, .sweep .idle none false false 0 none) := by
  decide +kernel

theorem test_suspendFirm_starts :
    (after (.suspendFirm .security 212 7) (asked .security (.suspendFirm 212 7) site)).walk = some ⟨.suspend 7, 212, 0, 0⟩ := by
  decide +kernel

theorem test_resumeFirm_form :
    answer .security (after (.resumeFirm .security 1000) (asked .security (.resumeFirm 1000) site)) = some (.badLength, .nothing) := by
  decide +kernel

theorem test_suspendFirmStep :
    let t := after .suspendFirmStep
      { site with
        walk := some ⟨.suspend 7, 212, 40, 2⟩, turn := some ⟨.walkStep, site.clock⟩ }
    t.walk = some ⟨.suspend 7, 212, 41, 3⟩ ∧ (t.permit 40).map Permit.standing = some (.suspended .active 7 true) := by decide +kernel

theorem test_resumeFirmStep_completes :
    let s := { asked .security (.resumeFirm 212) site with
      walk := some ⟨.resume, 212, 255, 5⟩, turn := some ⟨.walkStep, site.clock⟩ }
    let t := after .resumeFirmStep s
    answer .security t = some (.done, .walked 5 255) ∧ t.walk = none := by decide +kernel

/-! The full security queue of section 9.7. -/

def notice (k : NoticeKind) : Notice := ⟨{ kind := k }, k.level, site.clock⟩

def fullQueue : State :=
  let q := [notice .tamper, notice .loneWorker] ++ List.replicate 10 (notice .review) ++ List.replicate 20 (notice .exitUnmatched)
  let s := (site.setQueue .security ⟨q, false⟩)
  s.setPort .security { s.port .security with mask := 4, attention := true }

def countOf (l : Nat) (s : State) : Nat := ((s.queue .security).notices.filter (·.level == l)).length

theorem test_full_queue_displaces :
    let s := post { kind := .exitUnmatched } (post { kind := .forcedDoor } fullQueue)
    [6, 5, 2, 1].map (fun l => countOf l s) = [1, 2, 10, 19] ∧ (s.queue .security).lost = true := by decide +kernel

theorem test_full_queue_taken :
    let s := post { kind := .exitUnmatched } (post { kind := .forcedDoor } fullQueue)
    let t := after (.takeNotice .security) (asked .security .takeNotice s)
    answer .security t = some (.done, .notice true 31 (some (notice .forcedDoor))) ∧ (t.queue .security).lost = false := by
  decide +kernel

/-- R157: once the two level-5 notices are gone, no notice is above the mask of 4. -/
theorem test_attention_released :
    let s := fullQueue.setQueue .security ⟨notice .loneWorker :: List.replicate 29 (notice .exitUnmatched), false⟩
    ((after (.takeNotice .security) (asked .security .takeNotice s)).port .security).attention = false := by decide +kernel

theorem test_setNoticeMask_clamps :
    answer .works (after (.setNoticeMask .works 7) (asked .works (.setNoticeMask 7))) = some (.clamped, .mask 6) := by decide +kernel

theorem test_setAttentionMode_code :
    answer .works (after (.setAttentionMode .works 2) (asked .works (.setAttentionMode 2))) = some (.badLength, .nothing) := by
  decide +kernel

/-! READ JOURNAL's catching up (section 10.3): 512 records with next sequence 10,300. -/

def longJournal : State :=
  { site with
    journal := (List.range 512).map fun k => ⟨BitVec.ofNat 32 (9788 + k), site.clock, { kind := .exit }⟩
    nextSequence := 10300 }

/-- Flags, skipped, next to ask and the sequences returned. -/
def journalRow (start count : Nat) : Bool × Nat × Nat × List Nat :=
  match journalReply longJournal (BitVec.ofNat 32 start) count with
  | .journal gap skipped next rs => (gap, skipped, next.toNat, rs.map fun r => r.sequence.toNat)
  | _ => (false, 0, 0, [])

theorem test_readJournal_older :
    journalRow 9701 10 = (true, 87, 9796, [9788, 9789, 9790, 9791, 9792, 9793, 9794, 9795]) := by decide +kernel

theorem test_readJournal_rows :
    journalRow 10298 8 = (false, 0, 10300, [10298, 10299]) ∧ journalRow 10300 8 = (false, 0, 10300, []) ∧
      journalRow 10305 8 = (false, 0, 10300, []) := by decide +kernel

/-- R169's example: 4,294,967,290 and 9 presences make 3 with sticky overflow, and a COUNTER-OVERFLOW to the security queue. -/
theorem test_counter_overflow :
    let s := addToCounter 5 9 { site with counters := put site.counters 5 ⟨.occupancyMinutes, none, true, 4294967290, false⟩ }
    (look s.counters 5).value = 3 ∧ (look s.counters 5).sticky = true ∧
      ((s.queue .security).notices.map fun n => n.body.figures) = [.value 5] := by decide +kernel

theorem test_setCounter_other_group :
    answer .works (after (.setCounter .works ⟨4, 0, 0, 255, 0, 0⟩) (asked .works (.setCounter ⟨4, 0, 0, 255, 0, 0⟩))) =
      some (.notYours, .nothing) := by decide +kernel

theorem test_readCounter :
    answer .security (after (.readCounter .security 7) (asked .security (.readCounter 7))) =
      some (.done, .counter ⟨.off, none, false, 0, false⟩) := by decide +kernel

theorem test_restart_waits_for_its_reply :
    let t := after (.restart .security) (asked .security .restart fullQueue)
    (t.queue .security).notices.length = 32 ∧
      ((after (.replySent .security) t).queue .security).notices = [] := by decide +kernel

/-- R173 to R175: READ CLOCK, framed by hand with the check of 01h 03h, is answered. -/
theorem test_frame_by_octets :
    let check := crc16 [1, 3]
    let s := [0x7E, 1, 3, check.extractLsb' 8 8, check.extractLsb' 0 8].foldl (fun s o => after (.octetReceived .works o) s) site
    ((after (.frameReceived .works) s).port .works).inFlight = some ⟨.readClock, .handed⟩ := by decide +kernel

theorem test_interOctetTimeout :
    ((after (.interOctetTimeout .works) (site.setPort .works { site.port .works with reception := .inFrame [5] })).port .works).reception =
      .awaitingStart := by decide +kernel

/-- R117, R118: the pass goes on to address 7, and a read still DECIDING holds its decision command back. -/
theorem test_poll_next :
    let s := { site.setStation 7 { Station.initial with decision := some .wait, read := some ⟨9, .deciding⟩ } with lastPolled := some 6 }
    (after .poll s).polling = some ⟨7, .nothing⟩ := by decide +kernel

theorem test_statusReply_read :
    let s := { site with polling := some ⟨6, .nothing⟩ }
    let t := after (.statusReply ⟨6, 300455, false, false⟩) s
    (t.station 6).state = .online ∧ t.turn = some ⟨.decision ⟨6, 300455⟩ false, site.clock⟩ ∧ (t.door 3).state = .secure := by
  decide +kernel

theorem test_stationMiss_third :
    let s := { site.setStation 6 { Station.initial with state := .online, misses := 2 } with polling := some ⟨6, .nothing⟩ }
    let t := after .stationMiss s
    (t.station 6).state = .offline ∧ ((t.queue .works).notices.map fun n => n.body.kind) = [.stationOffline] := by decide +kernel

/-- R82, R86: the first badge into an empty class A room waits, with case 1's 50 minutes. -/
theorem test_entryDecision_holds :
    (after .entryDecision (deciding 6 300455 site)).hold 3 =
      some ⟨300455, 40, .worker, 50, .companion, ⟨2025, 3, 29, 5, 10, 40⟩, 30⟩ := by decide +kernel

/-- R89: the pair is admitted, first badge before partner, on one release of the smaller minutes. -/
theorem test_entryDecision_pair :
    let t := after .entryDecision (deciding 6 410900 waiting)
    (t.roomState 3).list = [0, 1] ∧ (t.presence 0).map Presence.badge = some 300455 ∧
      (t.station 6).decision = some (.release 5 50 [0, 1]) ∧ t.hold 3 = none := by decide +kernel

/-- R95: an exit read of a badge recorded in another room removes it as a mismatch. -/
theorem test_exitDecision_mismatch :
    let t := after .exitDecision (deciding 7 300455 (occupied ⟨300455, 40, 9, 13275670, .inside, false⟩ site))
    t.presence 0 = none ∧ (t.station 7).decision = some (.release 5 0 []) ∧
      (t.journal.map fun r => (r.body.kind, r.body.value)) = [(.exitMismatch, some 9)] := by decide +kernel

theorem test_holdDeadline :
    let s := waiting.setHold 3 ((waiting.hold 3).map fun h => { h with ticks := 0, needs := .escort })
    ((after (.holdDeadline 3) s).station 6).decision = some (.refuse .noEscort) := by decide +kernel

/-- R103, R129: a release that ends unopened removes the ARRIVING presence tied to it. -/
theorem test_releaseEnd :
    let s := (occupied ⟨300455, 40, 3, 13275670, .arriving, false⟩ site).setDoor 3 ⟨.released 0, [0], some false, false, false⟩
    let t := after (.releaseEnd 3) s
    t.presence 0 = none ∧ (t.door 3).state = .secure ∧ (t.journal.map fun r => r.body.kind) = [.grantUnused] := by decide +kernel

theorem test_heldOpenLimit :
    ((after (.heldOpenLimit 3) (site.setDoor 3 ⟨.opened 0, [], some true, false, false⟩)).door 3).state = .held := by decide +kernel

/-- R104: a tie held during a turn is carried out once it has ended. -/
theorem test_heldResolution :
    let s := { (occupied ⟨300455, 40, 3, 13275670, .arriving, false⟩ site).setDoor 3 ⟨.released 5, [], some false, false, false⟩ with
      heldEffects := [.tie 3 [0]] }
    ((after .heldResolution s).door 3).tied = [0] := by decide +kernel

/-- R139: the sweep expires permit 5116 at its span end. -/
theorem test_sweepPermitStep :
    let s := { site with sweep := ⟨some ⟨.permits 40, 13278600, false⟩, false, false, 0⟩, turn := some ⟨.sweepStep, site.clock⟩ }
    ((after .sweepPermitStep s).permit 40).map Permit.standing = some (.ended .expired 13278600) := by decide +kernel

/-- R106, R142: five minutes alone reach the limit of 5. -/
theorem test_sweepPresenceStep_lone :
    let o := occupied ⟨300455, 40, 3, 13275670, .inside, false⟩ site
    let s := { o.setRoomState 3 ⟨[0], some ⟨0, 13275670, false⟩, false⟩ with
      sweep := ⟨some ⟨.presences 0, 13275675, false⟩, false, false, 0⟩, turn := some ⟨.sweepStep, site.clock⟩ }
    let t := after .sweepPresenceStep s
    (t.roomState 3).lone = some ⟨0, 13275670, true⟩ ∧ ((t.queue .security).notices.map fun n => n.body.kind) = [.loneWorker] := by
  decide +kernel

theorem test_pulseEnd :
    ((after (.pulseEnd .works) (site.setPort .works { site.port .works with mode := .pulse, attention := true })).port .works).attention =
      false := by decide +kernel

/-- R114: ARRIVING are removed and LEAVING become UNVERIFIED when supply falls. -/
theorem test_supplyFall :
    (after .supplyFall (occupied ⟨300455, 40, 3, 13275670, .arriving, false⟩ site)).presence 0 = none ∧
      ((after .supplyFall (occupied ⟨300455, 40, 3, 13275670, .leaving, false⟩ site)).presence 0).map Presence.state = some .unverified := by
  decide +kernel

theorem test_warmReturn :
    let t := after .warmReturn { site with supply := .backup, backupMinutes := 12 }
    (t.journal.map fun r => (r.body.kind, r.body.value)) = [(.supplyReturn, some 12)] ∧
      (t.station 6).mode = some .resumeNormal := by decide +kernel

/-- R132: the first edge cancels the hold, drops the decision command and queues EVAC-RELEASE. -/
theorem test_evacuateRise :
    let t := after .evacuateRise (waiting.setStation 6 { Station.initial with decision := some .wait })
    t.hold 3 = none ∧ (t.station 6).mode = some .evacRelease ∧ (t.station 6).decision = none ∧ (t.door 3).state = .evacuation := by
  decide +kernel

theorem test_evacuateFall :
    let t := after .evacuateFall { site with evacuateLine := true, evacuateTaken := true, evacuating := true, edgeCount := 3 }
    t.evacuateTaken = false ∧ t.evacuating = true ∧ t.edgeCount = 3 := by decide +kernel

/-- R116, R179: the RESET line clears the lock and makes a LEAVING presence INSIDE. -/
theorem test_resetLine :
    let t := after .resetLine { occupied ⟨300455, 40, 3, 13275670, .leaving, false⟩ site with locked := true }
    t.locked = false ∧ (t.presence 0).map Presence.state = some .inside ∧ (t.journal.map fun r => r.body.value) = [some 0] := by
  decide +kernel

/-- R37's form check comes after LOCKED for WRITE ROOM (R17). -/
theorem test_writeRoom_locked_first :
    let b : RoomBody := ⟨5, 2, 0, 2⟩
    answer .security (after (.writeRoom .security b) (granted .security (.writeRoom b) { State.reset with locked := true })) =
      some (.locked, .nothing) := by decide +kernel

/-- R23: address 8, taken off the loop during the pass, is polled once more in it, with nothing to carry. -/
theorem test_poll_keeps_the_pass :
    (after .poll { site with lastPolled := some 7, passKept := [8] }).polling = some ⟨8, .nothing⟩ := by decide +kernel

/-- R176: a fourth refusal takes the queue's last place while no request is in flight. -/
theorem test_fourth_refusal :
    ((after (.setClock .works site.clock) (refusals 3)).port .works).transmit.length = 4 ∧
      ((after (.setClock .works site.clock) (refusals 4)).port .works).transmit.length = 4 := by decide +kernel

/-- R126: a door opened while its presence's tie is held hands that presence over as opened. -/
theorem test_statusReply_opens_before_the_tie :
    let s := (occupied ⟨300455, 40, 3, 13275670, .arriving, false⟩ site).setDoor 3 ⟨.released 5, [], some false, false, false⟩
    (after (.statusReply ⟨6, 0, true, false⟩)
      { deciding 8 1 s with heldEffects := [.tie 3 [0]], polling := some ⟨6, .nothing⟩ }).heldEffects = [.tie 3 [], .opened [0]] := by
  decide +kernel

/-- R104, R132: an opening reported before EVACUATE is resolved as opened after it; the door unties at the edge. -/
theorem test_evacuateRise_after_an_opening :
    let s := (occupied ⟨300455, 40, 3, 13275670, .arriving, false⟩ site).setDoor 3 ⟨.released 5, [1], some false, false, false⟩
    let t := after .evacuateRise { deciding 8 1 s with heldEffects := [.opened [0]] }
    t.heldEffects = [.opened [0]] ∧ (t.door 3).tied = [] := by decide +kernel

/-- R95, R105: a mismatch re-examines the read's room too, whose list is empty. -/
theorem test_exitDecision_clears_the_mark :
    let s := (occupied ⟨300455, 40, 9, 13275670, .inside, false⟩ site).setRoomState 3 ⟨[], none, true⟩
    ((after .exitDecision (deciding 7 300455 s)).roomState 3).uncertain = false := by decide +kernel

/-- R116, R135: a restart leaves a conflicted address UNKNOWN, and the mark of a room that was empty before. -/
theorem test_resetLine_keeps_marks :
    let s := { site with stationMap := put site.stationMap 1 (some ⟨0, 128, 0⟩) }
    let t := after .resetLine (s.setRoomState 3 ⟨[], none, true⟩)
    (t.station 6).state = .unknown ∧ (t.roomState 3).uncertain = true := by decide +kernel

/-- R141, R161: an OVERSTAY record has the reason as its outcome and no value. -/
theorem test_sweepPresenceStep_overstay :
    let o := occupied ⟨300455, 40, 3, 13275670, .inside, false⟩ site
    let s := { o with sweep := ⟨some ⟨.presences 0, 13275720, false⟩, false, false, 0⟩, turn := some ⟨.sweepStep, o.clock⟩ }
    ((after .sweepPresenceStep s).journal.map fun r => (r.body.kind, r.body.outcome, r.body.value)) =
      [(.overstay, some (.reason .outOfSlot), none)] := by decide +kernel

/-- The queue: a step carries out the front command. -/
theorem test_step_takes_the_front :
    (match step { State.reset with pending := [.evacuateFall, .tick] } with | .next t => t.pending | _ => []) = [.tick] := by
  decide +kernel

/-! ### Witnesses: for each statement with hypotheses, states and operands that meet them -/

theorem asked_handed (l : Link) (r : Request) (s : State) (h : s.supply = .normal) : Handed l r (asked l r s) := by
  cases l <;> exact ⟨h, rfl⟩

theorem granted_inTurn (l : Link) (r : Request) (s : State) (h : s.supply = .normal) : InTurn l r (granted l r s) := by
  cases l <;> exact ⟨⟨h, rfl⟩, rfl⟩

/-- The one permit of a badge that passes is the chosen one. -/
theorem chooses_only {s : State} {r : RoomNo} {n badge : Nat} {c : Chosen} {p : Permit}
    (hp : s.permit c.slot = some p ∧ p.badge = badge ∧ c.role = p.role ∧ c.escort = p.escort ∧
      evaluate s p r n .entry = .passes c.validityEnd c.minutes)
    (only : ∀ j, ∀ q ∈ s.permit j, q.badge = badge → j = c.slot) : Chooses s r n badge c := by
  refine ⟨⟨p, hp⟩, fun j q e m hq hb he => .inr ?_⟩
  obtain rfl := only j q hq hb
  obtain rfl : p = q := Option.some.inj (hp.1.symm.trans hq)
  have := hp.2.2.2.2.symm.trans he
  injection this with h1 h2
  exact ⟨h1.symm, le_refl _⟩

/-- The one permit of a badge that fails is the furthest one. -/
theorem furthest_only {s : State} {r : RoomNo} {n badge : Nat} {i : SlotNo} {p : Permit} {why : Reason} {stage : Nat}
    (hp : s.permit i = some p ∧ p.badge = badge ∧ evaluate s p r n .entry = .fails why stage)
    (only : ∀ j, ∀ q ∈ s.permit j, q.badge = badge → j = i) : Furthest s r n badge i p why stage := by
  refine ⟨hp, fun j q hq hb => ?_⟩
  obtain rfl := only j q hq hb
  obtain rfl : p = q := Option.some.inj (hp.1.symm.trans hq)
  exact ⟨why, stage, hp.2.2, .inr ⟨rfl, le_refl _⟩⟩

theorem test_witness_PowerUpIsAColdStart : Goes (exec (.powerUp false true) State.reset) := ⟨_, rfl⟩

/-- The longest draft and the shortest request, at the tops of their ranges. -/
theorem test_witness_RequestsDecodeAsWritten :
    (Request.draftPermit ⟨65535, 65535, 16777215, 0xFF, 255, ⟨2255, 255, 255, 255, 255⟩, ⟨2255, 255, 255, 255, 255⟩,
      some ⟨0xFF, 65535, 65535⟩, 255, [255, 255, 255, 255, 255, 255, 255, 255]⟩).wellFormed = true ∧
    (Request.draftPermit ⟨0, 0, 0, 0, 0, ⟨2000, 0, 0, 0, 0⟩, ⟨2000, 0, 0, 0, 0⟩, none, 0,
      [0, 0, 0, 0, 0, 0, 0, 0, 0, 0, 0, 0, 0]⟩).wellFormed = true ∧
    Request.alignClock.wellFormed = true := by decide +kernel

theorem test_witness_FramedRequestReachesItsOwner :
    (Request.countersign 65535 255).wellFormed = true ∧ (Request.countersign 65535 255).allowedOn .security = true ∧
      State.reset.supply = .normal ∧ (State.reset.port .security).reception = .awaitingStart ∧
      (State.reset.port .security).inFlight = none := by decide +kernel

/-- A port within a frame. -/
def inFrame (os : List Byte) (s : State := State.reset) : State := receiving .works (.inFrame os) s

theorem test_witness_OctetsAreTakenByPhase :
    ({ State.reset with supply := .backup } : State).supply = .backup ∧ (State.reset.port .works).reception = .awaitingStart ∧
      ((inFrame []).port .works).reception = .inFrame [] ∧
      ((inFrame (250 :: List.replicate 251 0)).port .works).reception = .inFrame (250 :: List.replicate 251 0) ∧
      (List.replicate 251 (0 : Byte)).length < (250 : Byte).toNat + 2 ∧
      ((inFrame [1, 3, 0x02, 0xF2]).port .works).reception = .inFrame [1, 3, 0x02, 0xF2] ∧
      (1 : Byte).toNat + 2 ≤ [(3 : Byte), 0x02, 0xF2].length := by decide +kernel

/-- A frame of a code and a body whose octets have all arrived at the Works Link. -/
def framed (code : Nat) (body : List Byte) (s : State := State.reset) : State := inFrame (frameOf code body) s

theorem test_witness_FramesAreJudgedInOrder :
    ((framed 3 []).port .works).reception = .inFrame [1, 3, 0x02, 0xF2] ∨
      ∃ a b, ((framed 3 []).port .works).reception = .inFrame [1, 3, a, b] ∧ [a, b].length = (1 : Byte).toNat + 1 ∧
        number [a, b] = (crc16 [1, 3]).toNat ∧ Roomy .works (framed 3 []) ∧ (framed 3 []).supply = .normal ∧
        ((framed 3 []).port .works).inFlight = none ∧ codeOwner 3 = some .either ∧ Owner.either.allows .works = true ∧
        decodeRequest 3 [] = some .readClock :=
  .inr ⟨_, _, rfl, rfl, by decide +kernel, by decide +kernel, rfl, rfl, by decide +kernel, rfl, by decide +kernel⟩

theorem test_witness_FramesAreJudgedInOrder_refusals :
    number [0, 0] ≠ (crc16 [1, 3]).toNat ∧ ((framed 3 [] (asked .works .readClock)).port .works).inFlight.isSome = true ∧
      codeOwner 40 = none ∧ codeOwner 1 = some .security ∧ Owner.security.allows .works = false ∧ decodeRequest 3 [0] = none ∧
      Roomy .works (refusals 3) ∧ ¬ Roomy .works (refusals 3 (asked .works .readClock)) ∧ ¬ Roomy .works (refusals 4) := by
  decide +kernel

/-- A port whose transmit queue holds one reply. -/
def replying (x : Reply) (s : State := State.reset) : State := s.setPort .works { s.port .works with transmit := [x] }

theorem test_witness_RepliesAreSentOldestFirst :
    ((replying ⟨3, .busy, .nothing, false⟩).port .works).transmit = [⟨3, .busy, .nothing, false⟩] ∧
      ((replying ⟨3, .done, .clock ⟨2000, 1, 1, 0, 0, 0⟩ 6 true, true⟩).port .works).inFlight = none ∧
      (ReplyContent.journal true 87 9796 ((longJournal.journal).take 8)).octets.length ≤ 248 ∧
      Handed .security .restart (asked .security .restart) := by decide +kernel

theorem test_witness_RequestRowsMeetThePort :
    (Instr.readClock .works).request = some (.works, .readClock) ∧ State.reset.supply = .normal ∧
      ((asked .works .readTimings).port .works).inFlight = some ⟨.readTimings, .handed⟩ ∧
      (⟨.readTimings, .handed⟩ : InFlight) ≠ ⟨.readClock, .handed⟩ ∧ Roomy .works (asked .works .readTimings) ∧
      (State.reset.port .works).inFlight = none ∧ Request.alignClock.allowedOn .works = false ∧ Roomy .works State.reset ∧
      Request.readClock.allowedOn .works = true ∧ Handed .works (.closePermit 1) (asked .works (.closePermit 1)) ∧
      needsTurn (.closePermit 1) = true ∧ (asked .works (.closePermit 1)).turn.map Turn.user ≠ some (.request .works) := by
  decide +kernel

theorem test_witness_TurnsAreGrantedInOrder :
    State.reset.supply = .normal ∧ ({ State.reset with heldEffects := [.unused [0]] } : State).heldEffects ≠ [] ∧
      ({ State.reset with readQueue := [⟨0, 1⟩] } : State).readQueue = [⟨0, 1⟩] :=
  ⟨rfl, by simp, rfl⟩

theorem test_witness_TurnsAreGrantedInOrder_links :
    Waits .works (asked .works (.closePermit 1)) ∧ Waits .security { State.reset with walk := some ⟨.resume, 1, 255, 0⟩ } ∧
      ∀ l, ¬ Waits l State.reset := by
  refine ⟨.inl ⟨.closePermit 1, rfl, rfl⟩, .inr ⟨rfl, by decide⟩, ?_⟩
  rintro l (⟨r, h, -⟩ | ⟨-, h⟩)
  · cases l <;> cases h
  · exact h rfl

theorem test_witness_MinuteBoundaryIsTaken :
    let busy : Sweep := ⟨some ⟨.permits 255, 7, false⟩, false, false, 65535⟩
    ({ State.reset with supply := .backup, backupMinutes := 65535 } : State).supply = .backup ∧
      State.reset.supply = .normal ∧ State.reset.sweep.run = none ∧ busy.run ≠ none ∧ busy.pending = false ∧
      ({ busy with pending := true } : Sweep).pending = true ∧
      (Mark.mk (some 0) (some 0) (some 6) (some 1)).matchesTime State.reset.clock = true ∧ State.reset.turn = none ∧
      State.reset.heldEffects = [] ∧ State.reset.readQueue = [] ∧
      overflowsAtMinute { occupied ⟨1, 40, 3, 13275670, .inside, false⟩ site with
        counters := put site.counters 0 ⟨.occupancyMinutes, some 3, true, 0xFFFFFFFF, false⟩ } 0 = true := by decide +kernel

theorem test_witness_CalendarAgreesWithAbsoluteMinutes :
    CivilMinute.inRange ⟨2000, 1, 1, 0, 0⟩ = true ∧ CivilMinute.inRange ⟨2096, 2, 29, 23, 59⟩ = true ∧
      CivilMinute.inRange ⟨2099, 12, 31, 23, 59⟩ = true := by decide +kernel

/-- The site asked to align its clock at a second of the minute. -/
def aligning (second : Nat) : State := asked .security .alignClock { site with clock := ⟨2025, 3, 29, 5, 10, second⟩ }

theorem test_witness_ClockIsSetAndAligned :
    let v : CivilTime := ⟨2099, 12, 31, 23, 59, 59⟩
    Handed .security (.setClock v) (asked .security (.setClock v)) ∧ v.inRange = true ∧
      Handed .security .alignClock (aligning 0) ∧ (aligning 0).clockUnset = false ∧ (aligning 0).clock.second = 0 ∧
      Handed .security .alignClock (aligning 1) ∧ 1 ≤ (aligning 1).clock.second ∧ Handed .security .alignClock (aligning 29) ∧
      (aligning 29).clock.second ≤ 29 ∧ Handed .security .alignClock (aligning 30) ∧ 30 ≤ (aligning 30).clock.second := by decide +kernel

theorem test_witness_SetMarkReplacesTheMark :
    let m : Mark := ⟨some 59, some 23, some 6, some 31⟩
    let n : Mark := ⟨some 0, some 0, some 0, some 0⟩
    State.reset.supply = .normal ∧ (State.reset.port .security).inFlight = none ∧ Roomy .security State.reset ∧
      Handed .works (.setMark m) (asked .works (.setMark m)) ∧ Handed .works (.setMark n) (asked .works (.setMark n)) ∧
      m.inRange = true ∧ n.inRange = false ∧ (asked .works (.setMark m)).sweep.run = none := by decide +kernel

theorem test_witness_SetMarkReplacesTheMark_ranges :
    MarkInRange ⟨some 59, some 23, some 6, some 31⟩ ∧ ¬ MarkInRange ⟨some 60, none, none, none⟩ := by
  refine ⟨⟨.inr ⟨_, rfl, by decide⟩, .inr ⟨_, rfl, by decide⟩, .inr ⟨_, rfl, by decide⟩, .inr ⟨_, rfl, by decide⟩⟩, ?_⟩
  rintro ⟨h | ⟨v, h, -, h'⟩, -⟩
  · cases h
  · cases h; exact absurd h' (by decide)

theorem test_witness_AddressesDecodeByTheirDescriptors :
    ((site.stationMap.toList.filterMap id).filter fun d => decide (d.first ≤ (6 : LoopAddr).val ∧ (6 : LoopAddr).val < d.first + d.size)) =
        [⟨6, 2, 3⟩] ∧ 3 + (6 - 6) / 2 ≤ 63 ∧ 6 % 2 = 0 ∧
      mapOutcome { site with stationMap := put site.stationMap 1 (some ⟨0, 128, 0⟩) } 7 = .conflict := by decide +kernel

theorem test_witness_WriteRoomReplacesTheRecord :
    let b : RoomBody := ⟨63, 1, 0, 2⟩
    let c : RoomBody := ⟨0, 0, 255, 255⟩
    let s := granted .security (.writeRoom b)
    InTurn .security (.writeRoom b) s ∧ s.locked = false ∧ b.room = (63 : RoomNo).val ∧ (s.roomState 63).list = [] ∧
      s.hold 63 = none ∧ InTurn .security (.writeRoom c) (granted .security (.writeRoom c)) ∧ c.room = (0 : RoomNo).val := by
  decide +kernel

theorem test_witness_WriteRoomReplacesTheRecord_carries :
    Carries ⟨63, 1, 0, 2⟩ (some ⟨.a, 2⟩) ∧ Carries ⟨63, 1, 2, 16⟩ (some ⟨.c, 16⟩) ∧ Carries ⟨0, 0, 255, 255⟩ none :=
  ⟨.inr ⟨.a, rfl, rfl, by decide, by decide, rfl⟩, .inr ⟨.c, rfl, rfl, by decide, by decide, rfl⟩, .inl ⟨rfl, rfl⟩⟩

/-- Emptying descriptor 0 takes address 6 off the loop; a second descriptor over address 7 puts it in conflict. -/
theorem test_witness_WriteMapMovesStations :
    let empty : MapBody := ⟨0, 0, 0, 0⟩
    let whole : MapBody := ⟨7, 0, 128, 0⟩
    let s := granted .security (.writeMap empty) site
    let t := after (.writeMap .security empty) s
    InTurn .security (.writeMap empty) s ∧ s.locked = false ∧ Describes empty none ∧ Describes whole (some ⟨0, 128, 0⟩) ∧
      empty.number = (0 : Fin 8).val ∧ mapOutcome t 6 = .unpolled ∧ mapOutcome s 6 = .mapped 3 true ∧ roomOf t 6 ≠ some 3 ∧
      (s.door 3).state ≠ .evacuation ∧
      mapOutcome (after (.writeMap .security ⟨1, 6, 2, 9⟩) (granted .security (.writeMap ⟨1, 6, 2, 9⟩) site)) 7 = .conflict ∧
      mapOutcome site 7 ≠ .conflict ∧ isEntry 6 = true ∧ roomOf s 6 = some 3 ∧ carriedOn Station.initial = [] ∧
      (after (.writeMap .security empty) { s with lastPolled := some 5 }).passKept = [7, 6] ∧
      (after (.writeMap .security empty) (s.setDoor 3 ⟨.released 4, [0], some false, false, false⟩)).heldEffects = [.unused [0]] ∧
      mapOutcome (after (.writeMap .security ⟨1, 126, 2, 63⟩) (granted .security (.writeMap ⟨1, 126, 2, 63⟩) site)) 127 =
        .mapped 63 false ∧ mapOutcome site 127 = .unpolled := by
  decide +kernel

/-- R22: "empty" passes for descriptor 8 too, is answered DONE and leaves the map; a descriptor with that number is BAD-ROOM. -/
theorem test_witness_WriteMapMovesStations_empty :
    let served := fun (b : MapBody) => after (.writeMap .security b) (granted .security (.writeMap b) site)
    InTurn .security (.writeMap ⟨8, 0, 0, 0⟩) (granted .security (.writeMap ⟨8, 0, 0, 0⟩) site) ∧ Describes ⟨8, 0, 0, 0⟩ none ∧
      answer .security (served ⟨8, 0, 0, 0⟩) = some (.done, .nothing) ∧ (served ⟨8, 0, 0, 0⟩).stationMap = site.stationMap ∧
      answer .security (served ⟨8, 126, 2, 63⟩) = some (.badRoom, .nothing) := by decide +kernel

/-- R23, R103: a RELEASE pending at address 6, which comes to decode to room 9, carries nobody afterwards: its ARRIVING presence is gone
with GRANT-UNUSED and its LEAVING one is INSIDE again. -/
theorem test_witness_WriteMapMovesStations_moved :
    let b : MapBody := ⟨0, 6, 2, 9⟩
    let s := fun (x : PresenceState) => granted .security (.writeMap b)
      ((occupied ⟨300455, 40, 3, 13275000, x, false⟩ site).setStation 6 { Station.initial with decision := some (.release 5 50 [0]) })
    let t := fun x => after (.writeMap .security b) (s x)
    InTurn .security (.writeMap b) (s .arriving) ∧ Describes b (some ⟨6, 2, 9⟩) ∧ Withdrawn (s .arriving) (t .arriving) 6 ∧
      0 ∈ carriedOn ((s .arriving).station 6) ∧ 0 ∈ ((s .arriving).roomState 3).list ∧
      (∀ r, 0 ∉ running (s .arriving) r) ∧ ((t .arriving).station 6).decision = some (.release 5 50 []) ∧ (t .arriving).presence 0 = none ∧
      (t .leaving).presence 0 = some ⟨300455, 40, 3, 13275000, .inside, false⟩ ∧
      (t .arriving).journal.map (·.body.kind) = [.configChange, .grantUnused] ∧
      (t .leaving).journal.map (·.body.kind) = [.configChange, .exitUnused] := by decide +kernel

theorem test_witness_WriteMapMovesStations_apart :
    ∀ j e, j ≠ (1 : Fin 8) → look site.stationMap j = some e → ∀ f, some (Descriptor.mk 126 2 63) = some f → Apart f e := by
  have h : ∀ j, ∀ e ∈ look site.stationMap j, Apart ⟨126, 2, 63⟩ e := by decide +kernel
  intro j e _ he f hf
  cases hf
  exact h j e he

theorem test_witness_FreezesAndTheLockAreWritten :
    let b : FreezeBody := ⟨7, ⟨2000, 1, 1, 0, 0⟩, ⟨2099, 12, 31, 23, 59⟩, 7⟩
    let c : FreezeBody := ⟨0, ⟨2000, 1, 1, 0, 0⟩, ⟨2000, 1, 1, 0, 1⟩, 1⟩
    InTurn .security (.setFreeze b) (granted .security (.setFreeze b)) ∧ b.entry = (7 : Fin 8).val ∧ b.classes.toNat ≤ 7 ∧
      b.start.inRange = true ∧ b.stop.inRange = true ∧ absMinute b.start < absMinute b.stop ∧
      InTurn .security (.setFreeze c) (granted .security (.setFreeze c)) ∧ 1 ≤ c.classes.toNat ∧ absMinute c.start < absMinute c.stop ∧
      InTurn .security (.clearFreeze (7 : Fin 8).val) (granted .security (.clearFreeze 7)) ∧
      Handed .security .lockConfiguration (asked .security .lockConfiguration) := by decide +kernel

theorem test_witness_WriteTimingsClamps :
    let t : Timings := ⟨0, 600, 120, 30, 240⟩
    (State.reset.port .works).inFlight = none ∧ Roomy .works State.reset ∧
      Handed .security (.writeTimings t) (asked .security (.writeTimings t)) ∧
      (asked .security (.writeTimings t)).locked = false ∧
      (asked .security (.writeTimings t) { State.reset with locked := true }).locked = true := by decide +kernel

theorem test_witness_PlainReadsAnswer (l : Link) (r : Request) : Handed l r (asked l r) := asked_handed l r _ rfl

/-- A sweep in progress, at the first slot. -/
def midSweep : State := { site with sweep := { site.sweep with run := some ⟨.permits 0, 0, false⟩ } }

/-- R54: a sweep waits while WRITE MAP or a walk's step holds the turn, and is RUNNING with no turn or a read's. -/
theorem test_witness_PlainReadsAnswer_sweep :
    (asked .works .readSweep).sweep.run = none ∧ (asked .works .readSweep midSweep).sweep.run ≠ none ∧
      TableWriteTurn (asked .works .readSweep (granted .security (.writeMap ⟨0, 0, 0, 0⟩) midSweep)) ∧
      TableWriteTurn (asked .works .readSweep { midSweep with turn := some ⟨.walkStep, site.clock⟩ }) ∧
      ¬ TableWriteTurn (asked .works .readSweep midSweep) ∧
      ¬ TableWriteTurn (asked .works .readSweep (granted .security (.readPermit (.number 1)) midSweep)) := by
  refine ⟨by decide +kernel, by decide +kernel, .inr ⟨.security, _, by decide +kernel, rfl, by decide +kernel⟩,
    .inl (by decide +kernel), ?_, ?_⟩
  · rintro (h | ⟨_, _, h, -⟩) <;> cases h
  · rintro (h | ⟨_, _, h, h', h''⟩)
    · cases h
    · cases h; cases h'; revert h''; decide +kernel

theorem test_witness_FirstFailingCheckGivesTheReply :
    let m : Mark := ⟨some 60, none, none, none⟩
    (Instr.setNoticeMask .works 7).request = some (.works, .setNoticeMask 7) ∧
      firstFailing (ownersChecks .works (asked .works (.readCounter 8)) (.readCounter 8)) = some .badLength ∧
      needsTurn (.readCounter 8) = false ∧
      firstFailing (ownersChecks .works (granted .works (.closePermit 0)) (.closePermit 0)) = some .noSuchPermit ∧
      needsTurn (.closePermit 0) = true ∧ (granted .works (.closePermit 0)).turn.map Turn.user = some (.request .works) ∧
      m.inRange = false := by decide +kernel

theorem test_witness_DraftFillsASlot :
    let b := { draft5116 with flags := 0x12, slot := 255 }
    InTurn .works (.draftPermit draft5116) (granted .works (.draftPermit draft5116) site) ∧
      firstFailing (ownersChecks .works (granted .works (.draftPermit draft5116) site) (.draftPermit draft5116)) = none ∧
      firstFailing (ownersChecks .works (granted .works (.draftPermit b) site) (.draftPermit b)) = none ∧
      draft5116.flags.getLsbD 3 = true ∧ b.flags.getLsbD 3 = false := by decide +kernel

/-- Permit 5116 alone in the table, whatever its content. -/
theorem named_5116 (l : Link) (r : Request) (p : Permit) (h : p.number = 5116) :
    Named 5116 40 p (granted l r (site.setPermit 40 (some p))) := by
  have e : ∀ j, (granted l r (site.setPermit 40 (some p))).permit j = if j = 40 then some p else none := by
    intro j
    have hs : (granted l r (site.setPermit 40 (some p))).permit j = look (put site.permits 40 (some p)) j := rfl
    rw [hs]
    by_cases hj : j = 40
    · subst hj; simp
    · have : ∀ j : SlotNo, j ≠ 40 → look site.permits j = none := by decide +kernel
      rw [look_put_other _ _ (Ne.symm hj), this j hj, if_neg hj]
  refine ⟨by simp [e], h, fun j q hq _ => ?_⟩
  rw [e] at hq
  by_contra hj
  simp [hj] at hq

theorem test_witness_AmendLeavesTheStateOfItsTable :
    InTurn .works (.amendPermit widen5116) (granted .works (.amendPermit widen5116) site) ∧
      firstFailing (ownersChecks .works (granted .works (.amendPermit widen5116) site) (.amendPermit widen5116)) = none ∧
      (amended permit5116 (rewritten widen5116 permit5116)).isSome = true ∧
      (amended urgent5116 (rewritten widen5116 urgent5116)).isSome = true := by decide +kernel

/-- A narrowing amend leaves an ACTIVE permit, and the request in flight belongs to its link. -/
theorem test_witness_NoWorksRequestWidensAnActivePermit :
    let b := { widen5116 with stop := ⟨2025, 3, 31, 5, 59⟩ }
    let s := granted .works (.amendPermit b) site
    (Instr.amendPermit .works b).request = some (.works, .amendPermit b) ∧ RequestsOwned s ∧
      ((after (.amendPermit .works b) s).permit 40).map Permit.standing = some .active := by
  refine ⟨rfl, ?_, by decide +kernel⟩
  rintro (_ | _) f h
  · cases h; rfl
  · cases h

theorem test_witness_CountersignFollowsItsTable :
    let s := granted .security (.countersign 5116 0) (site.setPermit 40 (some urgent5116))
    InTurn .security (.countersign 5116 0) s ∧ Named 5116 40 urgent5116 s ∧ urgent5116.revision.toNat = 0 ∧
      urgent5116.revision.toNat ≠ 255 ∧ urgent5116.standing = .provisional ∧ permit5116.standing = .active ∧
      Held (.suspended .active 1 false) = true ∧ Terminal (.ended .lapsed 0) = true :=
  ⟨granted_inTurn _ _ _ rfl, named_5116 _ _ _ rfl, by decide, by decide, rfl, rfl, rfl, rfl⟩

theorem test_witness_PermitsAreSuspendedAndResumed :
    let p := { urgent5116 with standing := .suspended .provisional 255 true }
    InTurn .security (.suspendPermit 5116 255) (granted .security (.suspendPermit 5116 255) site) ∧ (255 : Nat) ≠ 0 ∧
      Named 5116 40 p (granted .security (.resumePermit 5116) (site.setPermit 40 (some p))) ∧ p.graceEnd = some 13275690 ∧
      turnMinute (granted .security (.resumePermit 5116) site) < 13275690 ∧
      13275690 ≤ turnMinute (granted .security (.resumePermit 5116) { site with clock := ⟨2025, 3, 29, 5, 30, 0⟩ }) :=
  ⟨granted_inTurn _ _ _ rfl, by decide, named_5116 _ _ _ rfl, rfl, by decide +kernel, by decide +kernel⟩

theorem test_witness_PermitsAreEndedAndPurged :
    let p := { permit5116 with standing := .ended .closed 0 }
    InTurn .works (.closePermit 5116) (granted .works (.closePermit 5116) site) ∧ Terminal permit5116.standing = false ∧
      Terminal p.standing = true ∧ Named 5116 40 p (granted .works (.purgePermit 5116) (site.setPermit 40 (some p))) ∧
      ∀ k x, (granted .works (.purgePermit 5116) (site.setPermit 40 (some p))).presence k = some x → x.slot ≠ 40 := by
  refine ⟨granted_inTurn _ _ _ rfl, rfl, rfl, named_5116 _ _ _ rfl, ?_⟩
  have h : ∀ k, ∀ x ∈ State.reset.presence k, x.slot ≠ 40 := by decide +kernel
  exact fun k x hx => h k x hx

theorem test_witness_PermitsAreReadAndListed :
    InTurn .works (.listPermits 255 (.state 8) 255) (granted .works (.listPermits 255 (.state 8) 255)) ∧
      (ListFilter.state 8) ≠ .undefined ∧ Named 5116 40 permit5116 (granted .works (.readPermit (.number 5116)) (site.setPermit 40 (some permit5116))) ∧
      InTurn .works (.readPermit (.slot 40)) (granted .works (.readPermit (.slot 40)) site) :=
  ⟨granted_inTurn _ _ _ rfl, by decide, named_5116 _ _ _ rfl, granted_inTurn _ _ _ rfl⟩

/-- The first and the last minute of a night period, and the minute that belongs to a period begun before 2000. -/
theorem test_witness_SlotPatternsArePeriods :
    (Pattern.mk 0x20 1320 360).slotEnd (13273920 + 1320) = some 13275720 ∧ (Pattern.mk 0x20 1320 360).slotEnd 13275719 = some 13275720 ∧
      (Pattern.mk 0x20 1320 360).slotEnd 0 = some 360 ∧ (Pattern.mk 0x7F 1439 1439).slotEnd 0 = some 1439 := by decide +kernel

theorem test_witness_PermitIsMeasuredInStages :
    Live permit5116 ∧ Live urgent5116 ∧ (3 : RoomNo) ∈ permit5116.rooms ∧ (4 : RoomNo) ∉ permit5116.rooms ∧
      ValidUntil permit5116 13278600 ∧ permit5116.spanStart ≤ 13275240 ∧ 13275239 < permit5116.spanStart ∧
      (∀ k, permit5116.pattern = some k → k.slotEnd 13275670 ≠ none) ∧
      (Pattern.mk 0x60 1320 360).slotEnd 13275720 = none := by
  refine ⟨.inl rfl, .inr rfl, by decide, by decide, rfl, by decide, by decide, ?_, by decide +kernel⟩
  intro k hk
  cases hk
  decide +kernel

theorem test_witness_PermitIsMeasuredInStages_grace : ValidUntil urgent5116 13275690 := ⟨13275690, rfl, rfl⟩

/-! Entry reads. -/

theorem only_5116 : ∀ j, ∀ q ∈ site.permit j, q.badge = 300455 → j = 40 := by decide +kernel

theorem chooses_5116 : Chooses site 3 13275670 300455 ⟨40, .worker, false, 13278600, 50⟩ :=
  chooses_only (p := permit5116) (by decide +kernel) only_5116

theorem test_witness_EntryIsRefusedByItsFirstBar :
    EntryRead 6 300455 false site.clock (deciding 6 300455 site) ∧ mapOutcome site 8 = .unpolled ∧
      mapOutcome { site with stationMap := put site.stationMap 1 (some ⟨0, 128, 0⟩) } 6 = .conflict ∧
      mapOutcome { site with rooms := fill none } 6 = .mapped 3 false ∧ mapOutcome site 6 = .mapped 3 true ∧
      ({ site with clockUnset := true } : State).clockUnset = true ∧ site.clockUnset = false ∧
      ({ site with evacuating := true } : State).evacuating = true ∧ Admissible 6 3 (deciding 6 300455 site) ∧
      CivilTime.abs ⟨2025, 3, 29, 6, 0, 0⟩ = 13275720 := by decide +kernel

/-- Badge 300,455 recorded in room 3, its door as given. -/
def here (x : PresenceState) (d : DoorState) : State :=
  deciding 6 300455 ((occupied ⟨300455, 40, 3, 13275000, x, false⟩ site).setDoor 3 ⟨d, [], some false, false, false⟩)

/-- R87: badge 300455 ARRIVING in room 3 with no permit, where a hold stands open for badge 410900. -/
theorem test_witness_EntryIsRefusedByItsFirstBar_arriving :
    let s := ((here .arriving .secure).setPermit 40 none).setHold 3
      (some ⟨410900, 41, .supervisor, 50, .companion, ⟨2025, 3, 29, 5, 10, 30⟩, 20⟩)
    WeighedArriving s 3 300455 ∧ ¬ Weighed s 3 300455 ∧ Admissible 6 3 s ∧ (∀ i, s.permit i = none) := by
  refine ⟨⟨?_, 0, _, rfl, by decide +kernel, by decide +kernel, by decide +kernel, by decide +kernel, ?_⟩, ?_, by decide +kernel,
    by decide +kernel⟩
  · intro h e; cases e; decide
  · have d : ∀ j, ∀ q ∈ (here .arriving .secure).presence j, q.badge = 300455 → j = 0 := by decide +kernel
    exact fun j q e b => d j q e b
  · intro w; exact (w _ rfl).2 ⟨300455, 40, 3, 13275000, .arriving, false⟩ (by decide +kernel) rfl

theorem test_witness_EntryIsRefusedByItsFirstBar_permits :
    (∀ i p, (deciding 6 5 site).permit i = some p → p.badge ≠ 5) ∧ Weighed (deciding 6 5 site) 3 5 ∧
      Furthest (deciding 6 300455 site) 3 13275720 300455 40 permit5116 .outOfSlot 4 := by
  refine ⟨?_, ?_, furthest_only (by decide +kernel) only_5116⟩
  · have h : ∀ i, ∀ p ∈ site.permit i, p.badge ≠ 5 := by decide +kernel
    exact fun i p hp => h i p hp
  · intro h hh
    have e : (deciding 6 5 site).hold 3 = none := by decide +kernel
    rw [e] at hh; cases hh

/-- Badge 300,455 recorded in room 9 while it reads at room 3. -/
def elsewhere (x : PresenceState) : State := occupied ⟨300455, 40, 9, 13275000, x, false⟩ site

theorem elsewhere_present (x : PresenceState) : Present (deciding 6 300455 (elsewhere x)) 300455 0 ⟨300455, 40, 9, 13275000, x, false⟩ := by
  refine ⟨rfl, rfl, fun j q hq _ => ?_⟩
  have h : ∀ j : PoolIx, j ≠ 0 → State.reset.presence j = none := by decide +kernel
  by_contra hj
  have e : (deciding 6 300455 (elsewhere x)).presence j = look (put State.reset.pool 0 (some ⟨300455, 40, 9, 13275000, x, false⟩)) j := rfl
  rw [e, look_put_other _ _ (Ne.symm hj)] at hq
  cases (h j hj).symm.trans hq

theorem test_witness_PassbackIsRefusedOrYields :
    let s := deciding 6 300455 (elsewhere .unverified)
    EntryRead 6 300455 false s.clock s ∧ Admissible 6 3 s ∧ Weighed s 3 300455 ∧ Chooses s 3 s.clock.abs 300455 ⟨40, .worker, false, 13278600, 50⟩ ∧
      Present s 300455 0 ⟨300455, 40, 9, 13275000, .unverified, false⟩ ∧ (9 : RoomNo) ≠ 3 ∧
      ∀ q h, q ≠ 3 → s.hold q = some h → h.badge ≠ 300455 := by
  refine ⟨by decide +kernel, by decide +kernel, ?_, chooses_only (p := permit5116) (by decide +kernel) only_5116, elsewhere_present _,
    by decide, ?_⟩
  · intro h hh
    have e : (deciding 6 300455 (elsewhere .unverified)).hold 3 = none := by decide +kernel
    rw [e] at hh; cases hh
  · have h : ∀ q, ∀ h ∈ site.hold q, h.badge ≠ 300455 := by decide +kernel
    exact fun q k _ hk => h q k hk

/-- The other two clauses: INSIDE in another room, and a hold open for the badge at another door. -/
theorem test_witness_PassbackIsRefusedOrYields_refusals :
    let s := deciding 6 300455 (site.setHold 9 (some ⟨300455, 40, .worker, 50, .both, site.clock, 1⟩))
    Present (deciding 6 300455 (elsewhere .inside)) 300455 0 ⟨300455, 40, 9, 13275000, .inside, false⟩ ∧
      (∀ i p, s.presence i = some p → p.badge ≠ 300455) ∧ (∃ q h, q ≠ 3 ∧ s.hold q = some h ∧ h.badge = 300455) := by
  refine ⟨elsewhere_present _, ?_, 9,
    ⟨300455, 40, .worker, 50, .both, site.clock, 1⟩, by decide, by decide +kernel, rfl⟩
  have h : ∀ i, ∀ p ∈ site.presence i, p.badge ≠ 300455 := by decide +kernel
  exact fun i p hp => h i p hp

theorem test_witness_PresentBadgesAreReEnteredOrRepeated :
    EntryRead 6 300455 false site.clock (here .leaving .secure) ∧ Admissible 6 3 (here .leaving .secure) ∧
      (here .leaving .secure).presence 0 = some ⟨300455, 40, 3, 13275000, .leaving, false⟩ ∧
      0 ∈ ((here .leaving .secure).roomState 3).list ∧ (here .leaving .secure).hold 3 = none ∧
      ((here .arriving (.released 1)).door 3).state = .released 1 ∧ ((here .arriving .secure).door 3).state = .secure ∧
      (∀ j, ∀ q ∈ (here .leaving .secure).presence j, q.badge = 300455 → j = 0) ∧
      (∀ j, ∀ q ∈ (here .leaving .secure).permit j, q.badge = 300455 → j = 40) ∧
      evaluate (here .leaving .secure) permit5116 3 site.clock.abs .entry = .passes 13278600 50 := by decide +kernel

theorem nowhere_site : Nowhere (deciding 6 300455 site) 3 300455 := by
  have h : ∀ i, ∀ p ∈ site.presence i, p.badge ≠ 300455 := by decide +kernel
  have k : ∀ q, ∀ h ∈ site.hold q, h.badge ≠ 300455 := by decide +kernel
  exact ⟨fun i p hp => h i p hp, fun q x _ hx => k q x hx⟩

theorem roomTakes_site (n : Nat) (h : n ≤ 4) : RoomTakes (deciding 6 300455 site) 3 n := by
  intro k hk
  have e : (deciding 6 300455 site).room 3 = some ⟨.a, 4⟩ := by decide +kernel
  have e' : ((deciding 6 300455 site).roomState 3).list = [] := by decide +kernel
  rw [e] at hk
  cases hk
  rw [e']
  simpa using h

theorem companion_site : CompanionNeeded (deciding 6 300455 site) 3 :=
  ⟨⟨⟨.a, 4⟩, by decide +kernel, rfl⟩, by decide +kernel⟩

/-- A need opens a hold: the empty class A room with four places. -/
theorem test_witness_EntryIsGrantedOrHeld :
    let s := deciding 6 300455 site
    EntryRead 6 300455 false s.clock s ∧ Admissible 6 3 s ∧ s.hold 3 = none ∧
      Chooses s 3 s.clock.abs 300455 ⟨40, .worker, false, 13278600, 50⟩ ∧ Nowhere s 3 300455 ∧ CompanionNeeded s 3 ∧
      ¬ EscortNeeded s 3 ⟨40, .worker, false, 13278600, 50⟩ ∧ RoomTakes s 3 2 ∧ PoolTakes s 2 ∧ ¬ RoomTakes s 3 5 := by
  refine ⟨by decide +kernel, by decide +kernel, by decide +kernel, chooses_only (p := permit5116) (by decide +kernel) only_5116,
    nowhere_site, companion_site, fun h => absurd h.1 (by decide), roomTakes_site 2 (by decide), by decide +kernel, ?_⟩
  intro h
  exact absurd (h ⟨.a, 4⟩ (by decide +kernel)) (by decide +kernel)

/-- With a class B room nothing is needed; an escort is needed where the permit asks for one; and a full pool takes nobody. -/
theorem test_witness_EntryIsGrantedOrHeld_alone :
    let s := deciding 6 300455 { site with rooms := put site.rooms 3 (some ⟨.b, 1⟩) }
    ¬ CompanionNeeded s 3 ∧ EscortNeeded s 3 ⟨40, .worker, true, 13278600, 50⟩ ∧ LowestFree s 0 ∧ RoomTakes s 3 1 ∧ PoolTakes s 1 ∧
      ¬ PoolTakes { site with pool := fill (some ⟨1, 0, 0, 0, .inside, false⟩) } 1 := by
  refine ⟨?_, ⟨rfl, rfl, ?_⟩, ⟨by decide +kernel, by decide⟩, ?_, by decide +kernel, by decide +kernel⟩
  · rintro ⟨⟨k, hk, ha⟩, -⟩
    have e : (deciding 6 300455 { site with rooms := put site.rooms 3 (some ⟨.b, 1⟩) }).room 3 = some ⟨.b, 1⟩ := by decide +kernel
    rw [e] at hk; cases hk; cases ha
  · have e : roomPresences (deciding 6 300455 { site with rooms := put site.rooms 3 (some ⟨.b, 1⟩) }) 3 = [] := by decide +kernel
    rw [e]; simp
  · intro k hk
    have e : (deciding 6 300455 { site with rooms := put site.rooms 3 (some ⟨.b, 1⟩) }).room 3 = some ⟨.b, 1⟩ := by decide +kernel
    rw [e] at hk; cases hk; decide +kernel

theorem test_witness_PartnersAreJudgedWithTheHold :
    let s := deciding 6 410900 waiting
    EntryRead 6 410900 false s.clock s ∧ Admissible 6 3 s ∧
      s.hold 3 = some ⟨300455, 40, .worker, 50, .companion, ⟨2025, 3, 29, 5, 10, 30⟩, 20⟩ ∧
      Chooses s 3 s.clock.abs 410900 ⟨41, .supervisor, false, 13278600, 1439⟩ ∧ (∀ p ∈ roomPresences s 3, p.badge ≠ 410900) ∧
      LowestFree s 0 ∧ LowestFree (arrives 0 300455 40 3 s.clock.abs s) 1 ∧ PoolTakes s 2 ∧
      (∀ i, ∀ p ∈ s.presence i, p.badge ≠ 410900) ∧ ∀ q, ∀ h ∈ s.hold q, h.badge ≠ 410900 := by
  refine ⟨by decide +kernel, by decide +kernel, by decide +kernel,
    chooses_only (p := supervisor7001) (by decide +kernel) (by decide +kernel), by decide +kernel, ⟨by decide +kernel, by decide⟩,
    ⟨by decide +kernel, by decide +kernel⟩, by decide +kernel, by decide +kernel, by decide +kernel⟩

theorem test_witness_EveryExitReadIsReleased :
    isEntry 127 = false ∧ (deciding 7 1 site).turn = some ⟨.decision ⟨7, 1⟩ false, site.clock⟩ ∧ mapOutcome site 7 ≠ .unpolled ∧
      Goes (exec .exitDecision (deciding 7 1 site)) := ⟨by decide, rfl, by decide +kernel, ⟨_, rfl⟩⟩

theorem test_witness_ExitReadsMoveThePresence :
    isEntry 7 = false ∧ mapOutcome site 9 = .unpolled ∧
      mapOutcome { site with stationMap := put site.stationMap 1 (some ⟨0, 128, 0⟩) } 7 = .conflict ∧
      mapOutcome { site with rooms := fill none } 7 = .mapped 3 false ∧ mapOutcome (elsewhere .inside) 7 = .mapped 3 true ∧
      (∀ i, ∀ p ∈ site.presence i, p.badge ≠ 300455) ∧ (here .inside .secure).presence 0 = some ⟨300455, 40, 3, 13275000, .inside, false⟩ := by
  decide +kernel

theorem test_witness_HoldsCloseOrAreCancelled :
    let s := waiting.setHold 3 (some ⟨300455, 40, .worker, 50, .both, site.clock, 0⟩)
    s.supply = .normal ∧ s.hold 3 = some ⟨300455, 40, .worker, 50, .both, site.clock, 0⟩ ∧ entryStation s 3 = some 6 ∧
      (waiting.hold 3).any (fun h => decide (0 < h.ticks)) = true ∧ s.permit 40 = some permit5116 ∧ (40 : SlotNo) ≠ 41 ∧
      (s.setPermit 40 none).permit 40 = none := by decide +kernel

theorem test_witness_QueuedCommandReplacesThePendingOne :
    let s := site.setStation 6 { Station.initial with decision := some (.release 5 50 [0]) }
    let x := site.setStation 6 { Station.initial with read := some ⟨1, .deciding⟩ }
    (s.station 6).decision = some (.release 5 50 [0]) ∧ s.turn = none ∧ s.heldEffects = [] ∧ (deciding 6 1 s).turn ≠ none ∧
      (site.station 6).read = none ∧ (x.station 6).read = some ⟨1, .deciding⟩ ∧
      (deciding 6 1 x).turn = some ⟨.decision ⟨6, 1⟩ false, x.clock⟩ ∧ (deciding 8 1 x).turn = some ⟨.decision ⟨8, 1⟩ false, x.clock⟩ ∧
      ((site.setStation 6 { Station.initial with read := some ⟨1, .answered⟩ }).station 6).read = some ⟨1, .answered⟩ := by decide +kernel

theorem test_witness_PresencesAreResolvedAndRoomsReexamined :
    let s := here .arriving (.released 5)
    s.presence 0 = some ⟨300455, 40, 3, 13275000, .arriving, false⟩ ∧ (s.roomState 3).list.filter (· = 0) = [0] ∧
      ((here .leaving (.released 5)).presence 0).map Presence.state = some .leaving := by decide +kernel

/-- Room 3 with the badges of permits 5116 and 7001 in it, as the first and second of the pool. -/
def pair (x : PresenceState) : State :=
  let s := (site.setPermit 41 (some supervisor7001)).setPresence 0 (some ⟨300455, 40, 3, 13275000, x, false⟩)
  (s.setPresence 1 (some ⟨410900, 41, 3, 13275000, x, false⟩)).setRoomState 3 ⟨[0, 1], none, true⟩

theorem test_witness_PresencesAreResolvedAndRoomsReexamined_several :
    [(1 : PoolIx), 0] ≠ [] ∧ (∀ i ∈ [(1 : PoolIx), 0], ((pair .arriving).presence i).map Presence.room = some 3) ∧
      ((pair .arriving).roomState 3).list.Nodup ∧ ((pair .arriving).roomState 3).list.filter (· ∈ [(1 : PoolIx), 0]) = [0, 1] := by
  decide +kernel

/-- R113: RECONCILE ROOM for ALL in a room with a tied presence: one record, of an ARRIVING badge, and the door ties nobody. -/
theorem test_reconcile_all_unties :
    let s := granted .security (.reconcileRoom 3 none) (here .arriving (.released 3))
    let u := s.setDoor 3 { s.door 3 with tied := [0] }
    let t := after (.reconcileRoom .security 3 none) u
    (t.journal.map (·.body)) = (u.journal.map (·.body)) ++
        [{ kind := .reconcile, room := some 3, badge := some 300455, permit := some 5116, value := some 0 }] ∧
      (t.door 3).tied = [] ∧ (t.roomState 3).list = [] := by decide +kernel

theorem test_witness_OccupancyIsReadAndReconciled :
    let s := granted .security (.reconcileRoom 3 none) (here .inside .secure)
    InTurn .security (.reconcileRoom (3 : RoomNo).val none) s ∧ (s.roomState 3).list.Nodup ∧ (s.roomState 3).list.filter (· = 0) = [0] ∧
      s.presence 0 = some ⟨300455, 40, 3, 13275000, .inside, false⟩ ∧
      InTurn .works (.readOccupancy (.room (63 : RoomNo).val)) (granted .works (.readOccupancy (.room 63))) ∧
      InTurn .works (.readOccupancy (.badge 16777215)) (granted .works (.readOccupancy (.badge 16777215))) ∧
      InTurn .security (.reconcileRoom (0 : RoomNo).val (some 1)) (granted .security (.reconcileRoom 0 (some 1))) := by decide +kernel

/-! The loop and the doors. -/

theorem test_witness_StationsArePolledAndMissed :
    let s := { site with lastPolled := some 7 }
    let x := site.setStation 7 { Station.initial with state := .online, misses := 2 }
    PolledNext s 6 [] ∧ CarriedTo (s.station 6) .nothing ∧ CarriedTo { Station.initial with decision := some .wait } .decision ∧
      CarriedTo { Station.initial with mode := some .evacRelease } .mode ∧
      ({ x with polling := some ⟨7, .nothing⟩ } : State).polling = some ⟨7, .nothing⟩ ∧ Polled x 7 ∧ NothingToJudge x 7 ∧
      2 ≤ (x.station 7).misses ∧ (site.station 6).misses < 2 ∧ (x.station 7).state = .online := by
  refine ⟨.inr ⟨?_, by decide +kernel, by decide +kernel, rfl⟩, .inr (.inr ⟨rfl, rfl, .inl rfl⟩), .inr (.inl ⟨rfl, rfl, by decide, by decide⟩),
    .inl ⟨rfl, by decide⟩, rfl, by decide +kernel, .inr ?_, by decide +kernel, by decide +kernel, by decide +kernel⟩
  · rintro c ⟨⟨b, hb, hc⟩, h⟩
    cases hb
    have e : ∀ c : LoopAddr, 7 < c → mapOutcome site c = .unpolled := by decide +kernel
    rcases h with h | h
    · exact h (e c hc)
    · cases h
  · intro r hr
    have h : ∀ r, ((site.setStation 7 { Station.initial with state := .online, misses := 2 }).door r).openingPending = false := by decide +kernel
    exact h r

/-- The pass goes on to address 6, kept in it after a WRITE MAP took it off the loop; its POLL's miss is dropped. -/
theorem test_witness_StationsArePolledAndMissed_kept :
    let s := { State.reset with lastPolled := some 5, passKept := [6, 7] }
    PolledNext s 6 [6, 7] ∧ s.supply = .normal ∧ s.polling = none ∧ ¬ Polled s 6 :=
  ⟨.inl ⟨⟨⟨5, rfl, by decide⟩, .inr (by decide)⟩, fun c h => by
      obtain ⟨⟨b, hb, hc⟩, -⟩ := h
      cases hb
      exact hc, rfl⟩, rfl, rfl, fun h => h (by decide +kernel)⟩

/-- An opening pends at room 3's door, with and without the push-bar mark; and a third miss at its entry station. -/
theorem test_witness_StationsArePolledAndMissed_judged :
    let s (mark : Bool) := site.setDoor 3 ⟨.secure, [], some true, mark, true⟩
    let x := waiting.setStation 6 { Station.initial with state := .unknown, misses := 2 }
    isEntry 7 = false ∧ roomOf site 7 = some 3 ∧ ((s true).door 3).openingPending = true ∧ ((s true).door 3).pushMark = true ∧
      ((s false).door 3).pushMark = false ∧ isEntry 6 = true ∧ roomOf x 6 = some 3 ∧ 2 ≤ (x.station 6).misses ∧
      (x.station 6).state = .unknown ∧ (x.door 3).state ≠ .evacuation := by decide +kernel

/-- R127: the exit station's reply of room 3 judges a pending opening and offers a read. -/
theorem test_witness_GoodRepliesAreTaken_judging :
    let s : State := { (site.setDoor 3 { site.door 3 with openingPending := true }) with polling := some ⟨7, .nothing⟩ }
    s.supply = .normal ∧ s.polling = some ⟨7, .nothing⟩ ∧ Polled s 7 ∧ isEntry 7 = false ∧ roomOf s 7 = some 3 ∧
      (s.door 3).openingPending = true ∧ (s.door 3).pushMark = false ∧
      ((after (.statusReply ⟨7, 300455, true, false⟩) s).door 3).state = .opened 60 ∧
      ((after (.statusReply ⟨7, 300455, false, false⟩) s).door 3).state = .forced := by
  decide +kernel

/-- R23, R119, R122, R123: an address unmapped while its POLL is out has its reply taken, with its tamper and its read, which is then
dropped undecided, and a miss counted. -/
theorem test_unmapped_address_is_heard_once_more :
    let b : MapBody := ⟨0, 0, 0, 0⟩
    let s := after (.writeMap .security b) { granted .security (.writeMap b) site with polling := some ⟨6, .nothing⟩ }
    let t := after (.statusReply ⟨6, 300455, true, true⟩) s
    let u := after .entryDecision t
    ¬ Polled s 6 ∧ s.polling = some ⟨6, .nothing⟩ ∧ (t.station 6).state = .online ∧ (t.station 6).tamper = true ∧
      (t.station 6).read = some ⟨300455, .deciding⟩ ∧ ((after .stationMiss s).station 6).misses = 1 ∧
      (u.station 6).read = none ∧ u.journal = t.journal := by decide +kernel

/-- R21, R135: a restart sets the record of a conflicted address UNKNOWN; it is held in CONFLICT all the same: READ STATION says so, and
neither a miss nor a good reply moves it. -/
theorem test_conflict_is_held_after_a_restart :
    let s := after .resetLine { site with stationMap := put site.stationMap 1 (some ⟨0, 128, 0⟩) }
    let u := { s with polling := some ⟨6, .nothing⟩ }
    (s.station 6).state = .unknown ∧ heldIn s 6 = .conflict ∧
      answer .works (after (.readStation .works 6) (asked .works (.readStation 6) s)) =
        some (.done, .station .conflict 6 { s.station 6 with state := .conflict }) ∧
      (after .stationMiss u).station 6 = s.station 6 ∧ ((after (.statusReply ⟨6, 0, true, false⟩) u).station 6) = s.station 6 ∧
      Polled u 6 ∧ NothingToJudge u 6 := by
  refine ⟨by decide +kernel, by decide +kernel, by decide +kernel, by decide +kernel, by decide +kernel, by decide +kernel, .inl rfl⟩

theorem test_witness_GoodRepliesAreTaken :
    let s := { site.setStation 6 { Station.initial with decision := some .wait, read := some ⟨9, .answered⟩ } with
      polling := some ⟨6, .decision⟩ }
    s.supply = .normal ∧ s.polling = some ⟨6, .decision⟩ ∧ (0 : LoopAddr) ≠ 6 ∧ Polled s 6 ∧ (s.station 6).read = some ⟨9, .answered⟩ ∧
      (s.station 6).decision ≠ none ∧ (site.station 6).read = none ∧ (site.station 6).state = .unknown ∧ s.evacuating = false ∧
      isEntry 6 = true := by
  decide +kernel

/-- A RELEASE for presence 0, carried to an OFFLINE station; a mode command; and a station in CONFLICT. -/
theorem test_witness_GoodRepliesAreTaken_delivered :
    let s := site.setStation 6 { Station.initial with state := .offline, misses := 3, decision := some (.release 5 50 [0]) }
    let c := { site with stationMap := put site.stationMap 1 (some ⟨0, 128, 0⟩) }
    (s.station 6).decision = some (.release 5 50 [0]) ∧ roomOf s 6 = some 3 ∧ (s.station 6).read = none ∧
      (s.station 6).state = .offline ∧ Polled c 6 ∧ roomOf c 6 = none ∧
      ((c.setStation 6 { Station.initial with state := .conflict }).station 6).state = .conflict ∧
      (s.station 6).mode ≠ some .evacRelease ∧ ({ s with evacuating := true } : State).evacuating = true := by decide +kernel

/-- Room 3's entry or exit station ONLINE, its door as given, with a POLL that carries nothing. -/
def polled (a : LoopAddr) (d : Door) : State :=
  { (site.setStation a { Station.initial with state := .online }).setDoor 3 d with polling := some ⟨a, .nothing⟩ }

theorem test_witness_DoorsFollowTheirReports :
    PlainReply 6 3 ⟨6, 0, true, false⟩ (polled 6 ⟨.released 1, [0], some false, false, false⟩) ∧
      PlainReply 6 3 ⟨6, 0, false, false⟩ (polled 6 ⟨.held, [], some true, false, false⟩) ∧
      PlainReply 6 3 ⟨6, 0, true, false⟩ (polled 6 ⟨.unknown .clear, [], none, false, false⟩) ∧
      PlainReply 7 3 ⟨7, 0, true, false⟩ (polled 7 ⟨.secure, [], some true, false, true⟩) ∧ isEntry 6 = true ∧ isEntry 7 = false ∧
      ((polled 6 ⟨.released 0, [], some false, false, false⟩).door 3).state = .released 0 ∧
      ((polled 6 ⟨.opened 0, [], some true, false, false⟩).door 3).state = .opened 0 ∧
      ({ site with heldEffects := [.tie 3 [0]] } : State).heldEffects = [.tie 3 [0]] ∧ site.turn = none ∧
      running { site with heldEffects := [.tie 3 [0]] } 3 = [0] ∧ running site 3 = [] ∧ (∀ who, (PresenceEffect.opened who).names = who) ∧
      ((polled 7 ⟨.secure, [], some true, true, true⟩).door 3).openingPending = true := by
  refine ⟨by decide +kernel, by decide +kernel, by decide +kernel, by decide +kernel, by decide, by decide, by decide +kernel,
    by decide +kernel, rfl, rfl, by decide +kernel, by decide +kernel, fun _ => rfl, by decide +kernel⟩

theorem test_witness_EvacuationBeginsAndEnds :
    let s := { site with evacuating := true, edgeCount := 255 }
    site.supply = .normal ∧ site.evacuateLine = false ∧ site.evacuating = false ∧ (site.queue .works).notices.length < 32 ∧
      s.evacuating = true ∧ s.evacuateTaken = false ∧ InTurn .security .allClear (granted .security .allClear s) := by decide +kernel

theorem listed_pair (x : PresenceState) : Listed (pair x) := by
  have h : ∀ r, ((pair x).roomState r).list.Nodup ∧ ∀ i ∈ ((pair x).roomState r).list,
      (((pair x).presence i).any fun p => p.room == r) = true := by
    cases x <;> decide +kernel
  refine fun r => ⟨(h r).1, fun i hi => ?_⟩
  have e := (h r).2 i hi
  cases hp : (pair x).presence i with
  | none => simp [hp] at e
  | some p => exact ⟨p, rfl, by simpa [hp] using e⟩

/-- Presence 0 carried on a RELEASE pending at address 6, with no turn in progress and with one. -/
theorem test_witness_EvacuationBeginsAndEnds_carried :
    let s := (pair .arriving).setStation 6 { Station.initial with decision := some (.release 5 50 [0]) }
    Polled s 6 ∧ 0 ∈ carriedOn (s.station 6) ∧ s.presence 0 = some ⟨300455, 40, 3, 13275000, .arriving, false⟩ ∧
      0 ∈ (s.roomState 3).list ∧ s.turn = none ∧ s.heldEffects = [] ∧ (∀ r, 0 ∉ running s r) ∧ (deciding 8 1 s).turn ≠ none ∧
      s.presence 1 = some ⟨410900, 41, 3, 13275000, .arriving, false⟩ ∧ (∀ a, 1 ∉ carriedOn (s.station a)) := by decide +kernel

/-! The sweep and the walks. -/

/-- The sweep's turn at a place. -/
def sweeping (place : SweepPlace) (m : Nat) (full : Bool) (s : State := site) : State :=
  { s with sweep := ⟨some ⟨place, m, full⟩, false, false, 0⟩, turn := some ⟨.sweepStep, s.clock⟩ }

theorem test_witness_SweepStepsOverPermits :
    Sweeping (.permits 255) 13278600 true (sweeping (.permits 255) 13278600 true) ∧
      (sweeping (.permits 255) 0 true).permit 255 = none ∧ Terminal permit5116.standing = false ∧ permit5116.spanEnd ≤ 13278600 ∧
      13275690 < urgent5116.spanEnd ∧ urgent5116.standing = .provisional ∧ urgent5116.graceEnd = some 13275690 := by decide +kernel

theorem test_witness_SweepStepsOverPermits_purge :
    PurgeDue { permit5116 with standing := .ended .closed 0 } 40 1440 true site ∧ ¬ PurgeDue permit5116 40 1440 true site ∧
      ¬ LapseDue permit5116 1440 := by
  have h : ∀ k, ∀ x ∈ site.presence k, x.slot ≠ 40 := by decide +kernel
  refine ⟨⟨rfl, ⟨_, _, rfl, le_refl _⟩, fun k x hx => h k x hx⟩, ?_, ?_⟩
  · rintro ⟨-, ⟨how, t, ht, -⟩, -⟩; cases ht
  · rintro ⟨ht | ⟨_, _, ht⟩, -⟩ <;> cases ht

theorem test_witness_SweepStepsOverPresences :
    let s := sweeping (.presences 127) 13275675 true
    let o := (occupied ⟨300455, 40, 3, 13275670, .inside, false⟩ site).setRoomState 3 ⟨[0], some ⟨0, 13275670, false⟩, false⟩
    Sweeping (.presences 127) 13275675 true s ∧ s.presence 127 = none ∧ Sweeping (.presences 0) 13275675 true (sweeping (.presences 0) 13275675 true o) ∧
      o.presence 0 = some ⟨300455, 40, 3, 13275670, .inside, false⟩ ∧ (o.roomState 3).lone = some ⟨0, 13275670, false⟩ ∧
      13275670 + o.timings.lone ≤ 13275675 ∧ evaluate o permit5116 3 13275720 .overstay = .fails .outOfSlot 4 ∧
      o.permit 40 = some permit5116 := by decide +kernel

/-- A walk's turn at a slot. -/
def walking (k : WalkKind) (r : Request) (i : SlotNo) : State :=
  let s := { site with walk := some ⟨k, 212, i, 1⟩, turn := some ⟨.walkStep, site.clock⟩ }
  s.setPort .security { s.port .security with inFlight := some ⟨r, .walking⟩ }

theorem test_witness_FirmWalksStepThroughTheTable :
    Walking (.suspend 7) 212 40 1 (walking (.suspend 7) (.suspendFirm 212 7) 40) ∧
      Walking .resume 212 255 1 (walking .resume (.resumeFirm 212) 255) ∧
      ((walking .resume (.resumeFirm 212) 255).port .security).inFlight = some ⟨.resumeFirm 212, .walking⟩ ∧
      (walking .resume (.resumeFirm 212) 255).permit 255 = none ∧ permit5116.firm = 212 ∧ permit5116.standing = .active ∧
      Handed .security (.suspendFirm 999 1) (asked .security (.suspendFirm 999 1)) ∧
      Handed .security (.resumeFirm 1) (asked .security (.resumeFirm 1)) := by decide +kernel

/-! Notices, the journal and the counters. -/

theorem test_witness_NoticesAreQueuedByLevel :
    fullQueue.supply = .normal ∧ (fullQueue.queue .security).notices.length = 32 ∧ (site.queue .security).notices.length < 32 ∧
      (∀ m ∈ (fullQueue.queue .security).notices, (notice .clockSet).level ≤ m.level) ∧ (notice .evacuation).level ≤ 7 := by
  decide +kernel

theorem test_witness_NoticesAreQueuedByLevel_displaced :
    Displaced (fullQueue.queue .security) 6 ([notice .tamper, notice .loneWorker] ++ List.replicate 10 (notice .review))
      (notice .exitUnmatched) (List.replicate 19 (notice .exitUnmatched)) :=
  ⟨by decide +kernel, by decide +kernel, by decide +kernel, by decide +kernel⟩

theorem test_witness_NoticesAreTakenAndLinesDriven :
    Foremost (fullQueue.queue .security) [] (notice .tamper)
      (notice .loneWorker :: (List.replicate 10 (notice .review) ++ List.replicate 20 (notice .exitUnmatched))) ∧
    Handed .security .takeNotice (asked .security .takeNotice fullQueue) ∧ (site.queue .works).notices = [] ∧
    Handed .works (.setNoticeMask 255) (asked .works (.setNoticeMask 255)) ∧
    Handed .works (.setAttentionMode 1) (asked .works (.setAttentionMode 1)) ∧ (site.port .works).mode = .level :=
  ⟨⟨by decide +kernel, by decide +kernel, by decide +kernel⟩, by decide +kernel, by decide +kernel, by decide +kernel, by decide +kernel, rfl⟩

theorem test_witness_LevelSevenNoticesStay :
    (notice .evacuation).level = 7 ∧ Goes (exec .supplyFall site) ∧ Instr.supplyFall ≠ .takeNotice .works ∧
      (site.port .works).inFlight ≠ some ⟨.takeNotice, .handed⟩ := ⟨rfl, ⟨_, rfl⟩, by decide, by decide +kernel⟩

theorem test_witness_JournalIsWrittenAndRead :
    Handed .works (.readJournal 9701 10) (asked .works (.readJournal 9701 10) longJournal) ∧ longJournal.journal.length = 512 ∧
      (longJournal.nextSequence - 9701).toNat = 599 ∧ (longJournal.nextSequence - 9788).toNat = 512 ∧
      (longJournal.nextSequence - 10299).toNat = 1 ∧ (longJournal.nextSequence - 10300).toNat = 0 ∧
      2 ^ 31 < (longJournal.nextSequence - 10305).toNat ∧ (longJournal.nextSequence - (10300 - 0x80000000)).toNat = 2 ^ 31 ∧
      site.journal.length < 512 := by decide +kernel

theorem test_witness_CountersAddAndAreSet :
    let b : CounterBody := ⟨7, 2, 17, 63, 1, 0xFFFFFFFF⟩
    let k : Counter := ⟨.denialOf .noEscort, some 63, true, 0xFFFFFFFF, false⟩
    Handed .security (.setCounter b) (asked .security (.setCounter b)) ∧ b.number = (7 : CounterNo).val ∧
      (Link.security = .works ↔ (7 : CounterNo).val ≤ 3) ∧ b.filter ≤ 63 ∧ b.notify ≤ 1 ∧ Reason.noEscort.code = b.reason ∧
      Handed .works (.readCounter (3 : CounterNo).val) (asked .works (.readCounter 3)) ∧
      k.select.names (.denial .noEscort) = true ∧ selects[12]? = some (some .off) := by decide +kernel

theorem test_witness_CountersAddAndAreSet_selected :
    Selected ⟨.denialOf .noEscort, some 63, true, 0xFFFFFFFF, false⟩ (.denial .noEscort) (some 63) ∧
      ¬ Selected ⟨.off, none, false, 0, false⟩ .grants none :=
  ⟨⟨.denialOf _, .inr rfl⟩, fun h => nomatch h.1⟩

/-- Just counter 7 passes its top. -/
theorem test_witness_CountersAddAndAreSet_past (c : CounterNo) :
    let s := { site with counters := put site.counters 7 ⟨.denials, none, true, 0xFFFFFFFF, false⟩ }
    decide (c = 7) = true ↔ Selected (look s.counters c) (.denial .over) none ∧ (look s.counters c).notify = true ∧
      (look s.counters c).sticky = false ∧ 2 ^ 32 ≤ (look s.counters c).value.toNat + 1 := by
  have h : ∀ c : CounterNo, c ≠ 7 → (look (put site.counters 7 ⟨.denials, none, true, 0xFFFFFFFF, false⟩) c).notify = false := by
    decide +kernel
  constructor
  · intro hc
    obtain rfl : c = 7 := by simpa using hc
    exact ⟨⟨.denials _, .inl rfl⟩, by decide +kernel, by decide +kernel, by decide +kernel⟩
  · rintro ⟨-, hn, -⟩
    by_contra hc
    have : c ≠ 7 := by simpa using hc
    rw [h c this] at hn
    cases hn

/-! Resets and the laws. -/

theorem atRest_of_idle (s : State) (h : s.turn = none ∧ s.heldEffects = [] ∧ (s.port .works).inFlight = none ∧
    (s.port .security).inFlight = none) : AtRest s := by
  refine ⟨⟨h.1, h.2.1⟩, ?_⟩
  rintro (_ | _) r hr
  · rw [h.2.2.1] at hr; cases hr
  · rw [h.2.2.2] at hr; cases hr

theorem test_witness_SupplyFallsAndReturns :
    let s := { fullQueue with supply := .backup, backupMinutes := 65535, restartDue := true }
    fullQueue.supply = .normal ∧ AtRest fullQueue ∧ Listed (pair .leaving) ∧ s.supply = .backup ∧ s.backupMinutes ≤ 65535 ∧
      s.journal.length < 500 ∧ (s.queue .works).notices.length < 31 ∧ (s.port .works).mode = .level ∧
      ({ s.port .security with mode := .pulse } : Port).mode = .pulse :=
  ⟨rfl, atRest_of_idle _ (by decide +kernel), listed_pair _, rfl, by decide, by decide, by decide, rfl, rfl⟩

/-- A port whose reply to RESTART waits to be sent. -/
def restarting : State :=
  fullQueue.setPort .security
    { fullQueue.port .security with inFlight := some ⟨.restart, .answered⟩, transmit := [⟨39, .done, .nothing, true⟩] }

theorem test_witness_RestartsFollowTheirTable :
    restarting.supply = .normal ∧ Unturned restarting ∧ restarting.journal.length < 500 ∧ RestartReplied .security restarting ∧
      RestartReplied .security (deciding 6 300455 restarting) ∧ Unturned { site with supply := .backup } ∧ Listed (pair .leaving) :=
  ⟨rfl, ⟨rfl, rfl⟩, by decide, ⟨rfl, _, _, rfl, rfl⟩, ⟨rfl, _, _, rfl, rfl⟩, ⟨rfl, rfl⟩, listed_pair _⟩

theorem test_witness_EveryCommandKeepsTheCoreSound :
    site.clock.inRange = true ∧ site.mark.inRange = true ∧ clampTimings site.timings = site.timings ∧ EvacuationSound site ∧
      SweepSound site ∧ BackupSound site :=
  ⟨by decide, by decide, by decide, ⟨by decide, by decide, by decide⟩, ⟨by decide, by decide, by decide, by decide⟩,
    fun h => nomatch h⟩

theorem test_witness_EveryCommandKeepsReportsSound :
    (∀ l, QueueSound (fullQueue.queue l)) ∧ longJournal.journal.length ≤ Config.journalCapacity ∧ PortsSound site ∧
      AttentionSound fullQueue := by
  refine ⟨?_, by decide +kernel, ?_, ?_⟩
  · rintro (_ | _) <;> exact ⟨by decide +kernel, by decide +kernel⟩
  · rintro (_ | _) <;> exact ⟨by decide +kernel, by decide +kernel, by decide +kernel⟩
  · rintro (_ | _) <;> exact ⟨(fun h => nomatch h), fun _ _ => by decide +kernel⟩

theorem test_witness_EveryCommandKeepsTablesWithinBounds :
    NumbersDistinct site ∧ liveOrHeldOf site 300455 ≤ Config.badgeLimit ∧ RoomsWithinMaximum site ∧ RequestsOwned site := by
  refine ⟨?_, by decide +kernel, ?_, ?_⟩
  · have h : ∀ i, ∀ p ∈ site.permit i, i = 40 := by decide +kernel
    intro i j p q hp hq _
    rw [h i p hp, h j q hq]
  · have h : ∀ r, roomCount site r = 0 := by decide +kernel
    intro r c _
    rw [h r]; exact Nat.zero_le _
  · rintro (_ | _) f h <;> cases h

/-- Two presences of two badges, and a hold for a third, each on a live permit. -/
theorem test_witness_EveryCommandKeepsBadgesApart :
    BadgeOnce waiting ∧ SlotsReferred waiting := by
  have hp : ∀ i, waiting.presence i = none := by decide +kernel
  have hh : ∀ r, ∀ h ∈ waiting.hold r, r = 3 ∧ h.slot = 40 ∧ h.badge = 300455 := by decide +kernel
  refine ⟨⟨?_, ?_, ?_⟩, ⟨?_, ?_⟩⟩
  · intro i j p q h; rw [hp] at h; cases h
  · intro r q h k hr hq _; rw [(hh r h hr).1, (hh q k hq).1]
  · intro r h i p _ h'; rw [hp] at h'; cases h'
  · intro i p h; rw [hp] at h; cases h
  · intro r h hr
    obtain ⟨-, hs, hb⟩ := hh r h hr
    exact ⟨permit5116, by rw [hs]; decide +kernel, hb.symm, rfl⟩

end Sys2Proof.Tests
end

section
/-! SUPPORT. What the part's work can do to the state, said once. `Works` is the relation generated by the updates of the tables,
the posting of notices, the writing of records and the answering of requests; nearly every function of the model stays within it, and
the laws on the clock, the queues, the journal, the ports and the lines are then proved by induction on it. -/

namespace Sys2Proof.Machine

/-- The clock, its settings, the supply, the evacuation state and the sweep are as they were. -/
structure SameCore (s t : State) : Prop where
  clock : t.clock = s.clock := by rfl
  mark : t.mark = s.mark := by rfl
  supply : t.supply = s.supply := by rfl
  backupMinutes : t.backupMinutes = s.backupMinutes := by rfl
  timings : t.timings = s.timings := by rfl
  evacuating : t.evacuating = s.evacuating := by rfl
  edgeCount : t.edgeCount = s.edgeCount := by rfl
  evacuateTaken : t.evacuateTaken = s.evacuateTaken := by rfl
  sweep : t.sweep = s.sweep := by rfl

/-- The notices, the journal, the ports and the supply are as they were. -/
structure SameReports (s t : State) : Prop where
  supply : t.supply = s.supply := by rfl
  notices : t.notices = s.notices := by rfl
  journal : t.journal = s.journal := by rfl
  nextSequence : t.nextSequence = s.nextSequence := by rfl
  ports : t.ports = s.ports := by rfl

/-- What the work on requests makes of a port: the mask, the mode and the line stay, a sound port stays sound, and no request comes
to be handed over. -/
structure PortStep (p q : Port) : Prop where
  mask : q.mask = p.mask
  mode : q.mode = p.mode
  attention : q.attention = p.attention
  sound : PortSound p → PortSound q
  handed : ∀ r, q.inFlight = some ⟨r, .handed⟩ → p.inFlight = some ⟨r, .handed⟩

/-- The part's work: tables updated, notices posted, records written, and requests brought on. -/
inductive Works : State → State → Prop where
  | aside {s t : State} (c : SameCore s t) (r : SameReports s t) : Works s t
  | post (b : NoticeBody) (s : State) : Works s (post b s)
  | journal (b : JournalBody) (s : State) : Works s (writeJournal b s)
  | port (l : Link) (q : Port) (s : State) (h : PortStep (s.port l) q) : Works s (s.setPort l q)
  | trans {s t u : State} (h : Works s t) (k : Works t u) : Works s u

namespace Works

theorem refl (s : State) : Works s s := .aside {} {}

theorem then_aside {s t u : State} (h : Works s t) (c : SameCore t u := by exact {}) (r : SameReports t u := by exact {}) :
    Works s u := h.trans (.aside c r)

theorem then_foldl {α : Type} {f : State → α → State} {s : State} (hf : ∀ t x, Works s t → Works s (f t x)) (l : List α)
    {t : State} (h : Works s t) : Works s (l.foldl f t) := by
  induction l generalizing t with
  | nil => exact h
  | cons x l ih => exact ih (hf t x h)

theorem then_foldl_pair {α β : Type} {f : State × β → α → State × β} {s : State}
    (hf : ∀ x a, Works s x.1 → Works s (f x a).1) (l : List α) {x : State × β} (h : Works s x.1) : Works s (l.foldl f x).1 := by
  induction l generalizing x with
  | nil => exact h
  | cons a l ih => exact ih (hf x a h)

variable {s t : State}

/-! ### Updates of one record -/

theorem then_setStation {a : LoopAddr} {x : Station} (h : Works s t) : Works s (t.setStation a x) := h.then_aside

theorem then_setDoor {r : RoomNo} {x : Door} (h : Works s t) : Works s (t.setDoor r x) := h.then_aside

theorem then_setPermit {i : SlotNo} {x : Option Permit} (h : Works s t) : Works s (t.setPermit i x) := h.then_aside

theorem then_setPresence {i : PoolIx} {x : Option Presence} (h : Works s t) : Works s (t.setPresence i x) := h.then_aside

theorem then_setRoomState {r : RoomNo} {x : RoomOccupancy} (h : Works s t) : Works s (t.setRoomState r x) := h.then_aside

theorem then_setHold {r : RoomNo} {x : Option Hold} (h : Works s t) : Works s (t.setHold r x) := h.then_aside

/-! ### Notices, journal, counters, replies -/

theorem then_post {b : NoticeBody} (h : Works s t) : Works s (Machine.post b t) := h.trans (.post b t)

theorem then_writeJournal {b : JournalBody} (h : Works s t) : Works s (writeJournal b t) := h.trans (.journal b t)

theorem then_addToCounter {c : CounterNo} {n : Nat} (h : Works s t) : Works s (addToCounter c n t) := by
  unfold addToCounter
  dsimp only
  split
  · exact h.then_aside
  · split
    · exact .then_post h.then_aside
    · exact h.then_aside

theorem then_report {e : CountEvent} {room : Option RoomNo} {n : Nat} (h : Works s t) : Works s (report e room n t) := by
  unfold report
  split
  · exact h
  · refine then_foldl (fun u c hu => ?_) _ h
    dsimp only
    split
    · exact hu.then_addToCounter
    · exact hu

theorem then_countOccupancyMinutes (h : Works s t) : Works s (countOccupancyMinutes t) := by
  refine then_foldl (fun u c hu => ?_) _ h
  dsimp only
  split
  · exact hu.then_addToCounter
  · exact hu

end Works

/-- R176: a reply's port keeps its line, stays sound and has nothing newly handed over. -/
theorem replied_portStep (p : Port) (r : Request) (g : Stage) (st : Status) (c : ReplyContent) (h : p.inFlight = some ⟨r, g⟩)
    (hg : g ≠ .answered) :
    PortStep p { p with
      inFlight := some ⟨r, .answered⟩
      transmit := p.transmit.take (Config.transmitCapacity - 1) ++ [⟨r.code, st, c, true⟩] } := by
  refine ⟨rfl, rfl, rfl, fun ⟨hmask, hlen, hcount⟩ => ⟨hmask, ?_, ?_⟩, fun r' h' => by simp at h'⟩
  · simp only [List.length_append, List.length_take, List.length_singleton, Config.transmitCapacity]
    omega
  · have hnone : p.transmit.filter (·.answers) = [] := by
      rw [h] at hcount
      simpa [hg] using hcount
    have htake : (p.transmit.take (Config.transmitCapacity - 1)).filter (·.answers) = [] :=
      List.sublist_nil.mp (hnone ▸ (List.take_sublist _ _).filter _)
    simp [List.filter_append, htake]

/-- R145: so does the port of a request that comes to walk the table. -/
theorem walking_portStep (p : Port) (r : Request) (h : p.inFlight = some ⟨r, .handed⟩) :
    PortStep p { p with inFlight := p.inFlight.map fun f => { f with stage := .walking } } := by
  refine ⟨rfl, rfl, rfl, fun ⟨hmask, hlen, hcount⟩ => ⟨hmask, hlen, ?_⟩, fun r' h' => by simp [h] at h'⟩
  simpa [h] using hcount

namespace Works

variable {s t : State}

theorem then_reply {l : Link} {st : Status} {c : ReplyContent} (h : Works s t) : Works s (reply l st c t) := by
  unfold reply
  dsimp only
  split
  · exact h
  · exact h
  · next r g hg hf => exact h.trans (.port l _ t (replied_portStep _ r g st c hf (fun e => hg (by rw [e]))))

theorem then_checked {l : Link} {checks : List (Bool × Status)} {f : State → State} (h : Works s t) (hf : Works s (f t)) :
    Works s (checked l checks f t) := by
  unfold checked
  split
  · exact h.then_reply
  · exact hf

/-! ### Occupancy -/

theorem then_uncarry {who : List PoolIx} (h : Works s t) : Works s (uncarry who t) := h.then_aside

theorem then_addPresence {p : Presence} (h : Works s t) : Works s (addPresence p t).1 := by
  unfold addPresence
  split
  · exact h
  · exact h.then_setPresence.then_setRoomState

theorem then_removePresence {i : PoolIx} (h : Works s t) : Works s (removePresence i t) := by
  unfold removePresence
  split
  · exact h
  · exact h.then_setPresence.then_setRoomState.then_uncarry

theorem then_setPresenceState {i : PoolIx} {x : PresenceState} (h : Works s t) : Works s (setPresenceState i x t) := by
  unfold setPresenceState
  split
  · exact h
  · exact h.then_setPresence

theorem then_refreshRoom {r : RoomNo} (h : Works s t) : Works s (refreshRoom r t) := h.then_setRoomState

theorem then_escortCheck {r : RoomNo} {gone : List Nat} (h : Works s t) : Works s (escortCheck r gone t) := by
  unfold escortCheck
  dsimp only
  split
  · exact h
  · refine .then_writeJournal (.then_post ?_)
    split
    · exact h
    · exact h.then_aside

theorem then_reexamine {r : RoomNo} {gone : List Nat} (h : Works s t) : Works s (reexamine r gone t) :=
  h.then_refreshRoom.then_escortCheck

theorem then_resolveOpened {i : PoolIx} {x : State × List Nat} (h : Works s x.1) : Works s (resolveOpened i x).1 := by
  unfold resolveOpened
  split
  · exact h
  · dsimp only
    split
    · exact h.then_setPresenceState.then_writeJournal.then_report
    · exact h.then_removePresence.then_writeJournal.then_report
    · exact h
    · exact h

theorem then_resolveUnused {i : PoolIx} {x : State × List Nat} (h : Works s x.1) : Works s (resolveUnused i x).1 := by
  unfold resolveUnused
  split
  · exact h
  · dsimp only
    split
    · exact h.then_removePresence.then_writeJournal
    · exact h.then_setPresenceState.then_writeJournal
    · exact h
    · exact h

theorem then_resolve {one : PoolIx → State × List Nat → State × List Nat} {who : List PoolIx}
    (ho : ∀ i x, Works s x.1 → Works s (one i x).1) (h : Works s t) : Works s (resolve one who t) :=
  then_foldl (fun _ _ hu => (then_foldl_pair (fun x i => ho i x) _ hu).then_reexamine) _ h.then_uncarry

theorem then_applyEffect {e : PresenceEffect} (h : Works s t) : Works s (applyEffect e t) := by
  cases e with
  | tie r who => exact h.then_uncarry.then_setDoor
  | opened who => exact h.then_resolve fun _ _ => then_resolveOpened
  | unused who => exact h.then_resolve fun _ _ => then_resolveUnused
  | drop who => exact h.then_uncarry

theorem then_reportEffect {e : PresenceEffect} (h : Works s t) : Works s (reportEffect e t) := by
  unfold reportEffect
  split
  · exact h
  · split
    · exact h.then_aside
    · exact h.then_applyEffect

theorem then_handOver {f : List PoolIx → PresenceEffect} {r : RoomNo} (h : Works s t) : Works s (handOver f r t) := by
  unfold handOver
  dsimp only
  split
  · exact h
  · exact h.then_uncarry.then_reportEffect

theorem then_untie {r : RoomNo} (h : Works s t) : Works s (untie r t) := by
  unfold untie
  dsimp only
  split
  · exact h
  · exact h.then_uncarry

theorem then_effect {own : Bool} {e : PresenceEffect} (h : Works s t) : Works s (effect own e t) := by
  unfold effect
  split
  · exact h.then_applyEffect
  · exact h.then_reportEffect

theorem then_drainHeld {k : Nat} (h : Works s t) : Works s (drainHeld k t) := by
  induction k generalizing t with
  | zero => exact h
  | succ k ih =>
    unfold drainHeld
    split
    · exact h
    · exact ih (then_applyEffect h.then_aside)

/-! ### Turns -/

theorem then_grantNext (h : Works s t) : Works s (grantNext t) := by
  unfold grantNext
  repeat' split
  all_goals first | exact h | exact h.then_aside

theorem then_endTurn (h : Works s t) : Works s (endTurn t) := then_grantNext h.then_aside

/-! ### Loop and doors -/

theorem then_loseCarried {a : LoopAddr} {c : Carried} (h : Works s t) : Works s (loseCarried a c t) := by
  unfold loseCarried
  split
  · split
    · exact h.then_aside
    · exact h
  · exact h

theorem then_loseCommand {own : Bool} {c : Option DecisionCommand} (h : Works s t) : Works s (loseCommand own c t) := by
  unfold loseCommand
  split
  · exact h.then_effect
  · exact h

theorem then_queueDecision {own : Bool} {a : LoopAddr} {c : DecisionCommand} (h : Works s t) :
    Works s (queueDecision own a c t) := h.then_setStation.then_loseCarried.then_loseCommand

theorem then_clearRead {a : LoopAddr} (h : Works s t) : Works s (clearRead a t) := by
  unfold clearRead
  dsimp only
  split
  · exact h
  · exact h.then_setStation
  · split
    · split
      · exact h.then_aside
      · exact h.then_aside
    · exact h.then_aside

theorem then_discardDecision {own : Bool} {a : LoopAddr} (h : Works s t) : Works s (discardDecision own a t) :=
  h.then_setStation.then_loseCarried.then_loseCommand

theorem then_queueMode {own : Bool} {m : ModeCommand} {a : LoopAddr} (h : Works s t) : Works s (queueMode own m a t) := by
  unfold queueMode
  dsimp only
  split
  · exact h.then_setStation.then_loseCarried.then_discardDecision.then_clearRead
  · exact h.then_setStation.then_loseCarried

theorem then_queueModeEverywhere {own : Bool} {m : ModeCommand} (h : Works s t) : Works s (queueModeEverywhere own m t) :=
  then_foldl (fun _ _ => then_queueMode) _ h

theorem then_cancelHold {a : Option LoopAddr} {why : Option Reason} {r : RoomNo} (h : Works s t) :
    Works s (cancelHold a why t r) := by
  unfold cancelHold
  split
  · exact h
  · exact h.then_setHold.then_writeJournal

theorem then_refuseAtEntry {own : Bool} {r : RoomNo} {why : Reason} (h : Works s t) : Works s (refuseAtEntry own r why t) := by
  unfold refuseAtEntry
  split
  · exact h.then_queueDecision
  · exact h

theorem then_retestHolds {i : SlotNo} {badge : Nat} (h : Works s t) : Works s (retestHolds i badge t) := by
  refine then_foldl (fun u r hu => ?_) _ h
  unfold retestHold
  split
  · exact hu
  · split
    · split
      · exact hu
      · exact hu.then_setHold.then_refuseAtEntry.then_writeJournal.then_report
    · exact hu

theorem then_loseDoor {r : RoomNo} (h : Works s t) : Works s (loseDoor r t) := by
  unfold loseDoor
  split
  · exact h
  · exact h.then_setDoor.then_handOver

theorem then_deliverRelease {r : RoomNo} {seconds : Nat} {carries : List PoolIx} (h : Works s t) :
    Works s (deliverRelease r seconds carries t) := by
  unfold deliverRelease
  dsimp only
  split
  · exact h.then_setDoor.then_reportEffect
  · exact h.then_setDoor.then_reportEffect
  all_goals exact h.then_reportEffect

theorem then_holdDoor {r : RoomNo} (h : Works s t) : Works s (holdDoor r t) :=
  h.then_setDoor.then_post.then_writeJournal.then_report

theorem then_contactReport {r : RoomNo} {isOpen : Bool} (h : Works s t) : Works s (contactReport r isOpen t) := by
  unfold contactReport
  dsimp only
  split
  case h_2 => exact h.then_setDoor.then_holdDoor
  case h_4 => exact h.then_setDoor.then_handOver
  all_goals exact h.then_setDoor

theorem then_judgeOpening {r : RoomNo} {bar : Bool} (h : Works s t) : Works s (judgeOpening r bar t) := by
  unfold judgeOpening
  dsimp only
  split
  · exact h
  · split
    · exact h.then_setDoor.then_setDoor.then_post.then_writeJournal.then_report.then_setRoomState
    · exact h.then_setDoor.then_setDoor.then_post.then_writeJournal.then_report

theorem then_loseEntryStation {a : LoopAddr} {r : RoomNo} (h : Works s t) : Works s (loseEntryStation a r t) :=
  h.then_loseDoor.then_cancelHold

theorem then_goOffline {a : LoopAddr} (h : Works s t) : Works s (goOffline a t) := by
  unfold goOffline
  dsimp only
  repeat' split
  on_goal 1 => refine then_loseEntryStation ?_
  all_goals exact h.then_setStation.then_report.then_post.then_writeJournal.then_discardDecision.then_clearRead

theorem then_countMiss {a : LoopAddr} (h : Works s t) : Works s (countMiss a t) := by
  unfold countMiss
  dsimp only
  split
  · exact h
  · exact h
  all_goals
    split
    · exact h.then_setStation.then_report
    · exact h.then_goOffline

theorem then_comeOnline {a : LoopAddr} (h : Works s t) : Works s (comeOnline a t) := by
  have alarm : ∀ u, Works s u →
      Works s (if u.evacuating && (u.station a).mode != some .evacRelease then queueMode false .evacRelease a u else u) := by
    intro u hu
    split
    · exact hu.then_queueMode
    · exact hu
  unfold comeOnline
  dsimp only
  split
  · exact h
  · exact h.then_setStation
  · exact alarm _ h.then_setStation
  · exact alarm _ h.then_setStation.then_post.then_writeJournal

theorem then_tamperReport {a : LoopAddr} {isSet : Bool} (h : Works s t) : Works s (tamperReport a isSet t) := by
  unfold tamperReport
  dsimp only
  split
  · exact h.then_setStation.then_post
  · exact h.then_setStation

theorem then_offerRead {a : LoopAddr} {badge : Nat} (h : Works s t) : Works s (offerRead a badge t) := by
  unfold offerRead
  dsimp only
  split
  · exact h
  · exact then_grantNext (then_aside h)

/-! ### Replies of the loop -/

theorem then_deliver {a : LoopAddr} {c : Carried} (h : Works s t) : Works s (deliver a c t) := by
  unfold deliver
  dsimp only
  split
  · exact h
  · exact h.then_setStation
  · split
    · exact h
    · split
      · exact h.then_setStation.then_clearRead.then_deliverRelease
      · exact h.then_setStation.then_clearRead

theorem then_judgeAt {a : LoopAddr} {bar : Bool} (h : Works s t) : Works s (judgeAt a bar t) := by
  unfold judgeAt
  split
  · split
    · exact h
    · exact h.then_judgeOpening
  · exact h

theorem then_doorReport {a : LoopAddr} {isSet judged : Bool} (h : Works s t) : Works s (doorReport a isSet judged t) := by
  unfold doorReport
  split
  · split
    · exact h.then_contactReport
    · exact h.then_setDoor
  · exact h

theorem then_takeReply {a : LoopAddr} {c : Carried} {r : StatusReport} (h : Works s t) : Works s (takeReply a c r t) :=
  h.then_judgeAt.then_deliver.then_comeOnline.then_tamperReport.then_doorReport.then_offerRead

theorem then_takeMiss {a : LoopAddr} (h : Works s t) : Works s (takeMiss a t) := h.then_judgeAt.then_countMiss

/-! ### Decisions -/

theorem then_deny {a : LoopAddr} {room : Option RoomNo} {badge : Nat} {why : Reason} {permit : Option Nat} (h : Works s t) :
    Works s (deny a room badge why permit t) := h.then_queueDecision.then_writeJournal.then_report

theorem then_withPermit {a : LoopAddr} {r : RoomNo} {badge : Nat} {go : Chosen → State → State}
    (hgo : ∀ c, Works s (go c t)) (h : Works s t) : Works s (withPermit a r badge go t) := by
  unfold withPermit
  dsimp only
  split
  · exact hgo _
  · split
    · exact h.then_deny
    · exact h.then_deny

theorem then_passback {a : LoopAddr} {r : RoomNo} {badge : Nat} {here : PoolIx → Presence → State → State} {go : State → State}
    (hh : ∀ i p, Works s (here i p t)) (hgo : ∀ u, Works s u → Works s (go u)) (h : Works s t) :
    Works s (passback a r badge here go t) := by
  unfold passback
  split
  · split
    · exact h.then_deny
    · exact hgo _ h
  · split
    · exact hgo _ h
    · split
      · exact hh _ _
      · split
        · exact hgo _ h.then_removePresence.then_writeJournal.then_reexamine
        · exact h.then_deny

theorem then_repeatArriving {a : LoopAddr} {r : RoomNo} {c : Chosen} (h : Works s t) : Works s (repeatArriving a r c t) := by
  unfold repeatArriving
  split
  · exact h.then_queueDecision
  · exact then_queueDecision h.then_aside

theorem then_reEnter {a : LoopAddr} {r : RoomNo} {badge : Nat} {c : Chosen} {i : PoolIx} {p : Presence} (h : Works s t) :
    Works s (reEnter a r badge c i p t) :=
  h.then_uncarry.then_setPresence.then_queueDecision.then_writeJournal.then_report.then_reexamine

theorem then_admitOrHold {a : LoopAddr} {r : RoomNo} {badge : Nat} {c : Chosen} (h : Works s t) :
    Works s (admitOrHold a r badge c t) := by
  unfold admitOrHold
  split
  · split
    · exact h.then_deny
    · exact h.then_addPresence.then_queueDecision.then_writeJournal.then_report.then_reexamine
  · split
    · exact h.then_deny
    · exact h.then_setHold.then_queueDecision.then_writeJournal

theorem then_decideOpen {a : LoopAddr} {r : RoomNo} {badge : Nat} (h : Works s t) : Works s (decideOpen a r badge t) := by
  refine h.then_withPermit fun c => h.then_passback (fun i p => ?_) fun _ => then_admitOrHold
  split
  · exact h.then_repeatArriving
  · exact h.then_reEnter

theorem then_testPair {a : LoopAddr} {r : RoomNo} {k : Hold} {badge : Nat} {c : Chosen} (h : Works s t) :
    Works s (testPair a r k badge c t) := by
  unfold testPair
  split
  · exact h.then_deny
  · split
    · exact h.then_deny
    · exact h.then_setHold.then_addPresence.then_addPresence.then_queueDecision.then_writeJournal.then_writeJournal.then_report
        |>.then_reexamine

theorem then_decidePartner {a : LoopAddr} {r : RoomNo} {k : Hold} {badge : Nat} (h : Works s t) :
    Works s (decidePartner a r k badge t) := by
  unfold decidePartner
  split
  · exact h.then_queueDecision
  · split
    · exact h.then_withPermit fun c => h.then_repeatArriving
    · exact h.then_deny
    · exact h.then_withPermit fun c => h.then_passback (fun _ _ => h.then_deny) fun _ => then_testPair

theorem then_decideEntry {a : LoopAddr} {badge : Nat} (h : Works s t) : Works s (decideEntry a badge t) := by
  unfold decideEntry
  split
  · exact h
  · exact h.then_deny
  · exact h.then_deny
  · split
    · exact h.then_deny
    · split
      · exact h.then_deny
      · split
        · exact h.then_decidePartner
        · exact h.then_decideOpen

theorem then_unmatched {a : LoopAddr} {room : Option RoomNo} {badge : Nat} {why : Option Reason} (h : Works s t) :
    Works s (unmatched a room badge why t) := h.then_writeJournal.then_post

theorem then_leave {a : LoopAddr} {r : RoomNo} {i : PoolIx} (h : Works s t) : Works s (leave a r i t) :=
  h.then_uncarry.then_setPresenceState.then_queueDecision.then_reexamine

theorem then_mismatch {a : LoopAddr} {r : RoomNo} {i : PoolIx} {p : Presence} (h : Works s t) : Works s (mismatch a r i p t) :=
  h.then_removePresence.then_queueDecision.then_writeJournal.then_post.then_reexamine.then_reexamine

theorem then_decideExit {a : LoopAddr} {badge : Nat} (h : Works s t) : Works s (decideExit a badge t) := by
  unfold decideExit
  split
  · exact h
  · exact h.then_queueDecision.then_unmatched
  · exact h.then_queueDecision.then_unmatched
  · split
    · exact h.then_queueDecision.then_unmatched
    · split
      · exact h
      · split
        · exact h.then_leave
        · exact h.then_mismatch

theorem then_serveDecision {rd : Read} {clearAfter : Bool} (h : Works s t) : Works s (serveDecision rd clearAfter t) := by
  have hend : ∀ u, Works s u → Works s (endRead rd.address clearAfter u) := by
    intro u hu
    unfold endRead
    dsimp only
    split
    · exact hu.then_setStation
    · exact hu.then_setStation
  refine hend _ ?_
  split
  · exact h.then_decideEntry
  · exact h.then_decideExit

theorem then_closeHold {r : RoomNo} {k : Hold} (h : Works s t) : Works s (closeHold r k t) :=
  h.then_setHold.then_refuseAtEntry.then_writeJournal.then_report.then_report

/-! ### The layout's requests -/

theorem then_acceptWriteRoom {l : Link} {b : RoomBody} (h : Works s t) : Works s (acceptWriteRoom l b t) := by
  unfold acceptWriteRoom
  split
  · exact h
  · exact .then_reply (.then_writeJournal h.then_aside)

theorem then_discardAll {a : LoopAddr} (h : Works s t) : Works s (discardAll a t) :=
  h.then_clearRead.then_discardDecision.then_setStation.then_loseCarried

theorem then_leaveOrder {a : LoopAddr} (h : Works s t) : Works s (leaveOrder a t) := by
  unfold leaveOrder
  split
  · exact h.then_aside
  · exact h

theorem then_addressChanges {before after : MapOutcome} {a : LoopAddr} (h : Works s t) :
    Works s (addressChanges before after a t) := by
  unfold addressChanges
  split
  · exact h
  · split
    · exact h.then_discardAll.then_setStation.then_leaveOrder
    · exact h.then_discardAll.then_setStation
    · exact h.then_setStation
    · exact h.then_setStation
    · split
      · exact h
      · exact h.then_loseCommand

theorem then_entryChanges {before after : MapOutcome} {a : LoopAddr} (h : Works s t) :
    Works s (entryChanges before after a t) := by
  unfold entryChanges
  split
  · split
    · exact h.then_loseEntryStation
    · exact h
  · exact h

theorem then_acceptWriteMap {l : Link} {b : MapBody} (h : Works s t) : Works s (acceptWriteMap l b t) :=
  .then_reply (then_foldl (fun _ _ hu => hu.then_addressChanges.then_entryChanges) _ (.then_writeJournal h.then_aside))

theorem then_acceptSetFreeze {l : Link} {b : FreezeBody} (h : Works s t) : Works s (acceptSetFreeze l b t) := by
  unfold acceptSetFreeze
  split
  · exact h
  · exact .then_reply (.then_writeJournal h.then_aside)

theorem then_acceptClearFreeze {l : Link} {e : Nat} (h : Works s t) : Works s (acceptClearFreeze l e t) := by
  unfold acceptClearFreeze
  split
  · exact h
  · exact .then_reply (.then_writeJournal h.then_aside)

theorem then_serveLockConfiguration {l : Link} (h : Works s t) : Works s (serveLockConfiguration l t) := by
  refine .then_reply ?_
  split
  · exact h
  · exact .then_writeJournal h.then_aside

theorem then_serveReadRoom {l : Link} {n : Nat} (h : Works s t) : Works s (serveReadRoom l n t) := by
  unfold serveReadRoom
  split <;> exact h.then_reply

/-! ### Permits -/

theorem then_changePermit {i : SlotNo} {old : PermitState} {p : Permit} {source : Source} (h : Works s t) :
    Works s (changePermit i old p source t) := h.then_setPermit.then_writeJournal

theorem then_vacate {i : SlotNo} {p : Permit} {source : Source} (h : Works s t) : Works s (vacate i p source t) :=
  h.then_setPermit.then_writeJournal

theorem then_lookup {l : Link} {n : Nat} {found : SlotNo → Permit → State → State} (hf : ∀ i p, Works s (found i p t))
    (h : Works s t) : Works s (lookup l n found t) := by
  unfold lookup
  split
  · exact h.then_reply
  · split
    · exact h.then_reply
    · exact hf _ _

theorem then_acceptDraft {l : Link} {b : DraftBody} (h : Works s t) : Works s (acceptDraft l b t) := by
  unfold acceptDraft
  split
  · exact h
  · dsimp only
    refine .then_reply (.then_retestHolds ?_)
    split
    · exact h.then_changePermit.then_post
    · exact h.then_changePermit

theorem then_acceptAmend {l : Link} {b : AmendBody} {i : SlotNo} {p : Permit} (h : Works s t) :
    Works s (acceptAmend l b i p t) := h.then_changePermit.then_retestHolds.then_reply

theorem then_countersignFound {l : Link} {v : Nat} {i : SlotNo} {p : Permit} (h : Works s t) :
    Works s (countersignFound l v i p t) := by
  unfold countersignFound
  split
  · exact h.then_reply
  · split
    · exact h.then_changePermit.then_retestHolds.then_reply
    · exact h.then_changePermit.then_retestHolds.then_reply
    all_goals exact h.then_reply

theorem then_suspendFound {l : Link} {reason : Nat} {i : SlotNo} {p : Permit} (h : Works s t) :
    Works s (suspendFound l reason i p t) := by
  unfold suspendFound
  split
  · exact h.then_reply
  · exact h.then_changePermit.then_retestHolds.then_reply

theorem then_settleResumed {i : SlotNo} {q : Permit} (h : Works s t) : Works s (settleResumed i q t) := by
  refine then_retestHolds ?_
  split
  · exact h.then_changePermit.then_post
  · exact h.then_changePermit

theorem then_resumeFound {l : Link} {i : SlotNo} {p : Permit} (h : Works s t) : Works s (resumeFound l i p t) := by
  unfold resumeFound
  split
  · exact h.then_reply
  · exact h.then_settleResumed.then_reply

theorem then_finishFound {l : Link} {how : Ending} {source : Source} {i : SlotNo} {p : Permit} (h : Works s t) :
    Works s (finishFound l how source i p t) := by
  unfold finishFound
  split
  · exact h.then_changePermit.then_retestHolds.then_reply
  · exact h.then_reply

theorem then_purgeFound {l : Link} {i : SlotNo} {p : Permit} (h : Works s t) : Works s (purgeFound l i p t) := by
  unfold purgeFound
  split
  · exact h.then_reply
  · split
    · exact h.then_reply
    · exact h.then_vacate.then_retestHolds.then_reply

theorem then_serveReadPermit {l : Link} {which : PermitRef} (h : Works s t) : Works s (serveReadPermit l which t) := by
  unfold serveReadPermit
  split
  · exact h.then_lookup fun _ _ => h.then_reply
  · split <;> exact h.then_reply

/-! ### The occupancy's requests -/

theorem then_serveReadOccupancy {l : Link} {o : OccupancyRef} (h : Works s t) : Works s (serveReadOccupancy l o t) := by
  unfold serveReadOccupancy
  split
  · exact h.then_checked h.then_reply
  · split <;> exact h.then_reply

theorem then_reconcile {r : RoomNo} {who : List PoolIx} (h : Works s t) : Works s (reconcile r who t) := by
  refine then_reexamine (then_foldl_pair (fun x i hx => ?_) _ h)
  unfold reconcileOne
  split
  · exact hx
  · exact hx.then_removePresence.then_writeJournal

theorem then_serveReconcileRoom {l : Link} {n : Nat} {badge : Option Nat} (h : Works s t) :
    Works s (serveReconcileRoom l n badge t) := by
  refine h.then_checked ?_
  split
  · unfold reconcileBadge
    split
    · exact h.then_reply
    · exact h.then_reconcile.then_reply
  · exact h.then_reconcile.then_setRoomState.then_reply
  · exact h

theorem then_serveReadStation {l : Link} {a : Nat} (h : Works s t) : Works s (serveReadStation l a t) := by
  unfold serveReadStation
  split <;> exact h.then_reply

theorem then_serveReadDoor {l : Link} {n : Nat} (h : Works s t) : Works s (serveReadDoor l n t) := by
  unfold serveReadDoor
  split <;> exact h.then_reply

/-! ### Evacuation and all presences at once -/

theorem then_announceEvacuation (h : Works s t) : Works s (announceEvacuation t) := h.then_post.then_writeJournal

theorem then_evacuateDoor {r : RoomNo} (h : Works s t) : Works s (evacuateDoor t r) := h.then_setDoor.then_untie

theorem then_sweepOne {become : PresenceState → Option PresenceState} {record : Bool} {x : State × List (RoomNo × Nat)} {i : PoolIx}
    (h : Works s x.1) : Works s (sweepOne become record x i).1 := by
  unfold sweepOne
  split
  · exact h
  · split
    · exact h.then_setPresenceState
    · dsimp only
      split
      · exact h.then_removePresence.then_writeJournal
      · exact h.then_removePresence

theorem then_changePresences {become : PresenceState → Option PresenceState} {record : Bool} (h : Works s t) :
    Works s (changePresences become record t).1 :=
  then_foldl_pair (fun _ _ => then_sweepOne) _ h.then_uncarry

theorem then_reexamineHeld {before : State} {one : RoomNo → State → State} (ho : ∀ r u, Works s u → Works s (one r u))
    (h : Works s t) : Works s (reexamineHeld before one t) := by
  refine then_foldl (fun u r hu => ?_) _ h
  split
  · exact hu
  · exact ho r u hu

theorem then_presencesAtAllClear (h : Works s t) : Works s (presencesAtAllClear t) :=
  then_reexamineHeld (fun _ _ => then_reexamine) h.then_changePresences

theorem then_presencesAtReset {become : PresenceState → Option PresenceState} (h : Works s t) :
    Works s (presencesAtReset become t) :=
  then_reexamineHeld (fun _ _ => then_refreshRoom) h.then_changePresences

/-! ### Sweep and walks -/

theorem then_permitStep {i : SlotNo} {m : Nat} {full : Bool} (h : Works s t) : Works s (permitStep i m full t) := by
  unfold permitStep
  split
  · exact h
  · split
    · exact h.then_changePermit.then_retestHolds
    · split
      · exact h.then_changePermit.then_post.then_retestHolds
      · split
        · exact h.then_vacate.then_retestHolds
        · exact h

theorem then_overstayStep {i : PoolIx} {p : Presence} {m : Nat} (h : Works s t) : Works s (overstayStep i p m t) := by
  unfold overstayStep
  split
  · exact h
  · exact h
  all_goals
    split
    · exact h.then_setPresence.then_post.then_writeJournal.then_report
    · exact h
    · exact h.then_setPresence
    · exact h

theorem then_loneStep {i : PoolIx} {p : Presence} {m : Nat} (h : Works s t) : Works s (loneStep i p m t) := by
  unfold loneStep
  dsimp only
  split
  · exact h
  · split
    · exact h.then_post.then_writeJournal.then_setRoomState
    · exact h

theorem then_presenceStep {i : PoolIx} {m : Nat} (h : Works s t) : Works s (presenceStep i m t) := by
  unfold presenceStep
  split
  · exact h
  · exact h.then_overstayStep.then_loneStep

theorem then_suspendStep {reason : Nat} {i : SlotNo} {p : Permit} (h : Works s t) : Works s (suspendStep reason i p t).1 := by
  unfold suspendStep
  split
  · exact h
  · dsimp only
    exact h.then_changePermit.then_retestHolds

theorem then_resumeStep {i : SlotNo} {p : Permit} (h : Works s t) : Works s (resumeStep i p t).1 := by
  unfold resumeStep
  split
  · split
    · dsimp only
      exact h.then_settleResumed
    · exact h
  · exact h

theorem then_walkAt {w : Walk} (h : Works s t) : Works s (walkAt w t).1 := by
  unfold walkAt
  split
  · exact h
  · split
    · split
      · exact h.then_suspendStep
      · exact h.then_resumeStep
    · exact h

theorem then_serveWalkStep (h : Works s t) : Works s (serveWalkStep t) := by
  unfold serveWalkStep
  split
  · exact h
  · dsimp only
    split
    · exact h.then_walkAt.then_aside
    · exact .then_reply h.then_walkAt.then_aside

/-- R145: a request handed over that starts its walk. -/
theorem then_startWalk {l : Link} {r : Request} {kind : WalkKind} {firm : Nat} (hr : (t.port l).inFlight = some ⟨r, .handed⟩)
    (h : Works s t) : Works s (startWalk l kind firm t) :=
  then_grantNext (then_aside (h.trans (.port l _ t (walking_portStep _ r hr))))

theorem then_serveReadCounter {l : Link} {n : Nat} (h : Works s t) : Works s (serveReadCounter l n t) := by
  unfold serveReadCounter
  split
  · exact h.then_reply
  · exact h.then_checked h.then_reply

theorem then_acceptSetCounter {l : Link} {b : CounterBody} (h : Works s t) : Works s (acceptSetCounter l b t) := by
  unfold acceptSetCounter
  split
  · exact .then_reply h.then_aside
  · exact h

end Works

end Sys2Proof.Machine
end

section
/-! SUPPORT. What a run of the part's work keeps: `Course` adds to `Works` the changes of the clock, the evacuation state and the
sweep, and the requests on notices and lines; `Passage` adds what the link ports themselves do with frames and replies. The laws on
queues, journal, ports and lines, and that of level-7 notices, are proved on these relations. -/

namespace Sys2Proof.Machine

theorem Kept.sameCore {s t : State} (h : Kept s t) : SameCore s t :=
  ⟨h.clock, h.mark, h.supply, h.backupMinutes, h.timings, h.evacuating, h.edgeCount, h.evacuateTaken, h.sweep⟩

theorem SameCore.trans {s t u : State} (h : SameCore s t) (k : SameCore t u) : SameCore s u :=
  ⟨k.clock.trans h.clock, k.mark.trans h.mark, k.supply.trans h.supply, k.backupMinutes.trans h.backupMinutes,
    k.timings.trans h.timings, k.evacuating.trans h.evacuating, k.edgeCount.trans h.edgeCount,
    k.evacuateTaken.trans h.evacuateTaken, k.sweep.trans h.sweep⟩

/-- The part's work leaves the clock and its settings, the supply, the evacuation state and the sweep as they were. -/
theorem Works.core {s t : State} (h : Works s t) : SameCore s t := by
  induction h with
  | aside c r => exact c
  | post b s => exact (post_kept b s).sameCore
  | journal b s => exact (writeJournal_kept b s).sameCore
  | port l q s h => exact {}
  | trans h k ih ik => exact ih.trans ik

/-- The part's work, with changes of the clock, the evacuation state and the sweep, TAKE NOTICE on the links that `free` names, and
the requests on masks and modes. -/
inductive Course (free : Link → Prop) : State → State → Prop where
  | works {s t : State} (h : Works s t) : Course free s t
  | apart {s t : State} (r : SameReports s t) : Course free s t
  | take (l : Link) (s : State) (h : free l) : Course free s (judgeAttention l (s.setQueue l (s.queue l).taken))
  | mask (l : Link) (k : Nat) (s : State) (h : k ≤ 6) :
      Course free s (judgeAttention l (s.setPort l { s.port l with mask := k }))
  | mode (l : Link) (m : AttentionMode) (s : State) : Course free s (changeMode l m s)
  | pulseOver (l : Link) (s : State) (h : (s.port l).mode = .pulse) :
      Course free s (s.setPort l { s.port l with attention := false })
  | trans {s t u : State} (h : Course free s t) (k : Course free t u) : Course free s u

/-- What the link ports do with frames and replies: a sound port stays sound, with its mask, mode and line. -/
inductive Framing : State → State → Prop where
  | works {s t : State} (h : Works s t) : Framing s t
  | port (l : Link) (q : Port) (s : State) (mask : q.mask = (s.port l).mask) (mode : q.mode = (s.port l).mode)
      (attention : q.attention = (s.port l).attention) (sound : PortSound (s.port l) → PortSound q) : Framing s (s.setPort l q)
  | trans {s t u : State} (h : Framing s t) (k : Framing t u) : Framing s u

theorem Framing.core {s t : State} (h : Framing s t) : SameCore s t := by
  induction h with
  | works h => exact h.core
  | port l q s => exact {}
  | trans h k ih ik => exact ih.trans ik

/-- A course, or a port's own change: a sound port stays sound, with its mask, mode and line. -/
inductive Passage (free : Link → Prop) : State → State → Prop where
  | course {s t : State} (h : Course free s t) : Passage free s t
  | port (l : Link) (q : Port) (s : State) (mask : q.mask = (s.port l).mask) (mode : q.mode = (s.port l).mode)
      (attention : q.attention = (s.port l).attention) (sound : PortSound (s.port l) → PortSound q) :
      Passage free s (s.setPort l q)
  | trans {s t u : State} (h : Passage free s t) (k : Passage free t u) : Passage free s u

/-! ### Posting, link by link -/

/-- R150: what every posting of a kind's level to one queue keeps, a notice posted keeps. -/
theorem post_induction {P : State → Prop}
    (step : ∀ l n s, n.level = n.body.kind.level → s.supply = .normal → P s → P (postTo l n s)) (b : NoticeBody) (s : State)
    (h : P s) : P (post b s) := by
  unfold post
  split
  · exact h
  · next hs =>
    generalize b.queues = ls
    induction ls generalizing s with
    | nil => exact h
    | cons l ls ih => exact ih _ (step _ _ _ rfl hs h) (by rw [(postTo_kept _ _ _).supply, hs])

theorem judgeAttention_queue (l m : Link) (s : State) : (judgeAttention l s).queue m = s.queue m := by
  obtain ⟨a, h⟩ := judgeAttention_frame l s
  rw [h, State.setPort_queue]

theorem judgeAttention_port_other {l m : Link} (s : State) (h : l ≠ m) : (judgeAttention l s).port m = s.port m := by
  obtain ⟨a, ha⟩ := judgeAttention_frame l s
  rw [ha, State.setPort_port_other _ _ _ h]

theorem judgeAttention_supply (l : Link) (s : State) : (judgeAttention l s).supply = s.supply := by
  obtain ⟨a, h⟩ := judgeAttention_frame l s
  rw [h, State.setPort_supply]

theorem postTo_queue_same (l : Link) (n : Notice) (s : State) : (postTo l n s).queue l = ((s.queue l).offer n).1 := by
  obtain ⟨a, h⟩ := postTo_frame l n s
  simp [h]

theorem postTo_queue_other {l m : Link} (n : Notice) (s : State) (h : l ≠ m) : (postTo l n s).queue m = s.queue m := by
  obtain ⟨a, ha⟩ := postTo_frame l n s
  simp [ha, h]

theorem postTo_port_same (l : Link) (n : Notice) (s : State) : ∃ a, (postTo l n s).port l = { s.port l with attention := a } := by
  obtain ⟨a, h⟩ := postTo_frame l n s
  exact ⟨a, by simp [h]⟩

theorem postTo_port_other {l m : Link} (n : Notice) (s : State) (h : l ≠ m) : (postTo l n s).port m = s.port m := by
  obtain ⟨a, ha⟩ := postTo_frame l n s
  simp [ha, h]

/-- A mode changed leaves everything but the mode and the line of that port. -/
theorem changeMode_frame (l : Link) (m : AttentionMode) (s : State) :
    ∃ k a, changeMode l m s = s.setPort l { s.port l with mode := k, attention := a } := by
  unfold changeMode
  dsimp only
  split
  · exact ⟨(s.port l).mode, (s.port l).attention, (setPort_port l s).symm⟩
  · split
    · obtain ⟨a, h⟩ := judgeAttention_frame l (s.setPort l { s.port l with mode := .level })
      exact ⟨.level, a, by rw [h]; simp⟩
    · exact ⟨_, _, rfl⟩

/-! ### The supply -/

theorem Course.supply {free : Link → Prop} {s t : State} (h : Course free s t) : t.supply = s.supply := by
  induction h with
  | works h => exact h.core.supply
  | apart r => exact r.supply
  | take l s h => rw [judgeAttention_supply, State.setQueue_supply]
  | mask l k s h => rw [judgeAttention_supply, State.setPort_supply]
  | mode l m s => obtain ⟨k, a, h⟩ := changeMode_frame l m s; rw [h, State.setPort_supply]
  | pulseOver l s h => rfl
  | trans h k ih ik => exact ik.trans ih

theorem Passage.supply {free : Link → Prop} {s t : State} (h : Passage free s t) : t.supply = s.supply := by
  induction h with
  | course h => exact h.supply
  | port l q s => rfl
  | trans h k ih ik => exact ik.trans ih

/-! ### Requests handed over -/

theorem Works.handed {s t : State} (h : Works s t) (l : Link) (r : Request) (ht : (t.port l).inFlight = some ⟨r, .handed⟩) :
    (s.port l).inFlight = some ⟨r, .handed⟩ := by
  induction h with
  | aside c r => simpa [State.port, r.ports] using ht
  | post b s => simpa using ht
  | journal b s => simpa using ht
  | port m q s h =>
    by_cases e : m = l
    · subst e; exact h.handed r (by simpa using ht)
    · simpa [e] using ht
  | trans h k ih ik => exact ih (ik ht)

/-- R175: a course hands no request over. -/
theorem Course.handed {free : Link → Prop} {s t : State} (h : Course free s t) (l : Link) (r : Request)
    (ht : (t.port l).inFlight = some ⟨r, .handed⟩) : (s.port l).inFlight = some ⟨r, .handed⟩ := by
  induction h with
  | works h => exact h.handed l r ht
  | apart r => simpa [State.port, r.ports] using ht
  | take m s h => simpa [judgeAttention_inFlight] using ht
  | mask m k s h =>
    rw [judgeAttention_inFlight] at ht
    by_cases e : m = l
    · subst e; simpa using ht
    · simpa [e] using ht
  | mode m k s =>
    obtain ⟨k, a, h⟩ := changeMode_frame m k s
    rw [h] at ht
    by_cases e : m = l
    · subst e; simpa using ht
    · simpa [e] using ht
  | pulseOver m s h =>
    by_cases e : m = l
    · subst e; simpa using ht
    · simpa [e] using ht
  | trans h k ih ik => exact ih (ik ht)

/-! ### The notice queues (R150, R151) -/

theorem queueSound_offer {q : NoticeQueue} {n : Notice} (hn : n.level = n.body.kind.level) (h : QueueSound q) :
    QueueSound (q.offer n).1 := by
  obtain ⟨hlen, hlevel⟩ := h
  refine ⟨offer_length q n ?_ hlen, fun m hm => ?_⟩
  · have := (kind_level_bounds n.body.kind).2
    omega
  · rcases offer_mem q n m hm with hm | rfl
    · exact hlevel m hm
    · exact hn

theorem queueSound_taken {q : NoticeQueue} (h : QueueSound q) : QueueSound q.taken :=
  ⟨(List.length_eraseP_le ..).trans h.1, fun m hm => h.2 m (List.mem_of_mem_eraseP hm)⟩

theorem queue_of_notices {s t : State} (h : t.notices = s.notices) (l : Link) : t.queue l = s.queue l := by
  simp [State.queue, h]

theorem port_of_ports {s t : State} (h : t.ports = s.ports) (l : Link) : t.port l = s.port l := by simp [State.port, h]

theorem noticesSound_of_queues {s t : State} (h : ∀ l, t.queue l = s.queue l) (hs : NoticesSound s) : NoticesSound t :=
  fun l => h l ▸ hs l

theorem noticesSound_post (b : NoticeBody) (s : State) (h : NoticesSound s) : NoticesSound (post b s) := by
  refine post_induction (P := NoticesSound) (fun l n s hn _ hs m => ?_) b s h
  by_cases e : l = m
  · subst e; rw [postTo_queue_same]; exact queueSound_offer hn (hs l)
  · rw [postTo_queue_other n s e]; exact hs m

theorem Works.noticesSound {s t : State} (h : Works s t) (hs : NoticesSound s) : NoticesSound t := by
  induction h with
  | aside c r => exact noticesSound_of_queues (queue_of_notices r.notices) hs
  | post b s => exact noticesSound_post b s hs
  | journal b s => exact noticesSound_of_queues (writeJournal_queue b s) hs
  | port l q s h => exact noticesSound_of_queues (fun _ => rfl) hs
  | trans h k ih ik => exact ik (ih hs)

theorem Course.noticesSound {free : Link → Prop} {s t : State} (h : Course free s t) (hs : NoticesSound s) : NoticesSound t := by
  induction h with
  | works h => exact h.noticesSound hs
  | apart r => exact noticesSound_of_queues (queue_of_notices r.notices) hs
  | take l s h =>
    intro m
    rw [judgeAttention_queue]
    by_cases e : l = m
    · subst e; rw [State.setQueue_queue_same]; exact queueSound_taken (hs l)
    · rw [State.setQueue_queue_other _ _ _ e]; exact hs m
  | mask l k s h => exact noticesSound_of_queues (fun m => judgeAttention_queue l m _) hs
  | mode l m s => obtain ⟨k, a, h⟩ := changeMode_frame l m s; exact noticesSound_of_queues (fun m => by rw [h]; rfl) hs
  | pulseOver l s h => exact noticesSound_of_queues (fun _ => rfl) hs
  | trans h k ih ik => exact ik (ih hs)

theorem Passage.noticesSound {free : Link → Prop} {s t : State} (h : Passage free s t) (hs : NoticesSound s) : NoticesSound t := by
  induction h with
  | course h => exact h.noticesSound hs
  | port l q s => exact noticesSound_of_queues (fun _ => rfl) hs
  | trans h k ih ik => exact ik (ih hs)

/-! ### The journal (R162) -/

theorem journalSound_writeJournal (b : JournalBody) (s : State) (h : JournalSound s) : JournalSound (writeJournal b s) := by
  cases hs : s.supply with
  | backup => rwa [writeJournal_backup b s hs]
  | normal =>
    rw [writeJournal_normal b s hs]
    obtain ⟨hlen, hseq⟩ := h
    simp only [Config.journalCapacity] at hlen
    refine ⟨by simp [Config.journalCapacity]; omega, fun k r hk => ?_⟩
    simp only [Config.journalCapacity, List.length_append, List.length_drop, List.length_singleton] at hk ⊢
    rw [List.getElem?_append] at hk
    split at hk
    · next hlt =>
      rw [List.getElem?_drop] at hk
      rw [List.length_drop] at hlt
      rw [hseq _ r hk, show s.journal.length - (s.journal.length + 1 - 512) + 1 - k
        = s.journal.length - (s.journal.length + 1 - 512 + k) + 1 by omega, BitVec.ofNat_add]
      exact (add_sub_add_right_eq_sub ..).symm
    · next hge =>
      rw [List.getElem?_singleton] at hk
      rw [List.length_drop] at hge hk
      split at hk
      · next hz =>
        obtain rfl := Option.some.inj hk
        rw [show s.journal.length - (s.journal.length + 1 - 512) + 1 - k = 1 by omega]
        exact (add_sub_cancel_right ..).symm
      · cases hk

theorem journalSound_of_same {s t : State} (hj : t.journal = s.journal) (hn : t.nextSequence = s.nextSequence) (h : JournalSound s) :
    JournalSound t := by
  simpa only [JournalSound, hj, hn] using h

theorem journalSound_post (b : NoticeBody) (s : State) (h : JournalSound s) : JournalSound (post b s) := by
  refine post_induction (P := JournalSound) (fun l n s _ _ hs => ?_) b s h
  obtain ⟨a, ha⟩ := postTo_frame l n s
  rw [ha]
  exact journalSound_of_same rfl rfl hs

theorem Works.journalSound {s t : State} (h : Works s t) (hs : JournalSound s) : JournalSound t := by
  induction h with
  | aside c r => exact journalSound_of_same r.journal r.nextSequence hs
  | post b s => exact journalSound_post b s hs
  | journal b s => exact journalSound_writeJournal b s hs
  | port l q s h => exact journalSound_of_same rfl rfl hs
  | trans h k ih ik => exact ik (ih hs)

theorem journalSound_judgeAttention (l : Link) (s : State) (h : JournalSound s) : JournalSound (judgeAttention l s) := by
  obtain ⟨a, ha⟩ := judgeAttention_frame l s
  rw [ha]
  exact journalSound_of_same rfl rfl h

theorem Course.journalSound {free : Link → Prop} {s t : State} (h : Course free s t) (hs : JournalSound s) : JournalSound t := by
  induction h with
  | works h => exact h.journalSound hs
  | apart r => exact journalSound_of_same r.journal r.nextSequence hs
  | take l s h => exact journalSound_judgeAttention l _ (journalSound_of_same rfl rfl hs)
  | mask l k s h => exact journalSound_judgeAttention l _ (journalSound_of_same rfl rfl hs)
  | mode l m s => obtain ⟨k, a, h⟩ := changeMode_frame l m s; rw [h]; exact journalSound_of_same rfl rfl hs
  | pulseOver l s h => exact journalSound_of_same rfl rfl hs
  | trans h k ih ik => exact ik (ih hs)

theorem Passage.journalSound {free : Link → Prop} {s t : State} (h : Passage free s t) (hs : JournalSound s) : JournalSound t := by
  induction h with
  | course h => exact h.journalSound hs
  | port l q s => exact journalSound_of_same rfl rfl hs
  | trans h k ih ik => exact ik (ih hs)

/-! ### The ports (R173, R176) -/

theorem portsSound_setPort {l : Link} {q : Port} {s : State} (hq : PortSound q) (hs : PortsSound s) : PortsSound (s.setPort l q) := by
  intro m
  by_cases e : l = m
  · subst e; rwa [State.setPort_port_same]
  · rw [State.setPort_port_other _ _ _ e]; exact hs m

theorem portsSound_of_ports {s t : State} (h : t.ports = s.ports) (hs : PortsSound s) : PortsSound t := fun l =>
  port_of_ports h l ▸ hs l

/-- R157: a line judged leaves the ports sound, which does not speak of lines. -/
theorem portsSound_judgeAttention (l : Link) (s : State) (h : PortsSound s) : PortsSound (judgeAttention l s) := by
  obtain ⟨a, ha⟩ := judgeAttention_frame l s
  rw [ha]
  exact portsSound_setPort (h l) h

theorem portsSound_post (b : NoticeBody) (s : State) (h : PortsSound s) : PortsSound (post b s) := by
  refine post_induction (P := PortsSound) (fun l n s _ _ hs => ?_) b s h
  obtain ⟨a, ha⟩ := postTo_frame l n s
  rw [ha]
  exact portsSound_setPort (hs l) (portsSound_of_ports (State.setQueue_ports ..) hs)

theorem Works.portsSound {s t : State} (h : Works s t) (hs : PortsSound s) : PortsSound t := by
  induction h with
  | aside c r => exact portsSound_of_ports r.ports hs
  | post b s => exact portsSound_post b s hs
  | journal b s => exact fun l => writeJournal_port b s l ▸ hs l
  | port l q s h => exact portsSound_setPort (h.sound (hs l)) hs
  | trans h k ih ik => exact ik (ih hs)

theorem Course.portsSound {free : Link → Prop} {s t : State} (h : Course free s t) (hs : PortsSound s) : PortsSound t := by
  induction h with
  | works h => exact h.portsSound hs
  | apart r => exact portsSound_of_ports r.ports hs
  | take l s h => exact portsSound_judgeAttention l _ (portsSound_of_ports (State.setQueue_ports ..) hs)
  | mask l k s h =>
    obtain ⟨-, hlen, hcount⟩ := hs l
    exact portsSound_judgeAttention l _ (portsSound_setPort ⟨h, hlen, hcount⟩ hs)
  | mode l m s => obtain ⟨k, a, h⟩ := changeMode_frame l m s; rw [h]; exact portsSound_setPort (hs l) hs
  | pulseOver l s h => exact portsSound_setPort (hs l) hs
  | trans h k ih ik => exact ik (ih hs)

theorem Passage.portsSound {free : Link → Prop} {s t : State} (h : Passage free s t) (hs : PortsSound s) : PortsSound t := by
  induction h with
  | course h => exact h.portsSound hs
  | port l q s mask mode attention sound => exact portsSound_setPort (sound (hs l)) hs
  | trans h k ih ik => exact ik (ih hs)

/-! ### The attention lines (R13, R157) -/

/-- R13, R157: the law of one attention line. -/
def LineSound (s : State) (l : Link) : Prop :=
  (s.supply = .backup → (s.port l).attention = false) ∧
    (s.supply = .normal → (s.port l).mode = .level → (s.port l).attention = (s.queue l).above (s.port l).mask)

theorem attentionSound_iff (s : State) : AttentionSound s ↔ ∀ l, LineSound s l := Iff.rfl

/-- A line's law rests on the supply, the queue, and the port's mask, mode and line. -/
theorem lineSound_of_same {s t : State} {l : Link} (hs : t.supply = s.supply) (hq : t.queue l = s.queue l)
    (mask : (t.port l).mask = (s.port l).mask) (mode : (t.port l).mode = (s.port l).mode)
    (attention : (t.port l).attention = (s.port l).attention) (h : LineSound s l) : LineSound t l := by
  simpa only [LineSound, hs, hq, mask, mode, attention] using h

/-- R13, R157: a line that has been judged meets its law, whatever it was. -/
theorem judgeAttention_lineSound (l : Link) (s : State) : LineSound (judgeAttention l s) l := by
  unfold judgeAttention
  dsimp only
  split
  · next hb => exact ⟨fun _ => by simp, fun hn => by simp [hb] at hn⟩
  · next hs hm => exact ⟨fun hb => by simp [hs] at hb, fun _ _ => by simp⟩
  · next hs hm => exact ⟨fun hb => by simp [hs] at hb, fun _ hl => by simp [hm] at hl⟩

theorem judgeAttention_lineSound_other {l m : Link} {s : State} (e : l ≠ m) (h : LineSound s m) :
    LineSound (judgeAttention l s) m :=
  lineSound_of_same (judgeAttention_supply l s) (judgeAttention_queue l m s) (by rw [judgeAttention_port_other s e])
    (by rw [judgeAttention_port_other s e]) (by rw [judgeAttention_port_other s e]) h

/-- R157, R158: so does the line of a queue that a notice has been offered to, in NORMAL. -/
theorem postTo_lineSound (l : Link) (n : Notice) (s : State) (hs : s.supply = .normal) : LineSound (postTo l n s) l := by
  have hmode : ((postTo l n s).port l).mode = (s.port l).mode := by
    obtain ⟨a, ha⟩ := postTo_port_same l n s
    rw [ha]
  cases hm : (s.port l).mode with
  | pulse =>
    refine ⟨fun hb => ?_, fun _ hl => ?_⟩
    · rw [(postTo_kept l n s).supply, hs] at hb; cases hb
    · rw [hmode, hm] at hl; cases hl
  | level =>
    have hpost : postTo l n s = judgeAttention l (s.setQueue l ((s.queue l).offer n).1) := by
      have hj : ((judgeAttention l (s.setQueue l ((s.queue l).offer n).1)).port l).mode = .level := by
        obtain ⟨a, ha⟩ := judgeAttention_frame l (s.setQueue l ((s.queue l).offer n).1)
        simp [ha, hm]
      simp [postTo, pulseFor, hj]
    rw [hpost]
    exact judgeAttention_lineSound l _

theorem postTo_lineSound_other {l m : Link} (n : Notice) {s : State} (e : l ≠ m) (h : LineSound s m) :
    LineSound (postTo l n s) m :=
  lineSound_of_same (postTo_kept l n s).supply (postTo_queue_other n s e) (by rw [postTo_port_other n s e])
    (by rw [postTo_port_other n s e]) (by rw [postTo_port_other n s e]) h

theorem attentionSound_post (b : NoticeBody) (s : State) (h : AttentionSound s) : AttentionSound (post b s) := by
  refine post_induction (P := AttentionSound) (fun l n s _ hs ha m => ?_) b s h
  by_cases e : l = m
  · subst e; exact postTo_lineSound l n s hs
  · exact postTo_lineSound_other n e (ha m)

theorem attentionSound_of_same {s t : State} (h : SameReports s t) (hs : AttentionSound s) : AttentionSound t := fun l =>
  lineSound_of_same h.supply (queue_of_notices h.notices l) (by rw [port_of_ports h.ports]) (by rw [port_of_ports h.ports])
    (by rw [port_of_ports h.ports]) (hs l)

theorem attentionSound_setPort {l : Link} {q : Port} {s : State} (mask : q.mask = (s.port l).mask) (mode : q.mode = (s.port l).mode)
    (attention : q.attention = (s.port l).attention) (h : AttentionSound s) : AttentionSound (s.setPort l q) := by
  intro m
  by_cases e : l = m
  · subst e
    exact lineSound_of_same (s := s) rfl rfl (by simpa using mask) (by simpa using mode) (by simpa using attention) (h l)
  · exact lineSound_of_same (s := s) rfl rfl (by simp [e]) (by simp [e]) (by simp [e]) (h m)

theorem attentionSound_writeJournal (b : JournalBody) (s : State) (h : AttentionSound s) : AttentionSound (writeJournal b s) := by
  intro l
  have hp := writeJournal_port b s l
  exact lineSound_of_same (writeJournal_kept b s).supply (writeJournal_queue b s l) (by rw [hp]) (by rw [hp]) (by rw [hp]) (h l)

/-- R157, R158: a link's queue, mask or mode changed and its line judged. -/
theorem attentionSound_judged {l : Link} {s t : State} (hs : t.supply = s.supply) (hq : ∀ m, l ≠ m → t.queue m = s.queue m)
    (hp : ∀ m, l ≠ m → t.port m = s.port m) (h : AttentionSound s) : AttentionSound (judgeAttention l t) := by
  intro m
  by_cases e : l = m
  · subst e; exact judgeAttention_lineSound l t
  · refine judgeAttention_lineSound_other e (lineSound_of_same hs (hq m e) ?_ ?_ ?_ (h m)) <;> rw [hp m e]

/-- R158: the line of a port in PULSE mode may be released. -/
theorem attentionSound_released {l : Link} {s : State} {q : Port} (hm : q.mode = .pulse) (ha : q.attention = false)
    (h : AttentionSound s) : AttentionSound (s.setPort l q) := by
  intro m
  by_cases e : l = m
  · subst e
    exact ⟨fun _ => by simpa using ha, fun _ hl => by simp [hm] at hl⟩
  · exact lineSound_of_same (s := s) rfl rfl (by simp [e]) (by simp [e]) (by simp [e]) (h m)

theorem Works.attentionSound {s t : State} (h : Works s t) (hs : AttentionSound s) : AttentionSound t := by
  induction h with
  | aside c r => exact attentionSound_of_same r hs
  | post b s => exact attentionSound_post b s hs
  | journal b s => exact attentionSound_writeJournal b s hs
  | port l q s h => exact attentionSound_setPort h.mask h.mode h.attention hs
  | trans h k ih ik => exact ik (ih hs)

theorem attentionSound_changeMode (l : Link) (m : AttentionMode) (s : State) (h : AttentionSound s) :
    AttentionSound (changeMode l m s) := by
  unfold changeMode
  dsimp only
  split
  · exact h
  · split
    · exact attentionSound_judged (s := s) rfl (fun _ _ => rfl) (fun m e => by simp [e]) h
    · exact attentionSound_released rfl rfl h

theorem Course.attentionSound {free : Link → Prop} {s t : State} (h : Course free s t) (hs : AttentionSound s) :
    AttentionSound t := by
  induction h with
  | works h => exact h.attentionSound hs
  | apart r => exact attentionSound_of_same r hs
  | take l s h => exact attentionSound_judged (s := s) rfl (fun m e => by simp [e]) (fun _ _ => rfl) hs
  | mask l k s h => exact attentionSound_judged (s := s) rfl (fun _ _ => rfl) (fun m e => by simp [e]) hs
  | mode l m s => exact attentionSound_changeMode l m s hs
  | pulseOver l s h => exact attentionSound_released h rfl hs
  | trans h k ih ik => exact ik (ih hs)

theorem Passage.attentionSound {free : Link → Prop} {s t : State} (h : Passage free s t) (hs : AttentionSound s) :
    AttentionSound t := by
  induction h with
  | course h => exact h.attentionSound hs
  | port l q s mask mode attention sound => exact attentionSound_setPort mask mode attention hs
  | trans h k ih ik => exact ik (ih hs)

/-! ### Level-7 notices (R153) -/

/-- R152: a full queue gives up a notice below the level offered, so one of the highest level stays. -/
theorem offer_count_le (q : NoticeQueue) (n m : Notice) (hm : m.level ≤ n.level) :
    q.notices.count n ≤ (q.offer m).1.notices.count n := by
  unfold NoticeQueue.offer
  split
  · simp [List.count_append]
  · split
    · next hlow =>
      have hn : (n.level == lowestLevel q.notices) = false := by simp only [beq_eq_false_iff_ne]; omega
      have herase : (q.notices.eraseP fun m => m.level == lowestLevel q.notices).count n = q.notices.count n := by
        rcases List.exists_or_eq_self_of_eraseP (fun m => m.level == lowestLevel q.notices) q.notices
          with he | ⟨a, l₁, l₂, -, ha, hl, he⟩
        · rw [he]
        · have hne : a ≠ n := fun e => by simp [e, hn] at ha
          rw [he, hl, List.count_append, List.count_append, List.count_cons_of_ne hne]
      simp [List.count_append, herase]
    · exact le_rfl

theorem count_le_post (b : NoticeBody) (n : Notice) (hn : n.level = 7) (l : Link) (s : State) :
    (s.queue l).notices.count n ≤ ((post b s).queue l).notices.count n := by
  refine post_induction (P := fun t => (s.queue l).notices.count n ≤ (t.queue l).notices.count n)
    (fun m k t hk _ h => h.trans ?_) b s le_rfl
  by_cases e : m = l
  · subst e
    rw [postTo_queue_same]
    exact offer_count_le _ n k (by have := (kind_level_bounds k.body.kind).2; omega)
  · rw [postTo_queue_other k t e]

theorem Works.count_le {s t : State} (h : Works s t) {n : Notice} (hn : n.level = 7) (l : Link) :
    (s.queue l).notices.count n ≤ (t.queue l).notices.count n := by
  induction h with
  | aside c r => rw [queue_of_notices r.notices]
  | post b s => exact count_le_post b n hn l s
  | journal b s => rw [writeJournal_queue]
  | port l q s h => rfl
  | trans h k ih ik => exact ih.trans ik

/-- R153: a level-7 notice stays in its queue while no notice is taken on its link. -/
theorem Course.count_le {free : Link → Prop} {s t : State} (h : Course free s t) {n : Notice} (hn : n.level = 7) {l : Link}
    (hl : ¬ free l) : (s.queue l).notices.count n ≤ (t.queue l).notices.count n := by
  induction h with
  | works h => exact h.count_le hn l
  | apart r => rw [queue_of_notices r.notices]
  | take m s h =>
    have e : m ≠ l := fun e => hl (e ▸ h)
    rw [judgeAttention_queue, State.setQueue_queue_other _ _ _ e]
  | mask m k s h => rw [judgeAttention_queue]; rfl
  | mode m k s => obtain ⟨k, a, h⟩ := changeMode_frame m k s; rw [h]; rfl
  | pulseOver m s h => rfl
  | trans h k ih ik => exact ih.trans ik

theorem Passage.count_le {free : Link → Prop} {s t : State} (h : Passage free s t) {n : Notice} (hn : n.level = 7) {l : Link}
    (hl : ¬ free l) : (s.queue l).notices.count n ≤ (t.queue l).notices.count n := by
  induction h with
  | course h => exact h.count_le hn hl
  | port m q s => rfl
  | trans h k ih ik => exact ih.trans ik

end Sys2Proof.Machine
end

section
/-! SUPPORT. What one command can do: each request row is the port's part and then the service of its request, and every command but
the resets is a passage. -/

namespace Sys2Proof.Machine

/-! ### Request rows -/

/-- What a request row does: its request served in its turn where it needs one, and else at once. -/
def requestRow (l : Link) (r : Request) (s : State) : State :=
  if needsTurn r then inTurn l r (serveRequest l r) s else atOnce l r (serveRequest l r) s

/-- R36, R175: every request row is the service of its request by the port's and the arbiter's rules. -/
theorem exec_requestRow (c : Instr) (l : Link) (r : Request) (h : c.request = some (l, r)) (s : State) :
    exec c s = .next (requestRow l r s) := by
  cases c
  all_goals first
    | (obtain ⟨rfl, rfl⟩ := Prod.mk.inj (Option.some.inj h); rfl)
    | cases h

theorem inHand_iff (l : Link) (r : Request) (s : State) : inHand l r s = true ↔ (s.port l).inFlight = some ⟨r, .handed⟩ := by
  simp [inHand]

theorem requestRow_backup (l : Link) (r : Request) (s : State) (hs : s.supply = .backup) : requestRow l r s = s := by
  simp [requestRow, inTurn, atOnce, hs]

/-- R36, R52: a row brings its request to the port and, where it is then in hand and has the turn it needs, serves it. -/
theorem requestRow_cases (l : Link) (r : Request) (s : State) :
    requestRow l r s = s ∨ requestRow l r s = present l r s ∨
      inHand l r (present l r s) = true ∧
        (requestRow l r s = serveRequest l r (present l r s) ∨
          requestRow l r s = endTurn (serveRequest l r (present l r s))) := by
  cases hs : s.supply with
  | backup => exact .inl (requestRow_backup l r s hs)
  | normal =>
    refine .inr ?_
    by_cases hh : inHand l r (present l r s) = true
    · by_cases hn : needsTurn r = true
      · by_cases ht : holdsTurn l (present l r s) = true
        · exact .inr ⟨hh, .inr (by simp [requestRow, inTurn, hs, hn, hh, ht])⟩
        · exact .inl (by simp [requestRow, inTurn, hs, hn, ht])
      · exact .inr ⟨hh, .inl (by simp [requestRow, atOnce, hs, hn, hh])⟩
    · exact .inl (by simp [requestRow, inTurn, atOnce, hs, hh])

/-! ### The service of a request -/

/-- The requests whose service goes beyond `Works`: those on the clock, the mark and the timings, ALL CLEAR, and those that take
notices or set masks and modes. -/
def stirs : Request → Bool
  | .setClock _ | .alignClock | .setMark _ | .writeTimings _ | .allClear | .takeNotice | .setNoticeMask _
  | .setAttentionMode _ => true
  | _ => false

/-- Any other request in hand is served within the part's work. -/
theorem serveRequest_works (l : Link) (r : Request) (s : State) (hr : stirs r = false)
    (hh : (s.port l).inFlight = some ⟨r, .handed⟩) : Works s (serveRequest l r s) := by
  have h := Works.refl s
  cases r with
  | setClock | alignClock | setMark | writeTimings | allClear | takeNotice | setNoticeMask | setAttentionMode => cases hr
  | readClock | readMap | readFreeze | readTimings | readSweep | readJournal | restart => exact h.then_reply
  | writeRoom => exact h.then_checked h.then_acceptWriteRoom
  | writeMap => exact h.then_checked h.then_acceptWriteMap
  | setFreeze => exact h.then_checked h.then_acceptSetFreeze
  | clearFreeze => exact h.then_checked h.then_acceptClearFreeze
  | lockConfiguration => exact h.then_serveLockConfiguration
  | readRoom => exact h.then_serveReadRoom
  | draftPermit => exact h.then_checked h.then_acceptDraft
  | amendPermit => exact h.then_checked (h.then_lookup fun _ _ => h.then_checked h.then_acceptAmend)
  | countersign => exact h.then_lookup fun _ _ => h.then_countersignFound
  | suspendPermit => exact h.then_checked (h.then_lookup fun _ _ => h.then_suspendFound)
  | resumePermit => exact h.then_lookup fun _ _ => h.then_resumeFound
  | revokePermit => exact h.then_lookup fun _ _ => h.then_finishFound
  | closePermit => exact h.then_lookup fun _ _ => h.then_finishFound
  | purgePermit => exact h.then_lookup fun _ _ => h.then_purgeFound
  | readPermit => exact h.then_serveReadPermit
  | listPermits => exact h.then_checked h.then_reply
  | readOccupancy => exact h.then_serveReadOccupancy
  | reconcileRoom => exact h.then_serveReconcileRoom
  | readStation => exact h.then_serveReadStation
  | readDoor => exact h.then_serveReadDoor
  | suspendFirm => exact h.then_checked (h.then_startWalk hh)
  | resumeFirm => exact h.then_checked (h.then_startWalk hh)
  | setCounter => exact h.then_checked h.then_acceptSetCounter
  | readCounter => exact h.then_serveReadCounter

section
variable {free : Link → Prop}

theorem Course.refl (s : State) : Course free s s := .works (.refl s)

theorem sweepEvent_course (full : Bool) (s : State) : Course free s (sweepEvent full s) := by
  unfold sweepEvent
  dsimp only
  split
  · exact .trans (.apart {}) (.works (.then_grantNext (.refl _)))
  · exact .apart {}
  · exact .trans (.apart {}) (.works (.then_post (.refl _)))

theorem countOccupancyMinutes_course (s : State) : Course free s (countOccupancyMinutes s) :=
  .works (.then_countOccupancyMinutes (.refl s))

/-- R4: a minute-boundary event is a course, in either order of its deliveries. -/
theorem raiseEvent_course (s : State) : Course free s (raiseEvent s) := by
  unfold raiseEvent
  split
  · unfold deliverEvent
    split
    · dsimp only
      split
      · exact .trans (.apart {}) ((countOccupancyMinutes_course _).trans (sweepEvent_course _ _))
      · exact .trans (.apart {}) ((sweepEvent_course _ _).trans (countOccupancyMinutes_course _))
    · exact (sweepEvent_course _ _).trans (countOccupancyMinutes_course _)
  · exact .apart {}

theorem reply_course (l : Link) (st : Status) (c : ReplyContent) (s : State) : Course free s (reply l st c s) :=
  .works (.then_reply (.refl s))

theorem checked_course {l : Link} {checks : List (Bool × Status)} {f : State → State} {s : State} (hf : Course free s (f s)) :
    Course free s (checked l checks f s) := by
  unfold checked
  split
  · exact reply_course ..
  · exact hf

theorem acceptSetClock_course (l : Link) (t : CivilTime) (s : State) : Course free s (acceptSetClock l t s) :=
  .trans (.apart {}) ((raiseEvent_course _).trans (.works (.then_reply (.then_writeJournal (.then_post (.refl _))))))

theorem acceptAlignClock_course (l : Link) (s : State) : Course free s (acceptAlignClock l s) := by
  refine .trans ?_ (reply_course ..)
  split
  · exact .refl s
  · split
    · exact .trans (.apart {}) (.works (.then_writeJournal (.refl _)))
    · exact .trans (.apart {}) ((raiseEvent_course _).trans (.works (.then_writeJournal (.refl _))))

theorem acceptAllClear_course (l : Link) (s : State) : Course free s (acceptAllClear l s) := by
  have hmodes := (Works.refl { s with evacuating := false, edgeCount := 0 }).then_queueModeEverywhere (own := true)
    (m := .resumeNormal)
  exact .trans (.apart {}) (.works hmodes.then_aside.then_presencesAtAllClear.then_writeJournal.then_reply)

theorem serveTakeNotice_course (l : Link) (s : State) (h : free l) : Course free s (serveTakeNotice l s) := by
  refine .trans (.take l s h) ?_
  unfold serveTakeNotice
  dsimp only
  split <;> exact reply_course ..

theorem serveSetAttentionMode_course (l : Link) (mode : Nat) (s : State) : Course free s (serveSetAttentionMode l mode s) := by
  unfold serveSetAttentionMode
  split
  · exact reply_course ..
  · exact .trans (.mode l _ s) (reply_course ..)

/-- R153, R175: every request in hand is served by a course; only TAKE NOTICE takes a notice, on its own link. -/
theorem serveRequest_course (l : Link) (r : Request) (s : State) (hh : (s.port l).inFlight = some ⟨r, .handed⟩)
    (hfree : r = .takeNotice → free l) : Course free s (serveRequest l r s) := by
  by_cases hr : stirs r = false
  · exact .works (serveRequest_works l r s hr hh)
  cases r with
  | setClock t => exact checked_course (acceptSetClock_course l t s)
  | alignClock => exact checked_course (acceptAlignClock_course l s)
  | setMark m =>
    exact checked_course (f := fun s => reply l .done (.mark m) { s with mark := m }) (.trans (.apart {}) (reply_course ..))
  | writeTimings t => exact checked_course (.trans (.apart {}) (.works (.then_reply (.then_writeJournal (.refl _)))))
  | allClear => exact checked_course (acceptAllClear_course l s)
  | takeNotice => exact serveTakeNotice_course l s (hfree rfl)
  | setNoticeMask k => exact .trans (.mask l _ s (Nat.min_le_left 6 k)) (reply_course ..)
  | setAttentionMode m => exact serveSetAttentionMode_course l m s
  | _ => exact absurd rfl hr

/-! ### What a fall and a restart complete -/

theorem completeSweep_course (full : Bool) (s : State) : Course free s (completeSweep full s) := by
  have hreview : Course free s (if full then postReview s else s) := by
    split
    · exact .works (.then_post (.refl s))
    · exact .refl s
  refine hreview.trans ?_
  unfold completeSweep
  generalize (if full = true then postReview s else s) = u
  dsimp only
  split <;> exact .apart {}

theorem advanceSweep_course (run : SweepRun) (s : State) : Course free s (advanceSweep run s) := by
  unfold advanceSweep
  split
  · exact .apart {}
  · split
    · exact .apart {}
    · exact completeSweep_course ..

theorem serveSweepStep_course (s : State) : Course free s (serveSweepStep s) := by
  unfold serveSweepStep
  split
  · exact .refl s
  · refine .trans (.works ?_) (advanceSweep_course ..)
    split
    · exact .then_permitStep (.refl s)
    · exact .then_presenceStep (.refl s)

theorem serveTurn_course (s : State) (hfree : ∀ l, (s.port l).inFlight = some ⟨.takeNotice, .handed⟩ → free l) :
    Course free s (serveTurn s) := by
  unfold serveTurn
  rcases s.turn with _ | ⟨user, began⟩
  · exact .refl s
  · cases user with
    | decision rd clearAfter => exact .works (.then_serveDecision (.refl s))
    | request l =>
      dsimp only
      split
      · next r hf => exact serveRequest_course l r s hf fun e => hfree l (e ▸ hf)
      · exact .refl s
    | walkStep => exact .works (.then_serveWalkStep (.refl s))
    | sweepStep => exact serveSweepStep_course s

theorem finishTurn_course (s : State) (hfree : ∀ l, (s.port l).inFlight = some ⟨.takeNotice, .handed⟩ → free l) :
    Course free s (finishTurn s) :=
  (serveTurn_course s hfree).trans (.works (.then_drainHeld (.then_aside (.refl _))))

theorem serveHanded_course (l : Link) (s : State) (hfree : (s.port l).inFlight = some ⟨.takeNotice, .handed⟩ → free l) :
    Course free s (serveHanded l s) := by
  unfold serveHanded
  split
  · next r hf =>
    split
    · exact .refl s
    · exact serveRequest_course l r s hf fun e => hfree (e ▸ hf)
  · exact .refl s

/-- R12, R55: what a fall of supply completes first is a course. -/
theorem settle_course (s : State) (hfree : ∀ l, (s.port l).inFlight = some ⟨.takeNotice, .handed⟩ → free l) :
    Course free s (settle s) := by
  have hworks := serveHanded_course .works s (hfree .works)
  have hboth := hworks.trans
    (serveHanded_course .security (serveHanded .works s) fun h => hfree .security (hworks.handed .security _ h))
  exact hboth.trans (finishTurn_course _ fun l h => hfree l (hboth.handed l _ h))

theorem takeEvacuation_course (s : State) : Course free s (takeEvacuation s) := by
  unfold takeEvacuation
  refine .trans (.apart (t := { s with evacuateTaken := s.evacuateLine, evacuating := s.evacuateLine
                                       edgeCount := if s.evacuateLine then 1 else 0 }) {}) (.works ?_)
  dsimp only
  split
  · exact .then_announceEvacuation (.then_aside (.then_queueModeEverywhere (.refl _)))
  · exact .then_queueModeEverywhere (.refl _)

/-! ### The ports -/

theorem Passage.refl (s : State) : Passage free s s := .course (.refl s)

theorem Framing.passage {s t : State} (h : Framing s t) : Passage free s t := by
  induction h with
  | works h => exact .course (.works h)
  | port l q s mask mode attention sound => exact .port l q s mask mode attention sound
  | trans h k ih ik => exact ih.trans ik

end

theorem Framing.refl (s : State) : Framing s s := .works (.refl s)

/-- R176: a refusal finds its place among those open to refusals, or is discarded. -/
theorem refuse_framing (l : Link) (code : Nat) (st : Status) (s : State) : Framing s (refuse l code st s) := by
  unfold refuse
  dsimp only
  split
  · next hroom =>
    refine .port l _ s rfl rfl rfl fun ⟨hmask, hlen, hcount⟩ => ⟨hmask, ?_, ?_⟩
    · have : (s.port l).placesForRefusals ≤ Config.transmitCapacity := by
        unfold Port.placesForRefusals
        split <;> simp [Config.transmitCapacity]
      simp only [List.length_append, List.length_singleton]
      omega
    · simpa [List.filter_append] using hcount
  · exact .refl s

/-- R175: a request handed over to its owner on a port that has none in flight. -/
theorem hand_framing (l : Link) (r : Request) (s : State) (hfree : (s.port l).inFlight = none) : Framing s (hand l r s) := by
  have hport : Framing s (s.setPort l { s.port l with inFlight := some ⟨r, .handed⟩ }) :=
    .port l _ s rfl rfl rfl fun ⟨hmask, hlen, hcount⟩ => ⟨hmask, hlen, by simpa [hfree] using hcount⟩
  unfold hand
  dsimp only
  split
  · exact hport.trans (.works (.then_grantNext (.refl _)))
  · exact hport

theorem not_busy (p : Port) (h : ¬ p.busy = true) : p.inFlight = none := by simpa [Port.busy] using h

theorem present_framing (l : Link) (r : Request) (s : State) : Framing s (present l r s) := by
  unfold present takeRequest
  split
  · exact .refl s
  · split
    · exact refuse_framing ..
    · next hbusy =>
      split
      · exact refuse_framing ..
      · exact hand_framing l r s (not_busy _ hbusy)

theorem setReception_framing (l : Link) (x : Reception) (s : State) : Framing s (setReception l x s) :=
  .port l _ s rfl rfl rfl id

theorem judgeFrame_framing (l : Link) (os : List Byte) (s : State) : Framing s (judgeFrame l os s) := by
  refine .trans (setReception_framing l .awaitingStart s) ?_
  unfold judgeFrame
  dsimp only
  split
  · split
    · unfold takeFrame
      split
      · exact refuse_framing ..
      · next hbusy =>
        split
        · exact refuse_framing ..
        · split
          · split
            · exact refuse_framing ..
            · exact hand_framing l _ _ (not_busy _ hbusy)
          · exact refuse_framing ..
    · exact .refl _
  · exact .refl _

theorem startOctet_framing (l : Link) (o : Byte) (s : State) : Framing s (startOctet l o s) := by
  unfold startOctet
  split <;> exact setReception_framing ..

theorem takeOctet_framing (l : Link) (o : Byte) (s : State) : Framing s (takeOctet l o s) := by
  unfold takeOctet
  split
  · exact startOctet_framing ..
  · exact setReception_framing ..
  · split
    · exact (judgeFrame_framing ..).trans (startOctet_framing ..)
    · exact setReception_framing ..

/-- R176: a reply sent leaves its port's queue, and the port ceases to be busy with the reply to its request in flight. -/
theorem sendReply_framing (l : Link) (r : Reply) (rest : List Reply) (s : State) (h : (s.port l).transmit = r :: rest) :
    Framing s (sendReply l r rest s) := by
  refine .port l _ s rfl rfl rfl fun ⟨hmask, hlen, hcount⟩ => ⟨hmask, ?_, ?_⟩
  · rw [h, List.length_cons] at hlen
    exact (Nat.le_succ _).trans hlen
  · rw [h] at hcount
    cases hr : r.answers with
    | false => simpa [hr] using hcount
    | true =>
      have : (rest.filter (·.answers)).length + 1 ≤ 1 := by
        simp only [List.filter_cons, hr, if_true, List.length_cons] at hcount
        rw [hcount]
        split <;> omega
      simpa using this

/-! ### The commands -/

/-- The commands on the link ports alone: octets, gaps and frames. -/
def framing : Instr → Bool
  | .frameReceived _ | .interOctetTimeout _ | .octetReceived _ _ => true
  | _ => false

theorem exec_framing (c : Instr) (s t : State) (h : exec c s = .next t) (hc : framing c = true) : Framing s t := by
  cases c with
  | frameReceived l =>
    obtain rfl := Host.Outcome.next.inj h
    split
    · split
      · exact judgeFrame_framing ..
      · exact .refl s
    · exact .refl s
  | interOctetTimeout l =>
    obtain rfl := Host.Outcome.next.inj h
    split
    · exact .refl s
    · split
      · exact .refl s
      · exact setReception_framing ..
  | octetReceived l o =>
    obtain rfl := Host.Outcome.next.inj h
    split
    · exact .refl s
    · exact takeOctet_framing ..
  | _ => cases hc

/-- The commands within the part's work: the walks' steps, the decisions, the loop and the timers of holds and doors. -/
def steady : Instr → Bool
  | .suspendFirmStep | .resumeFirmStep | .poll | .statusReply _ | .stationMiss | .entryDecision | .exitDecision | .holdDeadline _
  | .releaseEnd _ | .heldOpenLimit _ | .heldResolution => true
  | _ => false

theorem exec_steady (c : Instr) (s t : State) (h : exec c s = .next t) (hc : steady c = true) : Works s t := by
  have hw := Works.refl s
  cases c with
  | suspendFirmStep =>
    obtain rfl := Host.Outcome.next.inj h
    split
    · split
      · exact hw.then_serveWalkStep.then_endTurn
      · exact hw
    · exact hw
  | resumeFirmStep =>
    obtain rfl := Host.Outcome.next.inj h
    split
    · split
      · exact hw.then_serveWalkStep.then_endTurn
      · exact hw
    · exact hw
  | poll =>
    obtain rfl := Host.Outcome.next.inj h
    split
    · exact hw.then_aside
    · exact hw
  | statusReply r =>
    obtain rfl := Host.Outcome.next.inj h
    split
    · dsimp only
      split
      · exact .then_takeReply hw.then_aside
      · exact .then_takeMiss hw.then_aside
    · exact hw
  | stationMiss =>
    obtain rfl := Host.Outcome.next.inj h
    split
    · exact .then_takeMiss hw.then_aside
    · exact hw
  | entryDecision =>
    obtain rfl := Host.Outcome.next.inj h
    split
    · split
      · exact hw.then_serveDecision.then_endTurn
      · exact hw
    · exact hw
  | exitDecision =>
    obtain rfl := Host.Outcome.next.inj h
    split
    · split
      · exact hw
      · exact hw.then_serveDecision.then_endTurn
    · exact hw
  | holdDeadline r =>
    obtain rfl := Host.Outcome.next.inj h
    split
    · split
      · exact hw.then_closeHold
      · exact hw
    · exact hw
  | releaseEnd r =>
    obtain rfl := Host.Outcome.next.inj h
    split
    · exact hw
    · exact hw
    · exact hw.then_setDoor.then_handOver
    · exact hw
  | heldOpenLimit r =>
    obtain rfl := Host.Outcome.next.inj h
    split
    · exact hw
    · exact hw.then_holdDoor
    · exact hw
  | heldResolution =>
    obtain rfl := Host.Outcome.next.inj h
    split
    · exact .then_grantNext (.then_applyEffect hw.then_aside)
    · exact hw
  | _ => cases hc

section
variable {free : Link → Prop}

theorem requestRow_passage (l : Link) (r : Request) (s : State) (hfree : r = .takeNotice → free l) :
    Passage free s (requestRow l r s) := by
  have hp := (present_framing l r s).passage (free := free)
  have hserve : inHand l r (present l r s) = true → Passage free s (serveRequest l r (present l r s)) := fun hh =>
    hp.trans (.course (serveRequest_course l r _ ((inHand_iff ..).mp hh) hfree))
  rcases requestRow_cases l r s with h | h | ⟨hh, h | h⟩
  · rw [h]; exact .refl s
  · rw [h]; exact hp
  · rw [h]; exact hserve hh
  · rw [h]; exact (hserve hh).trans (.course (.works (.then_endTurn (.refl _))))

/-! ### The part's own events -/

theorem execTick_passage (s : State) : Passage free s
    (if s.clock.second < 59 then
      { s with clock := s.clock.tick, holds := mapAll (Option.map Hold.tick) s.holds, doors := mapAll Door.tick s.doors }
    else raiseEvent
      { s with clock := s.clock.tick, holds := mapAll (Option.map Hold.tick) s.holds, doors := mapAll Door.tick s.doors }) := by
  split
  · exact .course (.apart {})
  · exact .course (.trans (.apart {}) (raiseEvent_course _))

theorem startEvacuation_course (s : State) : Course free s (startEvacuation s) := by
  refine .trans (.apart (t := { s with evacuating := true, edgeCount := 1 }) {}) (.works ?_)
  exact Works.then_foldl (fun _ _ h => h.then_cancelHold) _ (Works.then_foldl (fun _ _ h => h.then_evacuateDoor) _
    (.then_queueModeEverywhere (.then_announceEvacuation (.refl _))))

theorem furtherEdge_course (s : State) : Course free s (furtherEdge s) :=
  .trans (.apart {}) (.works (.then_queueModeEverywhere (.then_announceEvacuation (.refl _))))

theorem serveSweepStep_endTurn (s : State) : Passage free s (endTurn (serveSweepStep s)) :=
  .course ((serveSweepStep_course s).trans (.works (.then_endTurn (.refl _))))

/-- The commands that may put blocks at their reset values: POWER_UP, the fall and the return of the supply, the RESET line, and a
reply sent while a RESTART is in flight. -/
def mayReset (s : State) : Instr → Bool
  | .powerUp _ _ | .supplyFall | .warmReturn | .resetLine => true
  | .replySent l => (s.port l).inFlight.any (·.request == .restart)
  | _ => false

/-- Every command but those that may reset is a passage; only TAKE NOTICE takes a notice, on its own link. -/
theorem exec_passage (c : Instr) (s t : State) (h : exec c s = .next t) (hc : mayReset s c = false)
    (hfree : ∀ l, c = .takeNotice l → free l) : Passage free s t := by
  by_cases hsteady : steady c = true
  · exact .course (.works (exec_steady c s t h hsteady))
  by_cases hframing : framing c = true
  · exact (exec_framing c s t h hframing).passage
  cases hreq : c.request with
  | some x =>
    obtain ⟨l, r⟩ := x
    rw [exec_requestRow c l r hreq] at h
    obtain rfl := Host.Outcome.next.inj h
    refine requestRow_passage l r s fun e => hfree l ?_
    subst e
    cases c <;> cases hreq
    rfl
  | none =>
    cases c with
    | powerUp | supplyFall | warmReturn | resetLine => cases hc
    | tick =>
      obtain rfl := Host.Outcome.next.inj h
      exact execTick_passage s
    | replySent l =>
      obtain rfl := Host.Outcome.next.inj h
      split
      · next r rest hs ht =>
        have hno : answersRestart (s.port l) r = false := by
          simp only [mayReset] at hc
          simp [answersRestart, hc]
        simp only [hno]
        exact (sendReply_framing l r rest s ht).passage
      · exact .refl s
    | sweepPermitStep =>
      obtain rfl := Host.Outcome.next.inj h
      split
      · split
        · exact serveSweepStep_endTurn s
        · exact .refl s
      · exact .refl s
    | sweepPresenceStep =>
      obtain rfl := Host.Outcome.next.inj h
      split
      · split
        · exact serveSweepStep_endTurn s
        · exact .refl s
      · exact .refl s
    | pulseEnd l =>
      obtain rfl := Host.Outcome.next.inj h
      split
      · next hm => exact .course (.pulseOver l s hm)
      · exact .refl s
    | evacuateRise =>
      obtain rfl := Host.Outcome.next.inj h
      split
      · exact .refl s
      · split
        · exact .course (.apart {})
        · exact .course (.trans (.apart {}) (startEvacuation_course _))
        · exact .course (.trans (.apart {}) (furtherEdge_course _))
    | evacuateFall =>
      obtain rfl := Host.Outcome.next.inj h
      split <;> exact .course (.apart {})
    | suspendFirmStep | resumeFirmStep | poll | statusReply | stationMiss | entryDecision | exitDecision | holdDeadline | releaseEnd
    | heldOpenLimit | heldResolution => exact absurd rfl hsteady
    | frameReceived | interOctetTimeout | octetReceived => exact absurd rfl hframing
    | _ => cases hreq

end

end Sys2Proof.Machine
end

section
/-! The notice queues, the journal, the ports and the attention lines through the resets, and the two laws on them (O58, O52). -/

namespace Sys2Proof.Machine

/-- Every law on the reports is carried from one state to another. -/
structure KeepsReports (s t : State) : Prop where
  notices : NoticesSound s → NoticesSound t
  journal : JournalSound s → JournalSound t
  ports : PortsSound s → PortsSound t
  attention : AttentionSound s → AttentionSound t

theorem KeepsReports.trans {s t u : State} (h : KeepsReports s t) (k : KeepsReports t u) : KeepsReports s u :=
  ⟨k.notices ∘ h.notices, k.journal ∘ h.journal, k.ports ∘ h.ports, k.attention ∘ h.attention⟩

theorem Passage.keepsReports {free : Link → Prop} {s t : State} (h : Passage free s t) : KeepsReports s t :=
  ⟨h.noticesSound, h.journalSound, h.portsSound, h.attentionSound⟩

theorem Course.keepsReports {free : Link → Prop} {s t : State} (h : Course free s t) : KeepsReports s t :=
  (Passage.course h).keepsReports

theorem Works.keepsReports {s t : State} (h : Works s t) : KeepsReports s t :=
  (Course.works (free := fun _ => True) h).keepsReports

/-! ### Cleared ports -/

theorem portSound_cleared (p : Port) (h : PortSound p) : PortSound p.cleared :=
  ⟨h.1, by simp [Port.cleared], by simp [Port.cleared]⟩

@[simp] theorem quiesce_port (s : State) (l : Link) : (quiesce s).port l = (s.port l).cleared := by cases l <;> rfl

@[simp] theorem quiesce_queue (s : State) (l : Link) : (quiesce s).queue l = s.queue l := rfl

theorem portsSound_of_cleared {s t : State} (h : ∀ l, t.port l = (s.port l).cleared) (hs : PortsSound s) : PortsSound t := fun l =>
  h l ▸ portSound_cleared _ (hs l)

/-- R13, R180: with its ports cleared in BACKUP, or with empty queues, a part's lines meet their law. -/
theorem attentionSound_of_released {t : State} (ha : ∀ l, (t.port l).attention = false)
    (hq : t.supply = .normal → ∀ l, (t.queue l).notices = []) : AttentionSound t :=
  fun l => ⟨fun _ => ha l, fun hn _ => by simp [ha l, NoticeQueue.above, hq hn l]⟩

/-! ### The supply -/

theorem fallToBackup_keepsReports (s : State) : KeepsReports s (fallToBackup s) := by
  have hquiet : KeepsReports (settle s) { quiesce (settle s) with supply := .backup, backupMinutes := 0 } :=
    ⟨id, id, portsSound_of_cleared (quiesce_port _),
      fun _ => attentionSound_of_released (fun l => by cases l <;> rfl) (fun h => nomatch h)⟩
  exact ((settle_course (free := fun _ => True) s fun _ _ => trivial).keepsReports.trans hquiet).trans
    (Works.then_presencesAtReset (.refl _)).keepsReports

/-- R157: a notice that goes to both queues has both lines judged. -/
theorem attentionSound_posted_to_both (b : NoticeBody) (s : State) (hb : b.queues = [.works, .security])
    (hs : s.supply = .normal) : AttentionSound (post b s) := by
  rw [post_normal b s hs, hb]
  simp only [List.foldl_cons, List.foldl_nil]
  intro l
  cases l with
  | works => exact postTo_lineSound_other _ (by decide) (postTo_lineSound _ _ _ hs)
  | security => exact postTo_lineSound _ _ _ (by rw [(postTo_kept ..).supply, hs])

theorem journalDueRestart_works (s : State) : Works s (journalDueRestart s) := by
  unfold journalDueRestart
  split
  · exact .then_aside (.then_writeJournal (.refl s))
  · exact .refl s

theorem returnFromBackup_keepsReports (s : State) : KeepsReports s (returnFromBackup s) := by
  have hquiet : ∀ u, u = { quiesce s with supply := .normal, backupMinutes := 0 } →
      (NoticesSound s → NoticesSound u) ∧ (JournalSound s → JournalSound u) ∧ (PortsSound s → PortsSound u) := by
    rintro _ rfl
    exact ⟨id, id, portsSound_of_cleared (quiesce_port s)⟩
  obtain ⟨hn, hj, hp⟩ := hquiet _ rfl
  have hpost := (journalDueRestart_works { quiesce s with supply := .normal, backupMinutes := 0 }).then_post
    (b := { kind := .supplyReturn, figures := .value s.backupMinutes })
  have hreport : KeepsReports s (post { kind := .supplyReturn, figures := .value s.backupMinutes }
      (journalDueRestart { quiesce s with supply := .normal, backupMinutes := 0 })) :=
    ⟨hpost.noticesSound ∘ hn, hpost.journalSound ∘ hj, hpost.portsSound ∘ hp,
      fun _ => attentionSound_posted_to_both _ _ rfl (journalDueRestart_works _).core.supply⟩
  exact hreport.trans ((Course.works (free := fun _ => True) (.then_writeJournal (.refl _))).trans
    (takeEvacuation_course _)).keepsReports

/-! ### Restarts and cold starts -/

theorem recordRestart_course {free : Link → Prop} (value : Nat) (s : State) : Course free s (recordRestart value s) := by
  unfold recordRestart
  split
  · exact .apart {}
  · exact .trans (.works (.then_writeJournal (.refl s))) (takeEvacuation_course _)

theorem emptied_keepsReports (s : State) : KeepsReports s (emptyNotices (quiesce s)) := by
  have hempty : ∀ l, ((emptyNotices (quiesce s)).queue l).notices = [] := fun l => by cases l <;> rfl
  exact ⟨fun _ l => ⟨by simp [hempty l], by simp [hempty l]⟩, id, portsSound_of_cleared (quiesce_port s),
    fun _ => attentionSound_of_released (fun l => by cases l <;> rfl) fun _ => hempty⟩

theorem takeRestart_keepsReports (value : Nat) (s : State) : KeepsReports s (takeRestart value s) :=
  (((finishTurn_course (free := fun _ => True) s fun _ _ => trivial).keepsReports.trans (emptied_keepsReports _)).trans
    (Works.then_presencesAtReset (.refl _)).keepsReports).trans (recordRestart_course (free := fun _ => True) value _).keepsReports

theorem reset_noticesSound : NoticesSound State.reset := by
  intro l
  have hempty : (State.reset.queue l).notices = [] := by cases l <;> rfl
  exact ⟨by simp [hempty], by simp [hempty]⟩

theorem reset_journalSound : JournalSound State.reset := ⟨by decide, fun k r h => by simp [State.reset] at h⟩

theorem reset_portsSound : PortsSound State.reset := by
  intro l
  have hinitial : State.reset.port l = Port.initial := by cases l <;> rfl
  rw [hinitial]
  exact ⟨by decide, by decide, rfl⟩

theorem coldStart_keepsReports (x y : Bool) (s : State) : KeepsReports s (coldStart x y s) := by
  refine KeepsReports.trans ?_ (takeEvacuation_course (free := fun _ => True) _).keepsReports
  exact ⟨fun _ => noticesSound_of_queues (fun _ => rfl) reset_noticesSound, fun _ => journalSound_of_same rfl rfl reset_journalSound,
    fun _ => portsSound_of_ports rfl reset_portsSound,
    fun _ => attentionSound_of_released (fun l => by cases l <;> rfl) fun _ l => by cases l <;> rfl⟩

theorem exec_keepsReports (c : Instr) (s t : State) (h : exec c s = .next t) : KeepsReports s t := by
  by_cases hc : mayReset s c = false
  · exact (exec_passage (free := fun _ => True) c s t h hc fun _ _ => trivial).keepsReports
  have hpin : ∀ {u v : State}, SameReports u v → KeepsReports u v := fun r =>
    (Course.apart (free := fun _ => True) r).keepsReports
  cases c with
  | powerUp x y =>
    obtain rfl := Host.Outcome.next.inj h
    exact coldStart_keepsReports x y s
  | supplyFall =>
    obtain rfl := Host.Outcome.next.inj h
    split
    · exact hpin {}
    · exact (fallToBackup_keepsReports s).trans (hpin {})
  | warmReturn =>
    obtain rfl := Host.Outcome.next.inj h
    split
    · exact hpin {}
    · exact (returnFromBackup_keepsReports s).trans (hpin {})
  | resetLine =>
    obtain rfl := Host.Outcome.next.inj h
    exact (takeRestart_keepsReports 0 s).trans (hpin {})
  | replySent l =>
    obtain rfl := Host.Outcome.next.inj h
    split
    · next r rest hs ht =>
      have hsent := ((sendReply_framing l r rest s ht).passage (free := fun _ => True)).keepsReports
      dsimp only
      split
      · exact hsent.trans (takeRestart_keepsReports 1 _)
      · exact hsent
    · exact hpin {}
  | _ => exact absurd rfl hc

end Sys2Proof.Machine

/-- Settles O58: every command is a passage, or a reset, and either keeps each law. -/
theorem everyCommandKeepsReportsSound : Obligations.EveryCommandKeepsReportsSound := by
  intro c s t h
  obtain ⟨hnotices, hjournal, hports, hattention⟩ := Sys2Proof.Machine.exec_keepsReports c s t h
  exact ⟨hnotices, hjournal, hports, hattention⟩

namespace Sys2Proof.Machine

/-! ### Level-7 notices -/

/-- R12, R153: a fall of supply on a link with no TAKE NOTICE handed over. -/
theorem fallToBackup_count_le (s : State) {n : Notice} (hn : n.level = 7) {l : Link}
    (hl : (s.port l).inFlight ≠ some ⟨.takeNotice, .handed⟩) :
    (s.queue l).notices.count n ≤ ((fallToBackup s).queue l).notices.count n := by
  have hsettle := (settle_course (free := (· ≠ l)) s fun m hm e => hl (e ▸ hm)).count_le hn (l := l) (by simp)
  exact hsettle.trans (Works.count_le (s := { quiesce (settle s) with supply := .backup, backupMinutes := 0 })
    (.then_presencesAtReset (.refl _)) hn l)

theorem returnFromBackup_count_le (s : State) {n : Notice} (hn : n.level = 7) (l : Link) :
    (s.queue l).notices.count n ≤ ((returnFromBackup s).queue l).notices.count n := by
  have hpost := (journalDueRestart_works { quiesce s with supply := .normal, backupMinutes := 0 }).then_post
    (b := { kind := .supplyReturn, figures := .value s.backupMinutes })
  exact (hpost.count_le hn l).trans (((Course.works (free := fun _ => False) (.then_writeJournal (.refl _))).trans
    (takeEvacuation_course _)).count_le hn id)

end Sys2Proof.Machine

open Sys2Proof Sys2Proof.Machine in
/-- Settles O52: what may reset is excluded but for the fall and the return, and no other command takes a notice of that link. -/
theorem levelSevenNoticesStay : Obligations.LevelSevenNoticesStay := by
  intro c l n s t hn h htake hreset hpower hsent hfall
  by_cases hc : mayReset s c = false
  · exact (exec_passage (free := (· ≠ l)) c s t h hc fun m hm e => htake (e ▸ hm)).count_le hn (by simp)
  cases c with
  | powerUp x y => exact absurd rfl (hpower x y)
  | resetLine => exact absurd rfl hreset
  | supplyFall =>
    obtain rfl := Host.Outcome.next.inj h
    split
    · exact le_rfl
    · exact fallToBackup_count_le s hn (hfall rfl)
  | warmReturn =>
    obtain rfl := Host.Outcome.next.inj h
    split
    · exact le_rfl
    · exact returnFromBackup_count_le s hn l
  | replySent m =>
    have hno : mayReset s (.replySent m) = false := by
      cases hf : (s.port m).inFlight with
      | none => simp [mayReset, hf]
      | some f => simpa [mayReset, hf] using hsent m f rfl hf
    exact absurd hno hc
  | _ => exact absurd rfl hc
end

section
/-! The calendar (O13): the days before a year and before a month, the searches of R62, and the next minute. -/

namespace Sys2Proof

theorem CivilMinute.inRange_iff (t : CivilMinute) : t.inRange = true ↔
    2000 ≤ t.year ∧ t.year ≤ 2099 ∧ 1 ≤ t.month ∧ t.month ≤ 12 ∧ 1 ≤ t.day ∧ t.day ≤ monthLength t.year t.month ∧
      t.hour ≤ 23 ∧ t.minute ≤ 59 := by
  simp [CivilMinute.inRange, and_assoc]

theorem CivilTime.inRange_iff (t : CivilTime) : t.inRange = true ↔ t.minutePart.inRange = true ∧ t.second ≤ 59 := by
  simp [CivilTime.inRange]

/-! ### Years -/

/-- R1: the days of the year 2000 + y. -/
def yearLength (y : Nat) : Nat := if y % 4 = 0 then 366 else 365

theorem daysBeforeYear_succ (y : Nat) : daysBeforeYear (y + 1) = daysBeforeYear y + yearLength y := by
  simp only [daysBeforeYear, yearLength]
  split <;> omega

theorem daysBeforeYear_mono {y z : Nat} (h : y ≤ z) : daysBeforeYear y ≤ daysBeforeYear z := by
  simp only [daysBeforeYear]
  omega

/-- R62: the search finds the last year, up to `k`, that has begun by day `d`. -/
theorem yearFrom_spec (d k : Nat) :
    yearFrom d k ≤ k ∧ daysBeforeYear (yearFrom d k) ≤ d ∧ (yearFrom d k < k → d < daysBeforeYear (yearFrom d k + 1)) := by
  induction k with
  | zero => simp [yearFrom, daysBeforeYear]
  | succ k ih =>
    unfold yearFrom
    split
    · next hle => exact ⟨le_rfl, hle, fun h => absurd h (Nat.lt_irrefl _)⟩
    · next hgt =>
      obtain ⟨hk, hd, hnext⟩ := ih
      refine ⟨hk.trans (Nat.le_succ k), hd, fun _ => ?_⟩
      rcases Nat.lt_or_eq_of_le hk with hlt | heq
      · exact hnext hlt
      · rw [heq]; omega

theorem yearFrom_eq {y d k : Nat} (hk : y ≤ k) (hd : daysBeforeYear y ≤ d) (hnext : d < daysBeforeYear (y + 1)) :
    yearFrom d k = y := by
  obtain ⟨-, hle, hlt⟩ := yearFrom_spec d k
  rcases Nat.lt_trichotomy (yearFrom d k) y with h | h | h
  · have := daysBeforeYear_mono (show yearFrom d k + 1 ≤ y from h)
    have := hlt (by omega)
    omega
  · exact h
  · have := daysBeforeYear_mono (show y + 1 ≤ yearFrom d k from h)
    omega

/-! ### Months -/

theorem daysBeforeMonth_one (y : Nat) : daysBeforeMonth y 1 = 0 := by simp [daysBeforeMonth, daysBeforeMonthPlain]

theorem leapYear_from_2000 (y : Nat) : leapYear (2000 + y) = decide (y % 4 = 0) := by
  simp only [leapYear, Nat.add_mod 2000 y 4]
  rw [Bool.eq_iff_iff]
  simp

theorem daysBeforeMonth_succ {y mo : Nat} (h1 : 1 ≤ mo) (h12 : mo < 12) :
    daysBeforeMonth y (mo + 1) = daysBeforeMonth y mo + monthLength (2000 + y) mo := by
  simp only [daysBeforeMonth, monthLength, leapYear_from_2000]
  by_cases hleap : y % 4 = 0 <;> interval_cases mo <;> simp [daysBeforeMonthPlain, hleap]

theorem daysBeforeMonth_december (y : Nat) : daysBeforeMonth y 12 + monthLength (2000 + y) 12 = yearLength y := by
  by_cases hleap : y % 4 = 0 <;> simp [daysBeforeMonth, daysBeforeMonthPlain, monthLength, yearLength, hleap]

theorem monthLength_pos (year month : Nat) : 1 ≤ monthLength year month := by
  unfold monthLength
  split
  · split <;> omega
  · split <;> omega

theorem daysBeforeMonth_mono {y a b : Nat} (h1 : 1 ≤ a) (hab : a ≤ b) (h12 : b ≤ 12) :
    daysBeforeMonth y a ≤ daysBeforeMonth y b := by
  induction b, hab using Nat.le_induction with
  | base => exact le_rfl
  | succ b hab ih =>
    have := ih (by omega)
    rw [daysBeforeMonth_succ (h1.trans hab) (by omega)]
    omega

/-- R62: the search finds the last month, up to `k`, that has begun by day `d` of the year. -/
theorem monthFrom_spec (y d k : Nat) :
    1 ≤ monthFrom y d k ∧ monthFrom y d k ≤ max 1 k ∧ daysBeforeMonth y (monthFrom y d k) ≤ d ∧
      (monthFrom y d k < k → d < daysBeforeMonth y (monthFrom y d k + 1)) := by
  induction k with
  | zero => simp [monthFrom, daysBeforeMonth_one]
  | succ k ih =>
    unfold monthFrom
    split
    · next hle => exact ⟨by omega, by omega, hle, fun h => absurd h (Nat.lt_irrefl _)⟩
    · next hgt =>
      obtain ⟨h1, hk, hd, hnext⟩ := ih
      refine ⟨h1, by omega, hd, fun _ => ?_⟩
      rcases Nat.lt_or_ge (monthFrom y d k) k with hlt | hge
      · exact hnext hlt
      · rcases Nat.eq_zero_or_pos k with rfl | hpos
        · exact absurd (by simp [daysBeforeMonth_one]) hgt
        · rw [show monthFrom y d k = k by omega]; omega

theorem monthFrom_eq {y mo d : Nat} (h1 : 1 ≤ mo) (h12 : mo ≤ 12) (hd : daysBeforeMonth y mo ≤ d)
    (hnext : d < daysBeforeMonth y mo + monthLength (2000 + y) mo) : monthFrom y d 12 = mo := by
  obtain ⟨hone, htop, hle, hlt⟩ := monthFrom_spec y d 12
  rcases Nat.lt_trichotomy (monthFrom y d 12) mo with h | h | h
  · have := daysBeforeMonth_mono (y := y) (by omega) (show monthFrom y d 12 + 1 ≤ mo from h) h12
    have := hlt (by omega)
    omega
  · exact h
  · have := daysBeforeMonth_mono (y := y) (a := mo + 1) (by omega) h (by omega)
    have := daysBeforeMonth_succ (y := y) h1 (by omega)
    omega

/-! ### Dates -/

/-- A date lies within its year. -/
theorem dayOfYear_lt {y mo day : Nat} (h1 : 1 ≤ mo) (h12 : mo ≤ 12) (hday : 1 ≤ day) (hlen : day ≤ monthLength (2000 + y) mo) :
    daysBeforeMonth y mo + (day - 1) < yearLength y := by
  have hdec := daysBeforeMonth_december y
  rcases Nat.lt_or_ge mo 12 with hmo | hmo
  · have hsucc := daysBeforeMonth_succ (y := y) h1 hmo
    have := daysBeforeMonth_mono (y := y) (a := mo + 1) (by omega) (by omega) le_rfl
    have := monthLength_pos (2000 + y) 12
    omega
  · obtain rfl : mo = 12 := by omega
    omega

/-- R62: the search on the day number of a date finds that date's year and month. -/
theorem search_of_date {y mo day : Nat} (hy : y ≤ 99) (h1 : 1 ≤ mo) (h12 : mo ≤ 12) (hday : 1 ≤ day)
    (hlen : day ≤ monthLength (2000 + y) mo) :
    yearFrom (daysBeforeYear y + daysBeforeMonth y mo + (day - 1)) 100 = y ∧
      monthFrom y (daysBeforeMonth y mo + (day - 1)) 12 = mo := by
  have hin := dayOfYear_lt h1 h12 hday hlen
  have hsucc := daysBeforeYear_succ y
  exact ⟨yearFrom_eq (by omega) (by omega) (by omega), monthFrom_eq h1 h12 (by omega) (by omega)⟩

/-- R62: every day of the range lies in a month of a year of the range. -/
theorem date_of_day {d : Nat} (hd : d ≤ 36524) :
    yearFrom d 100 ≤ 99 ∧ daysBeforeYear (yearFrom d 100) ≤ d ∧
      let y := yearFrom d 100
      let mo := monthFrom y (d - daysBeforeYear y) 12
      1 ≤ mo ∧ mo ≤ 12 ∧ daysBeforeMonth y mo ≤ d - daysBeforeYear y ∧
        d - daysBeforeYear y - daysBeforeMonth y mo + 1 ≤ monthLength (2000 + y) mo := by
  obtain ⟨hk, hle, hlt⟩ := yearFrom_spec d 100
  have hy : yearFrom d 100 ≤ 99 := by
    rcases Nat.lt_or_eq_of_le hk with h | h
    · omega
    · rw [h] at hle
      simp only [daysBeforeYear] at hle
      omega
  have hnext := hlt (by omega)
  rw [daysBeforeYear_succ] at hnext
  obtain ⟨hone, htop, hmle, hmlt⟩ := monthFrom_spec (yearFrom d 100) (d - daysBeforeYear (yearFrom d 100)) 12
  refine ⟨hy, hle, hone, by omega, hmle, ?_⟩
  rcases Nat.lt_or_eq_of_le (by omega : monthFrom (yearFrom d 100) (d - daysBeforeYear (yearFrom d 100)) 12 ≤ 12) with h | h
  · have := hmlt h
    rw [daysBeforeMonth_succ hone h] at this
    omega
  · rw [h] at hmle ⊢
    have := daysBeforeMonth_december (yearFrom d 100)
    omega

/-! ### Minutes -/

theorem civilOf_inRange {m : Nat} (hm : m ≤ 52595999) : (civilOf m).inRange = true := by
  obtain ⟨hy, -, h1, h12, -, hlen⟩ := date_of_day (d := m / 1440) (by omega)
  rw [CivilMinute.inRange_iff]
  refine ⟨Nat.le_add_right .., ?_, h1, h12, Nat.le_add_left .., hlen, ?_, ?_⟩
  · show 2000 + yearFrom (m / 1440) 100 ≤ 2099
    omega
  · show m % 1440 / 60 ≤ 23
    omega
  · show m % 1440 % 60 ≤ 59
    omega

theorem absMinute_civilOf {m : Nat} (hm : m ≤ 52595999) : absMinute (civilOf m) = m := by
  obtain ⟨-, hle, -, -, hmle, -⟩ := date_of_day (d := m / 1440) (by omega)
  simp only [absMinute, civilOf, dayNumber, Nat.add_sub_cancel_left, Nat.add_sub_cancel]
  omega

/-- R61: the fields of a minute in range give a minute of the range. -/
theorem absMinute_le {t : CivilMinute} (h : t.inRange = true) : absMinute t ≤ 52595999 := by
  obtain ⟨hy, hy', h1, h12, hday, hlen, hh, hmi⟩ := (CivilMinute.inRange_iff t).mp h
  have hin := dayOfYear_lt (y := t.year - 2000) h1 h12 hday (by rwa [Nat.add_sub_cancel' hy])
  have hsucc := daysBeforeYear_succ (t.year - 2000)
  have hend := daysBeforeYear_mono (show t.year - 2000 + 1 ≤ 100 by omega)
  have hlast : daysBeforeYear 100 = 36525 := rfl
  simp only [absMinute, dayNumber]
  omega

theorem civilOf_absMinute {t : CivilMinute} (h : t.inRange = true) : civilOf (absMinute t) = t := by
  obtain ⟨hy, hy', h1, h12, hday, hlen, hh, hmi⟩ := (CivilMinute.inRange_iff t).mp h
  obtain ⟨hyear, hmonth⟩ := search_of_date (y := t.year - 2000) (by omega) h1 h12 hday (by rwa [Nat.add_sub_cancel' hy])
  have hd : absMinute t / 1440 =
      daysBeforeYear (t.year - 2000) + daysBeforeMonth (t.year - 2000) t.month + (t.day - 1) := by
    simp only [absMinute, dayNumber]
    omega
  have hm : absMinute t % 1440 = t.hour * 60 + t.minute := by
    simp only [absMinute]
    omega
  have hin : daysBeforeYear (t.year - 2000) + daysBeforeMonth (t.year - 2000) t.month + (t.day - 1)
      - daysBeforeYear (t.year - 2000) = daysBeforeMonth (t.year - 2000) t.month + (t.day - 1) := by omega
  simp only [civilOf, hd, hm, hyear, hin, hmonth]
  show _ = CivilMinute.mk t.year t.month t.day t.hour t.minute
  rw [CivilMinute.mk.injEq]
  omega

/-- R2, R3: the next minute but for the last of 2099 is in range and has the next number. -/
theorem CivilMinute.next_spec {t : CivilMinute} (h : t.inRange = true) :
    t.next.inRange = true ∧ (absMinute t.next = absMinute t + 1 ∨ absMinute t = 52595999 ∧ absMinute t.next = 0) := by
  obtain ⟨hy, hy', h1, h12, hday, hlen, hh, hmi⟩ := (inRange_iff t).mp h
  rw [inRange_iff]
  have hyear : 2000 + (t.year - 2000) = t.year := Nat.add_sub_cancel' hy
  unfold next
  split
  · next hminute =>
    refine ⟨⟨hy, hy', h1, h12, hday, hlen, hh, ?_⟩, .inl ?_⟩
    · simp only; omega
    · simp only [absMinute]; omega
  split
  · next hhour =>
    refine ⟨⟨hy, hy', h1, h12, hday, hlen, ?_, Nat.zero_le _⟩, .inl ?_⟩
    · simp only; omega
    · simp only [absMinute]; omega
  split
  · next hd =>
    refine ⟨⟨hy, hy', h1, h12, ?_, hd, Nat.zero_le _, Nat.zero_le _⟩, .inl ?_⟩
    · simp only; omega
    · simp only [absMinute, dayNumber]; omega
  split
  · next hmonth =>
    refine ⟨⟨hy, hy', ?_, hmonth, le_rfl, monthLength_pos .., Nat.zero_le _, Nat.zero_le _⟩, .inl ?_⟩
    · simp only; omega
    · have hsucc := daysBeforeMonth_succ (y := t.year - 2000) h1 hmonth
      rw [hyear] at hsucc
      simp only [absMinute, dayNumber, hsucc]
      omega
  have hmonth : t.month = 12 := by omega
  have hdec := daysBeforeMonth_december (t.year - 2000)
  rw [hyear] at hdec
  split
  · next hyr =>
    refine ⟨⟨?_, hyr, le_rfl, show 1 ≤ 12 by decide, le_rfl, monthLength_pos .., Nat.zero_le _, Nat.zero_le _⟩, .inl ?_⟩
    · simp only; omega
    · have hsucc := daysBeforeYear_succ (t.year - 2000)
      rw [hmonth] at hlen
      simp only [absMinute, dayNumber, hmonth, Nat.sub_add_comm hy, hsucc, daysBeforeMonth_one] at *
      omega
  · refine ⟨by decide, .inr ⟨?_, by decide⟩⟩
    have hyr : t.year = 2099 := by omega
    have hlast : daysBeforeYear 99 + yearLength 99 = 36525 := by decide
    rw [hmonth] at hlen
    simp only [absMinute, dayNumber, hmonth, hyr, Nat.reduceSub] at *
    omega

theorem CivilMinute.next_inRange {t : CivilMinute} (h : t.inRange = true) : t.next.inRange = true := (next_spec h).1

theorem absMinute_next {t : CivilMinute} (h : t.inRange = true) :
    absMinute t.next = if absMinute t = 52595999 then 0 else absMinute t + 1 := by
  obtain ⟨hrange, hnext | ⟨hlast, hwrap⟩⟩ := CivilMinute.next_spec h
  · have := absMinute_le hrange
    rw [if_neg (by omega), hnext]
  · rw [if_pos hlast, hwrap]

/-- R2: a clock in range stays so at a tick. -/
theorem CivilTime.tick_inRange {t : CivilTime} (h : t.inRange = true) : t.tick.inRange = true := by
  obtain ⟨hminute, hsecond⟩ := (inRange_iff t).mp h
  unfold tick
  split
  · next hlt => exact (inRange_iff _).mpr ⟨hminute, hlt⟩
  · exact (inRange_iff _).mpr ⟨CivilMinute.next_inRange hminute, Nat.zero_le _⟩

end Sys2Proof

open Sys2Proof in
/-- Settles O13, from the searches of R62 and the days before years and months. -/
theorem calendarAgreesWithAbsoluteMinutes : Obligations.CalendarAgreesWithAbsoluteMinutes :=
  ⟨fun _ hm => ⟨civilOf_inRange hm, absMinute_civilOf hm⟩, fun _ h => ⟨absMinute_le h, civilOf_absMinute h⟩,
    fun _ h => ⟨CivilMinute.next_inRange h, absMinute_next h⟩, rfl, fun d => by simp only [weekdayOf]; omega⟩
end

section
/-! The clock, the evacuation state, the sweep and the stillness of BACKUP through every command (O57). -/

namespace Sys2Proof.Machine

/-- The laws on the clock, the evacuation state and the sweep are carried from one state to another. -/
structure KeepsCore (s t : State) : Prop where
  clock : ClockSound s → ClockSound t
  evacuation : EvacuationSound s → EvacuationSound t
  sweep : SweepSound s → SweepSound t

theorem KeepsCore.refl (s : State) : KeepsCore s s := ⟨id, id, id⟩

theorem KeepsCore.trans {s t u : State} (h : KeepsCore s t) (k : KeepsCore t u) : KeepsCore s u :=
  ⟨k.clock ∘ h.clock, k.evacuation ∘ h.evacuation, k.sweep ∘ h.sweep⟩

theorem SameCore.keepsCore {s t : State} (h : SameCore s t) : KeepsCore s t where
  clock hs := by simpa only [ClockSound, h.clock, h.mark, h.timings] using hs
  evacuation hs := by simpa only [EvacuationSound, h.edgeCount, h.evacuating, h.evacuateTaken] using hs
  sweep hs := by simpa only [SweepSound, h.sweep, h.backupMinutes] using hs

theorem Works.keepsCore {s t : State} (h : Works s t) : KeepsCore s t := h.core.keepsCore

/-! ### The minute-boundary event -/

theorem countUp16_le (v : Nat) : countUp16 v ≤ Config.top16 := by
  unfold countUp16
  split <;> omega

theorem sweepEvent_keepsCore (full : Bool) (s : State) : KeepsCore s (sweepEvent full s) := by
  unfold sweepEvent
  dsimp only
  split
  · have hstart : KeepsCore s { s with sweep := { s.sweep with run := some ⟨.permits 0, nowMinute s, full⟩ } } :=
      ⟨id, id, fun ⟨_, hfull, hcount, hminutes⟩ => ⟨fun _ => rfl, hfull, hcount, hminutes⟩⟩
    exact hstart.trans (grantNext_kept _).sameCore.keepsCore
  · next hrun _ =>
    exact ⟨id, id, fun ⟨_, _, hcount, hminutes⟩ => ⟨fun _ => by simp [hrun], fun _ => rfl, hcount, hminutes⟩⟩
  · next hrun hpending =>
    have hover : KeepsCore s { s with sweep := { s.sweep with
        overruns := countUp16 s.sweep.overruns, pendingFull := s.sweep.pendingFull || full } } :=
      ⟨id, id, fun ⟨hp, _, _, hminutes⟩ => ⟨hp, fun _ => hpending, countUp16_le _, hminutes⟩⟩
    exact hover.trans (post_kept _ _).sameCore.keepsCore

theorem countOccupancyMinutes_keepsCore (s : State) : KeepsCore s (countOccupancyMinutes s) :=
  (countOccupancyMinutes_kept s).sameCore.keepsCore

theorem raiseEvent_keepsCore (s : State) : KeepsCore s (raiseEvent s) := by
  unfold raiseEvent
  split
  · unfold deliverEvent
    split
    · have hfree : KeepsCore s { s with freeUsed := s.freeUsed + 1 } := ⟨id, id, id⟩
      dsimp only
      split
      · exact hfree.trans ((countOccupancyMinutes_keepsCore _).trans (sweepEvent_keepsCore _ _))
      · exact hfree.trans ((sweepEvent_keepsCore _ _).trans (countOccupancyMinutes_keepsCore _))
    · exact (sweepEvent_keepsCore _ _).trans (countOccupancyMinutes_keepsCore _)
  · exact ⟨id, id, fun ⟨hp, hfull, hcount, _⟩ => ⟨hp, hfull, hcount, countUp16_le _⟩⟩

/-! ### The requests that go beyond the part's work -/

theorem reply_keepsCore (l : Link) (st : Status) (c : ReplyContent) (s : State) : KeepsCore s (reply l st c s) :=
  (reply_kept l st c s).sameCore.keepsCore

theorem checked_keepsCore {l : Link} {checks : List (Bool × Status)} {f : State → State} {s : State}
    (hf : firstFailing checks = none → KeepsCore s (f s)) : KeepsCore s (checked l checks f s) := by
  cases hc : firstFailing checks with
  | some st => rw [checked_fails l checks f s st hc]; exact reply_keepsCore ..
  | none => rw [checked_passes l checks f s hc]; exact hf hc

theorem acceptSetClock_keepsCore (l : Link) (t : CivilTime) (s : State) (ht : t.inRange = true) :
    KeepsCore s (acceptSetClock l t s) := by
  have hset : KeepsCore s (rephase { s with clock := t, clockUnset := false }) :=
    ⟨fun ⟨_, hmark, htimings⟩ => ⟨ht, hmark, htimings⟩, id, id⟩
  exact hset.trans ((raiseEvent_keepsCore _).trans (Works.keepsCore (.then_reply (.then_writeJournal (.then_post (.refl _))))))

theorem acceptAlignClock_keepsCore (l : Link) (s : State) : KeepsCore s (acceptAlignClock l s) := by
  refine .trans ?_ (reply_keepsCore ..)
  split
  · exact .refl s
  · split
    · have hback : KeepsCore s (rephase { s with clock := { s.clock with second := 0 } }) :=
        ⟨fun ⟨hclock, hmark, htimings⟩ =>
          ⟨(CivilTime.inRange_iff _).mpr ⟨((CivilTime.inRange_iff _).mp hclock).1, Nat.zero_le _⟩, hmark, htimings⟩, id, id⟩
      exact hback.trans (writeJournal_kept _ _).sameCore.keepsCore
    · have hon : KeepsCore s (rephase { s with clock := s.clock.minutePart.next.withSecond 0 }) :=
        ⟨fun ⟨hclock, hmark, htimings⟩ =>
          ⟨(CivilTime.inRange_iff _).mpr ⟨CivilMinute.next_inRange ((CivilTime.inRange_iff _).mp hclock).1, Nat.zero_le _⟩, hmark,
            htimings⟩, id, id⟩
      exact hon.trans ((raiseEvent_keepsCore _).trans (writeJournal_kept _ _).sameCore.keepsCore)

theorem clampTo_clampTo {low high : Nat} (h : low ≤ high) (v : Nat) : clampTo low high (clampTo low high v) = clampTo low high v := by
  simp only [clampTo]
  omega

/-- R26, R27: clamped timings lie in their ranges. -/
theorem clampTimings_clampTimings (t : Timings) : clampTimings (clampTimings t) = clampTimings t := by
  simp only [clampTimings, clampTo_clampTo (show 1 ≤ 30 by decide), clampTo_clampTo (show 10 ≤ 600 by decide),
    clampTo_clampTo (show 10 ≤ 120 by decide), clampTo_clampTo (show 15 ≤ 240 by decide)]

theorem acceptWriteTimings_keepsCore (l : Link) (t : Timings) (s : State) : KeepsCore s (acceptWriteTimings l t s) := by
  have hset : KeepsCore s { s with timings := clampTimings t } :=
    ⟨fun ⟨hclock, hmark, _⟩ => ⟨hclock, hmark, clampTimings_clampTimings t⟩, id, id⟩
  exact hset.trans (Works.keepsCore (.then_reply (.then_writeJournal (.refl _))))

/-- R134: an ALL CLEAR is accepted only while the line was last taken as low. -/
theorem acceptAllClear_keepsCore (l : Link) (s : State) (h : s.evacuateTaken = false) : KeepsCore s (acceptAllClear l s) := by
  have hclear : KeepsCore s { s with evacuating := false, edgeCount := 0 } :=
    ⟨id, fun _ => ⟨Nat.zero_le _, by simp, by simp [h]⟩, id⟩
  have hmodes := (Works.refl { s with evacuating := false, edgeCount := 0 }).then_queueModeEverywhere (own := true)
    (m := .resumeNormal)
  exact hclear.trans hmodes.then_aside.then_presencesAtAllClear.then_writeJournal.then_reply.keepsCore

theorem judgeAttention_sameCore (l : Link) (s : State) : SameCore s (judgeAttention l s) := by
  obtain ⟨a, h⟩ := judgeAttention_frame l s
  rw [h]
  exact {}

theorem serveTakeNotice_keepsCore (l : Link) (s : State) : KeepsCore s (serveTakeNotice l s) := by
  have htaken : KeepsCore s (s.setQueue l (s.queue l).taken) := ⟨id, id, id⟩
  have hjudged := htaken.trans (judgeAttention_sameCore l (s.setQueue l (s.queue l).taken)).keepsCore
  refine hjudged.trans ?_
  unfold serveTakeNotice
  dsimp only
  split <;> exact reply_keepsCore ..

theorem serveSetNoticeMask_keepsCore (l : Link) (k : Nat) (s : State) : KeepsCore s (serveSetNoticeMask l k s) := by
  have hmask : KeepsCore s (s.setPort l { s.port l with mask := min 6 k }) := ⟨id, id, id⟩
  exact (hmask.trans (judgeAttention_sameCore l _).keepsCore).trans (reply_keepsCore ..)

theorem serveSetAttentionMode_keepsCore (l : Link) (m : Nat) (s : State) : KeepsCore s (serveSetAttentionMode l m s) := by
  unfold serveSetAttentionMode
  split
  · exact reply_keepsCore ..
  · next m _ =>
    refine .trans ?_ (reply_keepsCore ..)
    obtain ⟨k, a, h⟩ := changeMode_frame l m s
    rw [h]
    exact ⟨id, id, id⟩

theorem serveRequest_keepsCore (l : Link) (r : Request) (s : State) (hh : (s.port l).inFlight = some ⟨r, .handed⟩) :
    KeepsCore s (serveRequest l r s) := by
  by_cases hr : stirs r = false
  · exact (serveRequest_works l r s hr hh).keepsCore
  cases r with
  | setClock t => exact checked_keepsCore fun h => acceptSetClock_keepsCore l t s (by simpa using h)
  | alignClock => exact checked_keepsCore fun _ => acceptAlignClock_keepsCore l s
  | setMark m =>
    refine checked_keepsCore (f := fun s => reply l .done (.mark m) { s with mark := m }) fun h => ?_
    have hset : KeepsCore s { s with mark := m } :=
      ⟨fun ⟨hclock, _, htimings⟩ => ⟨hclock, by simpa using h, htimings⟩, id, id⟩
    exact hset.trans (reply_keepsCore ..)
  | writeTimings t => exact checked_keepsCore fun _ => acceptWriteTimings_keepsCore l t s
  | allClear => exact checked_keepsCore fun h => acceptAllClear_keepsCore l s (by simp at h; exact h.2)
  | takeNotice => exact serveTakeNotice_keepsCore l s
  | setNoticeMask k => exact serveSetNoticeMask_keepsCore l k s
  | setAttentionMode m => exact serveSetAttentionMode_keepsCore l m s
  | _ => exact absurd rfl hr

theorem requestRow_keepsCore (l : Link) (r : Request) (s : State) : KeepsCore s (requestRow l r s) := by
  have hp := (present_framing l r s).core.keepsCore
  have hserve : inHand l r (present l r s) = true → KeepsCore s (serveRequest l r (present l r s)) := fun hh =>
    hp.trans (serveRequest_keepsCore l r _ ((inHand_iff ..).mp hh))
  rcases requestRow_cases l r s with h | h | ⟨hh, h | h⟩
  · rw [h]; exact .refl s
  · rw [h]; exact hp
  · rw [h]; exact hserve hh
  · rw [h]; exact (hserve hh).trans (endTurn_kept _).sameCore.keepsCore

/-! ### The sweep's steps, falls, returns and restarts -/

theorem completeSweep_keepsCore (full : Bool) (s : State) : KeepsCore s (completeSweep full s) := by
  have hreview : KeepsCore s (if full then postReview s else s) := by
    split
    · exact (post_kept _ s).sameCore.keepsCore
    · exact .refl s
  refine hreview.trans ?_
  unfold completeSweep
  generalize (if full = true then postReview s else s) = u
  dsimp only
  split
  · exact ⟨id, id, fun ⟨_, _, hcount, hminutes⟩ => ⟨fun _ => rfl, (nomatch ·), hcount, hminutes⟩⟩
  · next hp => exact ⟨id, id, fun ⟨_, hfull, hcount, hminutes⟩ => ⟨fun h => absurd h hp, hfull, hcount, hminutes⟩⟩

theorem advanceSweep_keepsCore (run : SweepRun) (s : State) : KeepsCore s (advanceSweep run s) := by
  have hon : ∀ x, KeepsCore s { s with sweep := { s.sweep with run := some x } } := fun _ =>
    ⟨id, id, fun ⟨_, hfull, hcount, hminutes⟩ => ⟨fun _ => rfl, hfull, hcount, hminutes⟩⟩
  unfold advanceSweep
  split
  · exact hon _
  · split
    · exact hon _
    · exact completeSweep_keepsCore ..

theorem serveSweepStep_keepsCore (s : State) : KeepsCore s (serveSweepStep s) := by
  unfold serveSweepStep
  split
  · exact .refl s
  · refine .trans (Works.keepsCore ?_) (advanceSweep_keepsCore ..)
    split
    · exact .then_permitStep (.refl s)
    · exact .then_presenceStep (.refl s)

theorem serveTurn_keepsCore (s : State) : KeepsCore s (serveTurn s) := by
  unfold serveTurn
  rcases s.turn with _ | ⟨user, began⟩
  · exact .refl s
  · cases user with
    | decision rd clearAfter => exact (serveDecision_kept rd clearAfter s).sameCore.keepsCore
    | request l =>
      dsimp only
      split
      · next r hf => exact serveRequest_keepsCore l r s hf
      · exact .refl s
    | walkStep => exact Works.keepsCore (.then_serveWalkStep (.refl s))
    | sweepStep => exact serveSweepStep_keepsCore s

theorem finishTurn_keepsCore (s : State) : KeepsCore s (finishTurn s) :=
  (serveTurn_keepsCore s).trans (Works.keepsCore (.then_drainHeld (.then_aside (.refl _))))

theorem serveHanded_keepsCore (l : Link) (s : State) : KeepsCore s (serveHanded l s) := by
  unfold serveHanded
  split
  · next r hf =>
    split
    · exact .refl s
    · exact serveRequest_keepsCore l r s hf
  · exact .refl s

theorem settle_keepsCore (s : State) : KeepsCore s (settle s) :=
  ((serveHanded_keepsCore .works s).trans (serveHanded_keepsCore .security _)).trans (finishTurn_keepsCore _)

/-- R135, R136: what empties the sweep, with the minutes counted in BACKUP kept or begun anew. -/
theorem quiesce_keepsCore (s : State) {t : State} (clock : t.clock = s.clock) (mark : t.mark = s.mark)
    (timings : t.timings = s.timings) (evacuating : t.evacuating = s.evacuating) (edgeCount : t.edgeCount = s.edgeCount)
    (evacuateTaken : t.evacuateTaken = s.evacuateTaken) (sweep : t.sweep = (quiesce s).sweep)
    (minutes : t.backupMinutes ≤ s.backupMinutes) : KeepsCore s t where
  clock hs := by simpa only [ClockSound, clock, mark, timings] using hs
  evacuation hs := by simpa only [EvacuationSound, edgeCount, evacuating, evacuateTaken] using hs
  sweep hs := by
    obtain ⟨-, -, hcount, hminutes⟩ := hs
    simp only [SweepSound, sweep]
    exact ⟨(nomatch ·), (nomatch ·), hcount, minutes.trans hminutes⟩

theorem takeEvacuation_keepsCore (s : State) : KeepsCore s (takeEvacuation s) := by
  have hline : KeepsCore s { s with evacuateTaken := s.evacuateLine, evacuating := s.evacuateLine
                                    edgeCount := if s.evacuateLine then 1 else 0 } :=
    ⟨id, fun _ => by cases hl : s.evacuateLine <;> simp [EvacuationSound], id⟩
  refine hline.trans (Works.keepsCore ?_)
  unfold takeEvacuation
  dsimp only
  split
  · exact .then_announceEvacuation (.then_aside (.then_queueModeEverywhere (.refl _)))
  · exact .then_queueModeEverywhere (.refl _)

theorem fallToBackup_keepsCore (s : State) : KeepsCore s (fallToBackup s) := by
  have hquiet : KeepsCore (settle s) { quiesce (settle s) with supply := .backup, backupMinutes := 0 } :=
    quiesce_keepsCore (settle s) rfl rfl rfl rfl rfl rfl rfl (Nat.zero_le _)
  exact ((settle_keepsCore s).trans hquiet).trans (Works.then_presencesAtReset (.refl _)).keepsCore

theorem returnFromBackup_keepsCore (s : State) : KeepsCore s (returnFromBackup s) := by
  have hquiet : KeepsCore s { quiesce s with supply := .normal, backupMinutes := 0 } :=
    quiesce_keepsCore s rfl rfl rfl rfl rfl rfl rfl (Nat.zero_le _)
  exact hquiet.trans ((journalDueRestart_works _).then_post.then_writeJournal.keepsCore.trans (takeEvacuation_keepsCore _))

theorem recordRestart_keepsCore (value : Nat) (s : State) : KeepsCore s (recordRestart value s) := by
  unfold recordRestart
  split
  · exact ⟨id, id, id⟩
  · exact (writeJournal_kept _ _).sameCore.keepsCore.trans (takeEvacuation_keepsCore _)

theorem takeRestart_keepsCore (value : Nat) (s : State) : KeepsCore s (takeRestart value s) := by
  have hquiet : KeepsCore (finishTurn s) (emptyNotices (quiesce (finishTurn s))) :=
    quiesce_keepsCore (finishTurn s) rfl rfl rfl rfl rfl rfl rfl le_rfl
  refine (((finishTurn_keepsCore s).trans hquiet).trans (Works.then_presencesAtReset (.refl _)).keepsCore).trans
    (recordRestart_keepsCore value _)

theorem reset_clockSound : ClockSound State.reset := by
  unfold ClockSound
  decide

theorem reset_sweepSound : SweepSound State.reset := by
  unfold SweepSound
  decide

theorem reset_evacuationSound : EvacuationSound State.reset := by
  unfold EvacuationSound
  decide

theorem coldStart_keepsCore (x y : Bool) (s : State) : KeepsCore s (coldStart x y s) := by
  refine KeepsCore.trans ?_ (takeEvacuation_keepsCore _)
  exact ⟨fun _ => reset_clockSound, fun _ => reset_evacuationSound, fun _ => reset_sweepSound⟩

/-! ### Every command -/

theorem execTick_keepsCore (s t : State) (h : exec .tick s = .next t) : KeepsCore s t := by
  obtain rfl := Host.Outcome.next.inj h
  have htick : KeepsCore s { s with
      clock := s.clock.tick, holds := mapAll (Option.map Hold.tick) s.holds, doors := mapAll Door.tick s.doors } :=
    ⟨fun ⟨hclock, hmark, htimings⟩ => ⟨CivilTime.tick_inRange hclock, hmark, htimings⟩, id, id⟩
  split
  · exact htick
  · exact htick.trans (raiseEvent_keepsCore _)

theorem execEvacuateRise_keepsCore (s t : State) (h : exec .evacuateRise s = .next t) : KeepsCore s t := by
  obtain rfl := Host.Outcome.next.inj h
  split
  · exact .refl s
  · split
    · exact ⟨id, id, id⟩
    · have hfirst : KeepsCore s { s with evacuateLine := true, evacuateTaken := true, evacuating := true, edgeCount := 1 } :=
        ⟨id, fun _ => ⟨show 1 ≤ 255 by decide, by simp, fun _ => rfl⟩, id⟩
      exact hfirst.trans (Works.keepsCore (Works.then_foldl (fun _ _ h => h.then_cancelHold) _
        (Works.then_foldl (fun _ _ h => h.then_evacuateDoor) _ (.then_queueModeEverywhere (.then_announceEvacuation (.refl _))))))
    · next he =>
      have hedge : KeepsCore s
          { s with evacuateLine := true, evacuateTaken := true, edgeCount := min 255 (s.edgeCount + 1) } :=
        ⟨id, fun _ => ⟨Nat.min_le_left .., by simp [he], fun _ => he⟩, id⟩
      exact hedge.trans (Works.keepsCore (.then_queueModeEverywhere (.then_announceEvacuation (.refl _))))

theorem exec_keepsCore (c : Instr) (s t : State) (h : exec c s = .next t) : KeepsCore s t := by
  by_cases hsteady : steady c = true
  · exact (exec_steady c s t h hsteady).keepsCore
  by_cases hframing : framing c = true
  · exact (exec_framing c s t h hframing).core.keepsCore
  cases hreq : c.request with
  | some x =>
    obtain ⟨l, r⟩ := x
    rw [exec_requestRow c l r hreq] at h
    obtain rfl := Host.Outcome.next.inj h
    exact requestRow_keepsCore l r s
  | none =>
    cases c with
    | powerUp x y =>
      obtain rfl := Host.Outcome.next.inj h
      exact coldStart_keepsCore x y s
    | tick => exact execTick_keepsCore s t h
    | replySent l =>
      obtain rfl := Host.Outcome.next.inj h
      split
      · next r rest hs ht =>
        have hsent := (sendReply_framing l r rest s ht).core.keepsCore
        dsimp only
        split
        · exact hsent.trans (takeRestart_keepsCore 1 _)
        · exact hsent
      · exact .refl s
    | sweepPermitStep =>
      obtain rfl := Host.Outcome.next.inj h
      split
      · split
        · exact (serveSweepStep_keepsCore s).trans (endTurn_kept _).sameCore.keepsCore
        · exact .refl s
      · exact .refl s
    | sweepPresenceStep =>
      obtain rfl := Host.Outcome.next.inj h
      split
      · split
        · exact (serveSweepStep_keepsCore s).trans (endTurn_kept _).sameCore.keepsCore
        · exact .refl s
      · exact .refl s
    | pulseEnd l =>
      obtain rfl := Host.Outcome.next.inj h
      split <;> exact ⟨id, id, id⟩
    | supplyFall =>
      obtain rfl := Host.Outcome.next.inj h
      split
      · exact ⟨id, id, id⟩
      · exact (fallToBackup_keepsCore s).trans ⟨id, id, id⟩
    | warmReturn =>
      obtain rfl := Host.Outcome.next.inj h
      split
      · exact ⟨id, id, id⟩
      · exact (returnFromBackup_keepsCore s).trans ⟨id, id, id⟩
    | evacuateRise => exact execEvacuateRise_keepsCore s t h
    | evacuateFall =>
      obtain rfl := Host.Outcome.next.inj h
      split
      · exact ⟨id, id, id⟩
      · exact ⟨id, fun ⟨hcount, hiff, _⟩ => ⟨hcount, hiff, (nomatch ·)⟩, id⟩
    | resetLine =>
      obtain rfl := Host.Outcome.next.inj h
      exact (takeRestart_keepsCore 0 s).trans ⟨id, id, id⟩
    | suspendFirmStep | resumeFirmStep | poll | statusReply | stationMiss | entryDecision | exitDecision | holdDeadline | releaseEnd
    | heldOpenLimit | heldResolution => exact absurd rfl hsteady
    | frameReceived | interOctetTimeout | octetReceived => exact absurd rfl hframing
    | _ => cases hreq

end Sys2Proof.Machine
end

section
/-! What the resets leave: a register that changes alone, mode commands queued at quiet stations, and the evacuation state taken from
the line. With these the stillness of BACKUP (O57), the reset state (O3) and the cold start (O2). -/

namespace Sys2Proof.Machine

/-! ### A part whose presences are carried on nothing -/

/-- R101: no presence is carried on anything. -/
structure CarriesNobody (s : State) : Prop where
  decisions : ∀ a, (s.station a).decision = none
  tied : ∀ r, (s.door r).tied = []
  effects : s.heldEffects = []

theorem CarriesNobody.uncarry {s : State} (h : CarriesNobody s) (who : List PoolIx) : uncarry who s = s := by
  have hstations : mapAll (fun x => { x with decision := x.decision.map (·.without who) }) s.stations = s.stations := by
    refine table_ext fun a => ?_
    have hd : (look s.stations a).decision = none := h.decisions a
    simp only [look_mapAll, hd, Option.map_none]
    rw [← hd]
  have hdoors : mapAll (fun d => { d with tied := d.tied.filter (· ∉ who) }) s.doors = s.doors := by
    refine table_ext fun r => ?_
    have ht : (look s.doors r).tied = [] := h.tied r
    simp only [look_mapAll, ht, List.filter_nil]
    rw [← ht]
  simp only [Machine.uncarry, hstations, hdoors, h.effects, List.map_nil]
  rw [← h.effects]

/-- One state is another but for the pool and the rooms' lists and marks. -/
def RegisterOnly (s t : State) : Prop := t = { s with pool := t.pool, occupancy := t.occupancy }

theorem RegisterOnly.refl (s : State) : RegisterOnly s s := rfl

theorem RegisterOnly.trans {s t u : State} (h : RegisterOnly s t) (k : RegisterOnly t u) : RegisterOnly s u :=
  Eq.trans k (by rw [h])

theorem RegisterOnly.carriesNobody {s t : State} (h : RegisterOnly s t) (hs : CarriesNobody s) : CarriesNobody t := by
  rw [h]
  exact ⟨hs.decisions, hs.tied, hs.effects⟩

theorem RegisterOnly.foldl {α : Type} {f : State → α → State} (hf : ∀ t x, CarriesNobody t → RegisterOnly t (f t x)) (xs : List α)
    {s : State} (hs : CarriesNobody s) : RegisterOnly s (xs.foldl f s) := by
  induction xs generalizing s with
  | nil => exact .refl s
  | cons x xs ih =>
    have hx := hf s x hs
    exact hx.trans (ih (hx.carriesNobody hs))

theorem setPresenceState_registerOnly (i : PoolIx) (x : PresenceState) (s : State) : RegisterOnly s (setPresenceState i x s) := by
  unfold setPresenceState
  split <;> rfl

theorem removePresence_registerOnly (i : PoolIx) {s : State} (hs : CarriesNobody s) : RegisterOnly s (removePresence i s) := by
  unfold removePresence
  split
  · rfl
  · next p _ =>
    have hgone : RegisterOnly s ((s.setPresence i none).setRoomState p.room
        { s.roomState p.room with list := (s.roomState p.room).list.erase i }) := rfl
    dsimp only
    rw [(hgone.carriesNobody hs).uncarry]
    exact hgone

theorem refreshRoom_registerOnly (r : RoomNo) (s : State) : RegisterOnly s (refreshRoom r s) := rfl

theorem sweepOne_registerOnly (become : PresenceState → Option PresenceState) (x : State × List (RoomNo × Nat)) (i : PoolIx)
    (hx : CarriesNobody x.1) : RegisterOnly x.1 (sweepOne become false x i).1 := by
  unfold sweepOne
  split
  · exact .refl _
  · split
    · exact setPresenceState_registerOnly ..
    · exact removePresence_registerOnly i hx

theorem sweepAll_registerOnly (become : PresenceState → Option PresenceState) (is : List PoolIx) (x : State × List (RoomNo × Nat))
    (hx : CarriesNobody x.1) : RegisterOnly x.1 (is.foldl (sweepOne become false) x).1 := by
  induction is generalizing x with
  | nil => exact .refl _
  | cons i is ih =>
    have hi := sweepOne_registerOnly become x i hx
    exact hi.trans (ih _ (hi.carriesNobody hx))

theorem changePresences_registerOnly (become : PresenceState → Option PresenceState) {s : State} (hs : CarriesNobody s) :
    RegisterOnly s (changePresences become false s).1 := by
  unfold changePresences
  rw [hs.uncarry]
  exact sweepAll_registerOnly become _ (s, []) hs

theorem presencesAtReset_registerOnly (become : PresenceState → Option PresenceState) {s : State} (hs : CarriesNobody s) :
    RegisterOnly s (presencesAtReset become s) := by
  have hchange := changePresences_registerOnly become hs
  refine hchange.trans (RegisterOnly.foldl (fun t r _ => ?_) _ (hchange.carriesNobody hs))
  split
  · exact .refl t
  · exact refreshRoom_registerOnly r t

theorem quiesce_carriesNobody (s : State) : CarriesNobody (quiesce s) :=
  ⟨fun a => by simp [quiesce, State.station, Station.initial], fun r => by simp [quiesce, State.door, Door.initial], rfl⟩

/-! ### The evacuation state taken from the line -/

/-- A mode command queued at the stations named, and nothing else changed. -/
structure ModesQueued (m : ModeCommand) (at_ : List LoopAddr) (s t : State) : Prop where
  rest : t = { s with stations := t.stations }
  station : ∀ a, t.station a = if a ∈ at_ then { s.station a with mode := some m } else s.station a

/-- R121: with no POLL out and no decision pending a mode command queued changes its station's mode alone. -/
theorem queueMode_quiet (own : Bool) (m : ModeCommand) (a : LoopAddr) (s : State) (hp : s.polling = none)
    (hd : (s.station a).decision = none) : queueMode own m a s = s.setStation a { s.station a with mode := some m } := by
  unfold queueMode loseCarried
  simp only [State.setStation_polling, hp, State.setStation_station_same, hd]

theorem queueModes_quiet (own : Bool) (m : ModeCommand) (as : List LoopAddr) (s : State) (hp : s.polling = none)
    (hd : ∀ a, (s.station a).decision = none) : ModesQueued m as s (as.foldl (fun s a => queueMode own m a s) s) := by
  induction as generalizing s with
  | nil => exact ⟨rfl, fun a => by simp⟩
  | cons b as ih =>
    rw [List.foldl_cons, queueMode_quiet own m b s hp (hd b)]
    have hone : ∀ a, (s.setStation b { s.station b with mode := some m }).station a =
        if a = b then { s.station a with mode := some m } else s.station a := fun a => by
      by_cases h : a = b
      · subst h; simp
      · simp [h, Ne.symm h]
    obtain ⟨hrest, hstation⟩ := ih (s.setStation b { s.station b with mode := some m }) hp fun a => by
      rw [hone]
      split <;> exact hd a
    refine ⟨hrest.trans rfl, fun a => ?_⟩
    rw [hstation, hone]
    by_cases hb : a = b <;> by_cases ha : a ∈ as <;> simp [ha, hb]

/-- R135: the state as the line sets it, before any command or report. -/
def lineTaken (s : State) : State :=
  { s with evacuateTaken := s.evacuateLine, evacuating := s.evacuateLine, edgeCount := if s.evacuateLine then 1 else 0 }

/-- R135: every door put in EVACUATION. -/
def doorsEvacuated (s : State) : State := { s with doors := mapAll (fun d => { d with state := .evacuation }) s.doors }

theorem takeEvacuation_eq (s : State) : takeEvacuation s =
    if s.evacuateLine then announceEvacuation (doorsEvacuated (queueModeEverywhere false .evacRelease (lineTaken s)))
    else queueModeEverywhere false .resumeNormal (lineTaken s) := by
  cases h : s.evacuateLine <;> simp [takeEvacuation, lineTaken, doorsEvacuated, h]

/-- R135: what taking the line does in a part with no POLL out and no decision pending. -/
theorem takeEvacuation_quiet (s : State) (hp : s.polling = none) (hd : ∀ a, (s.station a).decision = none) :
    ∃ t, ModesQueued (if s.evacuateLine then .evacRelease else .resumeNormal) (polledAddresses s) (lineTaken s) t ∧
      takeEvacuation s = if s.evacuateLine then announceEvacuation (doorsEvacuated t) else t :=
  ⟨_, queueModes_quiet false (if s.evacuateLine then .evacRelease else .resumeNormal) (polledAddresses s) (lineTaken s) hp hd, rfl⟩

/-! ### The stillness of BACKUP -/

theorem quiet_of_same {s t : State} (h : Quiet s) (turn : t.turn = s.turn := by rfl) (reads : t.readQueue = s.readQueue := by rfl)
    (holds : ∀ r, t.hold r = none) (effects : t.heldEffects = s.heldEffects := by rfl)
    (poll : t.polling = s.polling := by rfl) (sweep : t.sweep = s.sweep := by rfl) (walk : t.walk = s.walk := by rfl)
    (ports : ∀ l, (t.port l).inFlight = none ∧ (t.port l).transmit = [] ∧ (t.port l).reception = .awaitingStart) : Quiet t :=
  ⟨turn.trans h.turn, reads.trans h.reads, holds, effects.trans h.effects, poll.trans h.poll, sweep ▸ h.sweep, walk.trans h.walk, ports⟩

theorem quiesce_quiet (s : State) : Quiet (quiesce s) :=
  ⟨rfl, rfl, fun r => by simp [quiesce, State.hold], rfl, rfl, rfl, rfl, fun l => by simp [Port.cleared]⟩

theorem RegisterOnly.quiet {s t : State} (h : RegisterOnly s t) (hs : Quiet s) : Quiet t := by
  rw [h]
  exact quiet_of_same hs (holds := hs.holds) (ports := hs.ports)

theorem fallToBackup_quiet (s : State) : Quiet (fallToBackup s) := by
  have hq := quiesce_quiet (settle s)
  have hc := quiesce_carriesNobody (settle s)
  exact (presencesAtReset_registerOnly (s := { quiesce (settle s) with supply := .backup, backupMinutes := 0 }) loseSight
    ⟨hc.decisions, hc.tied, hc.effects⟩).quiet (quiet_of_same hq (holds := hq.holds) (ports := hq.ports))

/-- R135, R163: a restart in BACKUP leaves the register of the emptied part, and its record due. -/
theorem takeRestart_quiet (value : Nat) (s : State) (hs : s.supply = .backup) : Quiet (takeRestart value s) := by
  have hq := quiesce_quiet (finishTurn s)
  have hc := quiesce_carriesNobody (finishTurn s)
  have hreset := (presencesAtReset_registerOnly (s := emptyNotices (quiesce (finishTurn s))) atRestart
    ⟨hc.decisions, hc.tied, hc.effects⟩)
  have hquiet := hreset.quiet (quiet_of_same hq (holds := hq.holds) (ports := hq.ports))
  have hsupply : (presencesAtReset atRestart (emptyNotices (quiesce (finishTurn s)))).supply = .backup := by
    rw [hreset]
    exact (finishTurn_course (free := fun _ => True) s fun _ _ => trivial).supply.trans hs
  unfold takeRestart recordRestart
  rw [hsupply]
  exact quiet_of_same hquiet (holds := hquiet.holds) (ports := hquiet.ports)

theorem takeRestart_supply (value : Nat) (s : State) : (takeRestart value s).supply = s.supply := by
  have hfinish := (finishTurn_course (free := fun _ => True) s fun _ _ => trivial).supply
  have hreset := (Works.then_presencesAtReset (become := atRestart) (.refl (emptyNotices (quiesce (finishTurn s))))).core.supply
  exact ((recordRestart_course (free := fun _ => True) value _).supply.trans hreset).trans hfinish

/-- R21: with no descriptor in the map no address is polled. -/
theorem polledAddresses_unmapped (s : State) (h : s.stationMap = fill none) : polledAddresses s = [] := by
  have hnone : ∀ a, mapOutcome s a = .unpolled := fun a => by rw [mapOutcome, outcomeUnder, h]; rfl
  simp [polledAddresses, hnone, MapOutcome.isPolled]

/-- R135: what taking the line does in a part with an empty map. -/
theorem takeEvacuation_unmapped (s : State) (h : s.stationMap = fill none) : takeEvacuation s =
    if s.evacuateLine then announceEvacuation (doorsEvacuated (lineTaken s)) else lineTaken s := by
  have hnone : ∀ m, queueModeEverywhere false m (lineTaken s) = lineTaken s := fun m => by
    rw [queueModeEverywhere, polledAddresses_unmapped (lineTaken s) h]
    rfl
  rw [takeEvacuation_eq, hnone, hnone]

/-- R15: the cleared part with the levels of its two lines. -/
def cleared (supplyHigh evacuateHigh : Bool) (s : State) : State :=
  { State.reset with
    supply := if supplyHigh then .normal else .backup
    supplyLine := supplyHigh
    evacuateLine := evacuateHigh
    freeUsed := s.freeUsed
    pending := s.pending }

theorem coldStart_eq (supplyHigh evacuateHigh : Bool) (s : State) : coldStart supplyHigh evacuateHigh s =
    if evacuateHigh then announceEvacuation (doorsEvacuated (lineTaken (cleared supplyHigh evacuateHigh s)))
    else lineTaken (cleared supplyHigh evacuateHigh s) :=
  takeEvacuation_unmapped (cleared supplyHigh evacuateHigh s) rfl

theorem reset_quiet : Quiet State.reset :=
  ⟨rfl, rfl, fun r => look_fill none r, rfl, rfl, rfl, rfl, fun l => by cases l <;> exact ⟨rfl, rfl, rfl⟩⟩

theorem coldStart_backupSound (x y : Bool) (s : State) : BackupSound (coldStart x y s) := by
  intro hb
  have hx : x = false := by
    have hsupply : (coldStart x y s).supply = if x then .normal else .backup :=
      (takeEvacuation_course (free := fun _ => True) (cleared x y s)).supply
    rw [hsupply] at hb
    cases x
    · rfl
    · cases hb
  subst hx
  rw [coldStart_eq]
  cases y
  · exact quiet_of_same reset_quiet (holds := reset_quiet.holds) (ports := reset_quiet.ports)
  · exact quiet_of_same reset_quiet (holds := reset_quiet.holds) (ports := reset_quiet.ports)

/-- R13: in BACKUP, with nothing under way, the commands within the part's work change nothing. -/
theorem exec_steady_backup (c : Instr) (s : State) (hs : s.supply = .backup) (hq : Quiet s) (hc : steady c = true) :
    exec c s = .next s := by
  cases c with
  | suspendFirmStep | resumeFirmStep => simp [exec, execSuspendFirmStep, execResumeFirmStep, hq.walk]
  | entryDecision | exitDecision => simp [exec, execEntryDecision, execExitDecision, hq.turn]
  | poll | statusReply | stationMiss => simp [exec, execPoll, execStatusReply, execStationMiss, hs]
  | holdDeadline | releaseEnd | heldOpenLimit =>
    simp [exec, execHoldDeadline, execReleaseEnd, execHeldOpenLimit, hs]
  | heldResolution => simp [exec, execHeldResolution, hq.effects]
  | _ => cases hc

/-- R180: in BACKUP the ports take nothing. -/
theorem exec_framing_backup (c : Instr) (s : State) (hs : s.supply = .backup) (hq : Quiet s) (hc : framing c = true) :
    exec c s = .next s := by
  cases c with
  | frameReceived => simp [exec, execFrameReceived, hs]
  | interOctetTimeout l => simp [exec, execInterOctetTimeout, (hq.ports l).2.2]
  | octetReceived => simp [exec, execOctetReceived, hs]
  | _ => cases hc

theorem pulseEnd_quiet (l : Link) (s t : State) (hq : Quiet s) (h : exec (.pulseEnd l) s = .next t) : Quiet t := by
  obtain rfl := Host.Outcome.next.inj h
  split
  · refine quiet_of_same hq (holds := hq.holds) (ports := fun k => ?_)
    by_cases hk : l = k
    · subst hk
      simpa using hq.ports l
    · simpa [hk] using hq.ports k
  · exact hq

theorem tick_quiet (s t : State) (hs : s.supply = .backup) (hq : Quiet s) (h : exec .tick s = .next t) : Quiet t := by
  obtain rfl := Host.Outcome.next.inj h
  have hticked : ∀ u : State, u.supply = .backup → Quiet u → Quiet (raiseEvent u) := fun u hu hq' => by
    unfold raiseEvent
    rw [hu]
    exact quiet_of_same hq' (holds := hq'.holds) (ports := hq'.ports)
  have hquiet : Quiet { s with
      clock := s.clock.tick, holds := mapAll (Option.map Hold.tick) s.holds, doors := mapAll Door.tick s.doors } := by
    refine quiet_of_same hq (holds := fun r => ?_) (ports := hq.ports)
    have hnone : look s.holds r = none := hq.holds r
    simp [State.hold, hnone]
  split
  · exact hquiet
  · exact hticked _ hs hquiet

/-- R13, R14: a command met in BACKUP by a still part leaves it still, or brings its supply back. -/
theorem exec_backup (c : Instr) (s t : State) (h : exec c s = .next t) (hs : s.supply = .backup) (hq : Quiet s) : BackupSound t := by
  have hsame : exec c s = .next s → BackupSound t := fun he => by
    obtain rfl := Host.Outcome.next.inj (h.symm.trans he)
    exact fun _ => hq
  by_cases hsteady : steady c = true
  · exact hsame (exec_steady_backup c s hs hq hsteady)
  by_cases hframing : framing c = true
  · exact hsame (exec_framing_backup c s hs hq hframing)
  cases hreq : c.request with
  | some x =>
    obtain ⟨l, r⟩ := x
    exact hsame (by rw [exec_requestRow c l r hreq, requestRow_backup l r s hs])
  | none =>
    cases c with
    | powerUp x y =>
      obtain rfl := Host.Outcome.next.inj h
      exact coldStart_backupSound x y s
    | tick => exact fun _ => tick_quiet s t hs hq h
    | replySent => exact hsame (by simp [exec, execReplySent, hs])
    | sweepPermitStep | sweepPresenceStep => exact hsame (by simp [exec, execSweepPermitStep, execSweepPresenceStep, hq.sweep])
    | pulseEnd l => exact fun _ => pulseEnd_quiet l s t hq h
    | supplyFall | evacuateFall =>
      obtain rfl := Host.Outcome.next.inj h
      rw [hs]
      exact fun _ => quiet_of_same hq (holds := hq.holds) (ports := hq.ports)
    | warmReturn =>
      obtain rfl := Host.Outcome.next.inj h
      rw [hs]
      intro hb
      have hpost := (journalDueRestart_works { quiesce s with supply := .normal, backupMinutes := 0 }).then_post
        (b := { kind := .supplyReturn, figures := .value s.backupMinutes })
      have hnormal : (returnFromBackup s).supply = .normal :=
        (takeEvacuation_course (free := fun _ => True) _).supply.trans
          (hpost.then_writeJournal (b := { kind := .supplyReturn, value := some s.backupMinutes })).core.supply
      exact absurd (hnormal.symm.trans hb) (by decide)
    | evacuateRise =>
      obtain rfl := Host.Outcome.next.inj h
      split
      · exact fun _ => hq
      · rw [hs]
        exact fun _ => quiet_of_same hq (holds := hq.holds) (ports := hq.ports)
    | resetLine =>
      obtain rfl := Host.Outcome.next.inj h
      have hquiet := takeRestart_quiet 0 s hs
      exact fun _ => quiet_of_same hquiet (holds := hquiet.holds) (ports := hquiet.ports)
    | suspendFirmStep | resumeFirmStep | poll | statusReply | stationMiss | entryDecision | exitDecision | holdDeadline | releaseEnd
    | heldOpenLimit | heldResolution => exact absurd rfl hsteady
    | frameReceived | interOctetTimeout | octetReceived => exact absurd rfl hframing
    | _ => cases hreq

/-- R12: a command met with the supply there keeps it, or leaves the part still. -/
theorem exec_normal (c : Instr) (s t : State) (h : exec c s = .next t) (hs : s.supply = .normal) : BackupSound t := by
  have hkept : t.supply = s.supply → BackupSound t := fun ht hb => absurd (hs.symm.trans (ht.symm.trans hb)) (by decide)
  by_cases hc : mayReset s c = false
  · exact hkept (exec_passage (free := fun _ => True) c s t h hc fun _ _ => trivial).supply
  cases c with
  | powerUp x y =>
    obtain rfl := Host.Outcome.next.inj h
    exact coldStart_backupSound x y s
  | supplyFall =>
    obtain rfl := Host.Outcome.next.inj h
    rw [hs]
    have hquiet := fallToBackup_quiet s
    exact fun _ => quiet_of_same hquiet (holds := hquiet.holds) (ports := hquiet.ports)
  | warmReturn =>
    obtain rfl := Host.Outcome.next.inj h
    rw [hs]
    exact fun hb => nomatch (show Supply.normal = .backup from hb)
  | resetLine =>
    obtain rfl := Host.Outcome.next.inj h
    exact hkept (takeRestart_supply 0 s)
  | replySent l =>
    obtain rfl := Host.Outcome.next.inj h
    refine hkept ?_
    split
    · dsimp only
      split
      · exact takeRestart_supply 1 _
      · rfl
    · rfl
  | _ => exact absurd rfl hc

theorem exec_backupSound (c : Instr) (s t : State) (h : exec c s = .next t) (hs : BackupSound s) : BackupSound t := by
  cases hsup : s.supply with
  | normal => exact exec_normal c s t h hsup
  | backup => exact exec_backup c s t h hsup (hs hsup)

end Sys2Proof.Machine

/-- Settles O57: the clock, the evacuation state and the sweep are carried by what each command is made of; BACKUP is still after a
fall, a cold start or a restart, and no other command stirs it. -/
theorem everyCommandKeepsTheCoreSound : Obligations.EveryCommandKeepsTheCoreSound := by
  intro c s t h
  obtain ⟨hclock, hevacuation, hsweep⟩ := Sys2Proof.Machine.exec_keepsCore c s t h
  exact ⟨hclock, hevacuation, hsweep, Sys2Proof.Machine.exec_backupSound c s t h⟩
end

section
/-! The reset state and the cold start (O3, O2). -/

namespace Sys2Proof.Machine

@[simp] theorem reset_port (l : Link) : State.reset.port l = Port.initial := by cases l <;> rfl
@[simp] theorem reset_queue (l : Link) : State.reset.queue l = ⟨[], false⟩ := by cases l <;> rfl
@[simp] theorem reset_room (r : RoomNo) : State.reset.room r = none := look_fill none r
@[simp] theorem reset_permit (i : SlotNo) : State.reset.permit i = none := look_fill none i
@[simp] theorem reset_presence (i : PoolIx) : State.reset.presence i = none := look_fill none i
@[simp] theorem reset_hold (r : RoomNo) : State.reset.hold r = none := look_fill none r
@[simp] theorem reset_roomState (r : RoomNo) : State.reset.roomState r = ⟨[], none, false⟩ := look_fill _ r
@[simp] theorem reset_station (a : LoopAddr) : State.reset.station a = ⟨.unknown, 0, none, none, none, false⟩ := look_fill _ a

theorem reset_sound : Sound State.reset where
  clock := reset_clockSound
  notices := reset_noticesSound
  journal := reset_journalSound
  ports := reset_portsSound
  attention := attentionSound_of_released (fun l => by simp [Port.initial]) fun _ l => by simp
  evacuation := reset_evacuationSound
  sweep := reset_sweepSound
  backup _ := reset_quiet

theorem reset_badgesBounded : BadgesBounded State.reset := by
  intro b
  have hvacant : State.reset.permits.toList = List.replicate 256 none := Vector.toList_replicate
  have hnone : liveOrHeldOf State.reset b = 0 := by
    rw [liveOrHeldOf, hvacant, List.filter_replicate_of_neg (by simp)]
    rfl
  omega

end Sys2Proof.Machine

open Sys2Proof Sys2Proof.Machine in
/-- Settles O3: every table of the reset state is empty. -/
theorem resetMeetsEveryLaw : Obligations.ResetMeetsEveryLaw := by
  refine ⟨reset_sound, fun i _ p _ hp => ?_, reset_badgesBounded, ⟨fun i _ p _ hp => ?_, fun r _ h _ hh => ?_, fun r h _ _ hh => ?_⟩,
    ⟨fun i p hp => ?_, fun r h hh => ?_⟩, fun r k hk => ?_, fun l f hf => ?_⟩
  · simp at hp
  · simp at hp
  · simp at hh
  · simp at hh
  · simp at hp
  · simp at hh
  · simp at hk
  · simp [Port.initial] at hf

namespace Sys2Proof.Machine

/-! ### Whole tables and short journals -/

theorem mapAll_fill {n : Nat} {α β : Type} (f : α → β) (x : α) : mapAll f (fill x : Table n α) = fill (f x) :=
  table_ext fun i => by simp

/-- R161, R162: with room in the journal a record is placed last and nothing is discarded. -/
theorem writeJournal_short (b : JournalBody) (s : State) (hs : s.supply = .normal) (hl : s.journal.length < 512) :
    writeJournal b s = { s with
      journal := s.journal ++ [⟨s.nextSequence, s.clock, { b with value := b.value.map cap16 }⟩]
      nextSequence := s.nextSequence + 1 } := by
  have hnone : s.journal.length + 1 - Config.journalCapacity = 0 := by
    simp only [Config.journalCapacity]
    omega
  rw [writeJournal_normal b s hs, hnone, List.drop_zero]

/-! ### The cold start -/

/-- R15, R135: the part after a cold start: with both lines high its one report of the evacuation stands in its queues and its
journal. -/
def coldPart (supplyHigh evacuateHigh : Bool) (s : State) : State :=
  let reported := supplyHigh && evacuateHigh
  let queue : NoticeQueue :=
    ⟨if reported then [⟨{ kind := .evacuation, figures := .value 1 }, 7, ⟨2000, 1, 1, 0, 0, 0⟩⟩] else [], false⟩
  let port : Port := { Port.initial with attention := reported }
  { lineTaken (cleared supplyHigh evacuateHigh s) with
    doors := fill { Door.initial with state := if evacuateHigh then .evacuation else .unknown .back }
    notices := ⟨queue, queue⟩
    journal := if reported then [⟨0, ⟨2000, 1, 1, 0, 0, 0⟩, { kind := .evacStart, value := some 1 }⟩] else []
    nextSequence := if reported then 1 else 0
    ports := ⟨port, port⟩ }

theorem coldStart_coldPart (supplyHigh evacuateHigh : Bool) (s : State) :
    coldStart supplyHigh evacuateHigh s = coldPart supplyHigh evacuateHigh s := by
  have hdoors : ∀ x, doorsEvacuated (lineTaken (cleared x true s)) =
      { lineTaken (cleared x true s) with doors := fill { Door.initial with state := .evacuation } } := fun x => by
    simp only [doorsEvacuated, lineTaken, cleared, State.reset, mapAll_fill]
  rw [coldStart_eq]
  cases evacuateHigh with
  | false => cases supplyHigh <;> rfl
  | true =>
    rw [if_pos rfl, hdoors]
    cases supplyHigh with
    | false => rfl
    | true =>
      unfold announceEvacuation
      rw [writeJournal_short]
      · rfl
      · rfl
      · exact show 0 < 512 by decide

end Sys2Proof.Machine

open Sys2Proof Sys2Proof.Machine in
/-- Settles O2: the part after a cold start is `coldPart`, field by field. -/
theorem powerUpIsAColdStart : Obligations.PowerUpIsAColdStart := by
  intro supplyHigh evacuateHigh s
  refine ⟨coldPart supplyHigh evacuateHigh s, congrArg Host.Outcome.next (coldStart_coldPart ..), ?_⟩
  refine ⟨rfl, rfl, rfl, rfl, rfl, rfl, reset_room, rfl, rfl, look_fill none, look_fill none, reset_permit, rfl, rfl, rfl, reset_hold,
    reset_presence, reset_roomState, rfl, reset_station, rfl, rfl, rfl, rfl, look_fill _, rfl, rfl, look_fill _, fun l => ?_, rfl, rfl,
    fun l => ?_, rfl⟩
  · cases l <;> rfl
  · cases l <;> rfl
end

section
/-! The request rows at their port (O9) and the tick (O11). -/

namespace Sys2Proof.Machine

open Claims

/-! ### A request row at its port -/

theorem refuse_turnedAway (l : Link) (code : Nat) (st : Status) (s : State) : refuse l code st s = turnedAway l code st s := rfl

theorem hand_handedOver (l : Link) (r : Request) (s : State) : hand l r s = handedOver l r s := rfl

theorem hand_inFlight (l : Link) (r : Request) (s : State) : ((hand l r s).port l).inFlight = some ⟨r, .handed⟩ := by
  unfold hand
  dsimp only
  split
  · rw [grantNext_port]; simp
  · simp

theorem hand_supply (l : Link) (r : Request) (s : State) : (hand l r s).supply = s.supply := by
  unfold hand
  dsimp only
  split
  · exact (grantNext_kept _).supply
  · rfl

theorem refuse_inFlight (l : Link) (code : Nat) (st : Status) (s : State) :
    ((refuse l code st s).port l).inFlight = (s.port l).inFlight := by
  obtain ⟨q, h⟩ := refuse_frame l code st s
  rw [h]
  simp

/-- R175: a request in hand is there already. -/
theorem present_inHand (l : Link) (r : Request) (s : State) (h : (s.port l).inFlight = some ⟨r, .handed⟩) : present l r s = s :=
  if_pos (inHand_of_inFlight l r s h)

/-- R175: a request that is not in hand is put through the port's checks. -/
theorem present_taken (l : Link) (r : Request) (s : State) (h : (s.port l).inFlight ≠ some ⟨r, .handed⟩) :
    present l r s = takeRequest l r s :=
  if_neg ((inHand_iff ..).not.mpr h)

/-- R175: a row whose request the port turns away does no more. -/
theorem requestRow_turned (l : Link) (r : Request) (s : State) (hs : s.supply = .normal)
    (h : ((present l r s).port l).inFlight ≠ some ⟨r, .handed⟩) : requestRow l r s = present l r s := by
  have hno : inHand l r (present l r s) = false := Bool.eq_false_iff.mpr ((inHand_iff ..).not.mpr h)
  simp [requestRow, inTurn, atOnce, hs, hno]

/-- R36, R175: a row whose request the port hands over goes on as from there. -/
theorem requestRow_handed (l : Link) (r : Request) (s : State) (hs : s.supply = .normal) (h : present l r s = hand l r s) :
    requestRow l r s = requestRow l r (hand l r s) := by
  have hthere := present_inHand l r (hand l r s) (hand_inFlight l r s)
  have hsupply := (hand_supply l r s).trans hs
  simp only [requestRow, inTurn, atOnce, hs, hsupply, h, hthere]

end Sys2Proof.Machine

open Sys2Proof Sys2Proof.Machine Sys2Proof.Claims in
/-- Settles O9: every row is its request's row, which meets the port by `present` before anything is served. -/
theorem requestRowsMeetThePort : Obligations.RequestRowsMeetThePort := by
  intro i l r s hi
  simp only [exec_requestRow i l r hi, Host.Outcome.next.injEq]
  refine ⟨requestRow_backup l r s, fun f hs hf hne => ?busy, fun hs hf hall => ?notYours, fun hs hf hall => ?handed,
    fun ⟨hs, hf⟩ hn ht => ?waits⟩
  case busy =>
    have hother : (s.port l).inFlight ≠ some ⟨r, .handed⟩ := by simpa [hf] using hne
    have hp : present l r s = refuse l r.code .busy s := by
      rw [present_taken l r s hother]
      simp [takeRequest, Port.busy, hf]
    rw [requestRow_turned l r s hs (by rwa [hp, refuse_inFlight]), hp, refuse_turnedAway]
  case notYours =>
    have hother : (s.port l).inFlight ≠ some ⟨r, .handed⟩ := by simp [hf]
    have hp : present l r s = refuse l r.code .notYours s := by
      rw [present_taken l r s hother]
      simp [takeRequest, Port.busy, hf, hall]
    rw [requestRow_turned l r s hs (by rwa [hp, refuse_inFlight]), hp, refuse_turnedAway]
  case handed =>
    have hp : present l r s = hand l r s := by
      rw [present_taken l r s (by simp [hf])]
      simp [takeRequest, Port.busy, hf, hall]
    rw [← hand_handedOver]
    exact requestRow_handed l r s hs hp
  case waits =>
    rw [requestRow, if_pos hn, inTurn_waits l r _ s hs hf ht]

namespace Sys2Proof.Machine

open Claims

/-! ### The tick -/

/-- R125: a tick of a door lowers its timer alone. -/
theorem Door.tick_eq (d : Door) : d.tick = { d with state := tickedDown d.state } := by
  unfold Door.tick
  cases hd : d.state with
  | released n => rfl
  | opened n => rfl
  | secure | held | forced | evacuation | unknown => simp only [tickedDown]; rw [← hd]

end Sys2Proof.Machine

open Sys2Proof Sys2Proof.Machine Sys2Proof.Claims in
/-- Settles O11: the state before the event is the tick's three tables, each ticked entry by entry. -/
theorem tickAdvancesTheClock : Obligations.TickAdvancesTheClock := by
  intro s
  refine ⟨{ s with clock := s.clock.tick, holds := mapAll (Option.map Hold.tick) s.holds, doors := mapAll Door.tick s.doors },
    rfl, rfl, rfl, fun r => ?_, fun r => ?_⟩
  · exact look_mapAll ..
  · exact (look_mapAll ..).trans (Door.tick_eq _)
end

section
/-! The minute-boundary event (O12): what a notice's posting depends on, what the event adds to the counters and does to the sweep. -/

namespace Sys2Proof.Machine

open Claims

/-! ### What a posting depends on -/

/-- Two states have the same supply, clock, queues and ports, which are all that a posting reads and changes. -/
structure SameBoard (s t : State) : Prop where
  supply : t.supply = s.supply := by rfl
  clock : t.clock = s.clock := by rfl
  notices : t.notices = s.notices := by rfl
  ports : t.ports = s.ports := by rfl

theorem SameBoard.refl (s : State) : SameBoard s s := {}

theorem SameBoard.trans {s t u : State} (h : SameBoard s t) (k : SameBoard t u) : SameBoard s u :=
  ⟨k.supply.trans h.supply, k.clock.trans h.clock, k.notices.trans h.notices, k.ports.trans h.ports⟩

theorem SameBoard.symm {s t : State} (h : SameBoard s t) : SameBoard t s :=
  ⟨h.supply.symm, h.clock.symm, h.notices.symm, h.ports.symm⟩

theorem SameBoard.port {s t : State} (h : SameBoard s t) (l : Link) : t.port l = s.port l := by simp only [State.port, h.ports]

theorem SameBoard.queue {s t : State} (h : SameBoard s t) (l : Link) : t.queue l = s.queue l := by simp only [State.queue, h.notices]

theorem SameBoard.setPort {s t : State} (h : SameBoard s t) (l : Link) (p : Port) : SameBoard (s.setPort l p) (t.setPort l p) :=
  ⟨h.supply, h.clock, h.notices, by simp only [State.setPort, h.ports]⟩

theorem SameBoard.setQueue {s t : State} (h : SameBoard s t) (l : Link) (q : NoticeQueue) : SameBoard (s.setQueue l q) (t.setQueue l q) :=
  ⟨h.supply, h.clock, by simp only [State.setQueue, h.notices], h.ports⟩

theorem SameBoard.judgeAttention {s t : State} (h : SameBoard s t) (l : Link) :
    SameBoard (judgeAttention l s) (judgeAttention l t) := by
  simp only [Machine.judgeAttention, h.port, h.queue, h.supply]
  split
  · exact h.setPort ..
  · exact h.setPort ..
  · exact h

theorem SameBoard.pulseFor {s t : State} (h : SameBoard s t) (l : Link) (k : Nat) : SameBoard (pulseFor l k s) (pulseFor l k t) := by
  simp only [Machine.pulseFor, h.port]
  split
  · split
    · exact h.setPort ..
    · exact h
  · exact h

theorem SameBoard.postTo {s t : State} (h : SameBoard s t) (l : Link) (n : Notice) : SameBoard (postTo l n s) (postTo l n t) := by
  have hjudged := (h.setQueue l ((s.queue l).offer n).1).judgeAttention l
  simp only [Machine.postTo, h.queue]
  split
  · exact hjudged.pulseFor l _
  · exact hjudged

theorem SameBoard.foldl {α : Type} {f : State → α → State} (hf : ∀ s t x, SameBoard s t → SameBoard (f s x) (f t x))
    (xs : List α) {s t : State} (h : SameBoard s t) : SameBoard (xs.foldl f s) (xs.foldl f t) := by
  induction xs generalizing s t with
  | nil => exact h
  | cons x xs ih => exact ih (hf s t x h)

/-- R149: the same notice posted in states with the same board leaves the same board. -/
theorem SameBoard.post {s t : State} (h : SameBoard s t) (b : NoticeBody) : SameBoard (post b s) (post b t) := by
  simp only [Machine.post, h.supply]
  split
  · exact h
  · refine SameBoard.foldl (fun u v l k => ?_) _ h
    rw [k.clock]
    exact k.postTo l _

/-- R149: a posting changes the queues and the ports alone. -/
theorem post_frame (b : NoticeBody) (s : State) : post b s = { s with notices := (post b s).notices, ports := (post b s).ports } := by
  unfold post
  split
  · rfl
  · generalize b.queues = ls
    induction ls generalizing s with
    | nil => rfl
    | cons l ls ih =>
      obtain ⟨a, ha⟩ := postTo_frame l ⟨{ b with figures := b.figures.capped }, b.kind.level, s.clock⟩ s
      rw [List.foldl_cons, ih _ (by rw [(postTo_kept ..).supply]; assumption), ha]
      rfl

/-! ### The counters at a minute boundary -/

theorem presencesSelected_presentFor (s : State) (filter : Option RoomNo) : presencesSelected s filter = presentFor filter s := by
  cases filter <;> rfl

/-- R168: a counter after a minute-boundary event. -/
def countedMinute (s : State) (c : CounterNo) : Counter :=
  if (look s.counters c).select = .occupancyMinutes then
    { look s.counters c with
      value := (look s.counters c).value + BitVec.ofNat 32 (presentFor (look s.counters c).filter s)
      sticky := (look s.counters c).sticky ||
        decide (2 ^ 32 ≤ (look s.counters c).value.toNat + presentFor (look s.counters c).filter s) }
  else look s.counters c

/-- R169: the COUNTER-OVERFLOW of one counter. -/
def overflowPosted (t : State) (c : CounterNo) : State := post { kind := .counterOverflow, figures := .value c.val } t

/-- R168: one counter at a minute-boundary event. -/
def countMinute (s : State) (c : CounterNo) : State :=
  let k := look s.counters c
  if k.select == .occupancyMinutes then addToCounter c (presencesSelected s k.filter) s else s

/-- What a minute-boundary event does to the counters named. -/
structure MinuteCounted (cs : List CounterNo) (s t : State) : Prop where
  rest : t = { s with counters := t.counters, notices := t.notices, ports := t.ports }
  counters : ∀ c, look t.counters c = if c ∈ cs then countedMinute s c else look s.counters c
  board : SameBoard ((cs.filter (overflowsAtMinute s)).foldl overflowPosted s) t

theorem SameBoard.overflows {s t : State} (h : SameBoard s t) (cs : List CounterNo) :
    SameBoard (cs.foldl overflowPosted s) (cs.foldl overflowPosted t) :=
  SameBoard.foldl (f := overflowPosted) (fun _ _ _ k => k.post _) cs h

theorem SameBoard.overflowsPosted {s t : State} (h : SameBoard s t) (past : CounterNo → Bool) :
    SameBoard (overflowsPosted past s) (overflowsPosted past t) := h.overflows _

theorem addToCounter_frame (c : CounterNo) (n : Nat) (s : State) :
    addToCounter c n s = { s with
      counters := (addToCounter c n s).counters, notices := (addToCounter c n s).notices, ports := (addToCounter c n s).ports } := by
  unfold addToCounter
  dsimp only
  split
  · rfl
  · split
    · exact (post_frame _ _).trans (by rw [post_frame])
    · rfl

/-- R169: an addition posts COUNTER-OVERFLOW just where it passes the top with notify set and the sticky overflow clear. -/
theorem addToCounter_board (c : CounterNo) (n : Nat) (s : State) :
    SameBoard (if (look s.counters c).notify && !(look s.counters c).sticky && decide (2 ^ 32 ≤ (look s.counters c).value.toNat + n)
      then overflowPosted s c else s) (addToCounter c n s) := by
  unfold addToCounter
  dsimp only
  by_cases hn : (look s.counters c).value.toNat + n < 2 ^ 32
  · rw [if_pos hn]
    have hno : decide (2 ^ 32 ≤ (look s.counters c).value.toNat + n) = false := by simpa using hn
    simp only [hno, Bool.and_false]
    exact {}
  · rw [if_neg hn]
    have hyes : decide (2 ^ 32 ≤ (look s.counters c).value.toNat + n) = true := by simpa using hn
    simp only [hyes, Bool.and_true]
    split
    · exact SameBoard.post {} _
    · exact {}

theorem countMinute_counted (s : State) (c : CounterNo) : MinuteCounted [c] s (countMinute s c) := by
  by_cases hk : (look s.counters c).select = .occupancyMinutes
  · have hadd : countMinute s c = addToCounter c (presentFor (look s.counters c).filter s) s := by
      simp [countMinute, hk, presencesSelected_presentFor]
    rw [hadd]
    refine ⟨addToCounter_frame .., fun d => ?_, ?_⟩
    · rw [addToCounter_value, look_put]
      by_cases hd : c = d
      · subst hd; simp [countedMinute, hk]
      · simp [hd, Ne.symm hd]
    · have hpast : overflowsAtMinute s c = ((look s.counters c).notify && !(look s.counters c).sticky &&
          decide (2 ^ 32 ≤ (look s.counters c).value.toNat + presentFor (look s.counters c).filter s)) := by
        simp [overflowsAtMinute, hk]
      have hboard := addToCounter_board c (presentFor (look s.counters c).filter s) s
      rw [← hpast] at hboard
      cases hp : overflowsAtMinute s c <;> simpa [hp] using hboard
  · have hsame : countMinute s c = s := by simp [countMinute, hk]
    have hno : overflowsAtMinute s c = false := by simp [overflowsAtMinute, hk]
    rw [hsame]
    refine ⟨rfl, fun d => ?_, by simp [hno]; exact .refl s⟩
    by_cases hd : d = c
    · subst hd; simp [countedMinute, hk]
    · simp [hd]

/-- R168: what an event adds to a counter, and whether it overflows, depends on that counter, the pool and the lists. -/
theorem minute_agrees {s t : State} {c : CounterNo} (hc : look t.counters c = look s.counters c) (hp : t.pool = s.pool)
    (ho : t.occupancy = s.occupancy) : countedMinute t c = countedMinute s c ∧ overflowsAtMinute t c = overflowsAtMinute s c := by
  have hpresent : ∀ f, presentFor f t = presentFor f s := fun f => by
    cases f <;> simp only [presentFor, poolCount, roomCount, State.roomState, hp, ho]
  exact ⟨by simp only [countedMinute, hc, hpresent], by simp only [overflowsAtMinute, hc, hpresent]⟩

theorem countMinutes_counted (cs : List CounterNo) (hn : cs.Nodup) (s : State) : MinuteCounted cs s (cs.foldl countMinute s) := by
  induction cs generalizing s with
  | nil => exact ⟨rfl, fun c => by simp, .refl s⟩
  | cons c cs ih =>
    obtain ⟨hc, hcs⟩ := List.nodup_cons.mp hn
    obtain ⟨hrest, hcounters, hboard⟩ := countMinute_counted s c
    obtain ⟨krest, kcounters, kboard⟩ := ih hcs (countMinute s c)
    have hpool : (countMinute s c).pool = s.pool := by rw [hrest]
    have hlists : (countMinute s c).occupancy = s.occupancy := by rw [hrest]
    have hother : ∀ d ∈ cs, look (countMinute s c).counters d = look s.counters d := fun d hd => by
      rw [hcounters, if_neg (by rintro h; exact hc (List.mem_singleton.mp h ▸ hd))]
    refine ⟨krest.trans (by rw [List.foldl_cons, hrest]), fun d => ?_, ?_⟩
    · rw [List.foldl_cons, kcounters]
      by_cases hd : d ∈ cs
      · simp [hd, (minute_agrees (hother d hd) hpool hlists).1]
      · simp [hd, hcounters]
    · have hfilter : cs.filter (overflowsAtMinute (countMinute s c)) = cs.filter (overflowsAtMinute s) :=
        List.filter_congr fun d hd => (minute_agrees (hother d hd) hpool hlists).2
      rw [hfilter] at kboard
      refine SameBoard.trans ?_ kboard
      have hsplit : (c :: cs).filter (overflowsAtMinute s) = [c].filter (overflowsAtMinute s) ++ cs.filter (overflowsAtMinute s) := by
        rw [← List.filter_append]; rfl
      rw [hsplit, List.foldl_append]
      exact hboard.overflows _

theorem countOccupancyMinutes_counted (s : State) : MinuteCounted (List.finRange 8) s (countOccupancyMinutes s) :=
  countMinutes_counted _ (List.nodup_finRange 8) s

/-! ### The sweep at a minute boundary -/

theorem countUp16_eq (v : Nat) : countUp16 v = min 65535 (v + 1) := by
  unfold countUp16 Config.top16
  split <;> omega

theorem grantNext_frame (s : State) : grantNext s = { s with
    turn := (grantNext s).turn, lastServed := (grantNext s).lastServed, readQueue := (grantNext s).readQueue } := by
  unfold grantNext
  repeat' split
  all_goals rfl

theorem linkWaits_iff (s : State) (l : Link) : linkWaits s l = true ↔ Waits l s := by
  unfold linkWaits Waits
  cases hf : (s.port l).inFlight with
  | none => simp [Option.isSome_iff_ne_none]
  | some f =>
    obtain ⟨r, g⟩ := f
    simp only [Bool.or_eq_true, Bool.and_eq_true, beq_iff_eq, Option.isSome_iff_ne_none, Option.some.injEq, InFlight.mk.injEq]
    constructor
    · rintro (⟨hg, hr⟩ | h)
      · exact .inl ⟨r, ⟨rfl, hg⟩, hr⟩
      · exact .inr h
    · rintro (⟨q, ⟨rfl, hg⟩, hr⟩ | h)
      · exact .inl ⟨hg, hr⟩
      · exact .inr h

/-- R53: with no other user waiting the turn goes to the sweep. -/
theorem grantNext_sweep (s : State) (hs : s.supply = .normal) (ht : s.turn = none) (he : s.heldEffects = []) (hq : s.readQueue = [])
    (hw : ∀ l, ¬ Waits l s) (hrun : s.sweep.run.isSome = true) : grantNext s = { s with turn := some ⟨.sweepStep, s.clock⟩ } := by
  have hno : ∀ l, linkWaits s l = false := fun l => Bool.eq_false_iff.mpr ((linkWaits_iff s l).not.mpr (hw l))
  simp [grantNext, nextLink, hs, ht, he, hq, hno, hrun]

/-- R52, R104: no turn is granted during one, or with an effect held. -/
theorem grantNext_busy (s : State) (h : s.turn ≠ none ∨ s.heldEffects ≠ []) : grantNext s = s := by
  have hb : (s.turn.isSome || !s.heldEffects.isEmpty || s.supply == .backup) = true := by
    rcases h with h | h
    · simp [Option.isSome_iff_ne_none.mpr h]
    · simp [h]
  rw [grantNext, if_pos hb]

/-- R52, R136, R137: what a minute-boundary event does to the sweep and the arbiter. -/
structure SweepSet (full : Bool) (s t : State) : Prop where
  starts : s.sweep.run = none → t.sweep = { s.sweep with run := some ⟨.permits 0, s.clock.abs, full⟩ }
  marks : s.sweep.run ≠ none → s.sweep.pending = false → t.sweep = { s.sweep with pending := true, pendingFull := full }
  overruns : s.sweep.run ≠ none → s.sweep.pending = true →
    t.sweep = { s.sweep with overruns := min 65535 (s.sweep.overruns + 1), pendingFull := s.sweep.pendingFull || full }
  asks : s.sweep.run = none → s.turn = none → s.heldEffects = [] → s.readQueue = [] → (∀ l, ¬ Waits l s) →
    t.turn = some ⟨.sweepStep, s.clock⟩ ∧ t.lastServed = s.lastServed ∧ t.readQueue = []
  still : s.sweep.run ≠ none ∨ s.turn ≠ none ∨ s.heldEffects ≠ [] →
    t.turn = s.turn ∧ t.lastServed = s.lastServed ∧ t.readQueue = s.readQueue

theorem SweepSet.of_same {full : Bool} {s t u : State} (h : SweepSet full s t) (sweep : u.sweep = t.sweep) (turn : u.turn = t.turn)
    (served : u.lastServed = t.lastServed) (reads : u.readQueue = t.readQueue) : SweepSet full s u := by
  obtain ⟨starts, marks, overruns, asks, still⟩ := h
  rw [← sweep] at starts marks overruns
  rw [← turn, ← served, ← reads] at asks still
  exact ⟨starts, marks, overruns, asks, still⟩

/-- What it does to them and to the board. -/
structure SweepMarked (full : Bool) (s t : State) : Prop extends SweepSet full s t where
  rest : t = { s with
    sweep := t.sweep, notices := t.notices, ports := t.ports, turn := t.turn, lastServed := t.lastServed, readQueue := t.readQueue }
  board : SameBoard (overrunPosted s) t

/-- R136: a sweep started for the clock's minute. -/
def sweepStarted (full : Bool) (s : State) : State := { s with sweep := { s.sweep with run := some ⟨.permits 0, s.clock.abs, full⟩ } }

theorem sweepEvent_idle (full : Bool) (s : State) (hs : s.supply = .normal) (hrun : s.sweep.run = none) :
    SweepMarked full s (sweepEvent full s) := by
  have hevent : sweepEvent full s = grantNext (sweepStarted full s) := by simp [sweepEvent, hrun, nowMinute, sweepStarted]
  have hframe := grantNext_frame (sweepStarted full s)
  have hover : overrunPosted s = s := by simp [overrunPosted, hrun]
  rw [hevent]
  refine ⟨⟨fun _ => by rw [hframe]; rfl, fun h => absurd hrun h, fun h => absurd hrun h, fun _ ht he hq hw => ?_, fun h => ?_⟩,
    hframe.trans (by rw [hframe]; rfl), by rw [hover, hframe]; exact {}⟩
  · rw [grantNext_sweep (sweepStarted full s) hs ht he hq hw rfl]
    exact ⟨rfl, rfl, hq⟩
  · rw [grantNext_busy (sweepStarted full s) (h.resolve_left fun h => h hrun)]
    exact ⟨rfl, rfl, rfl⟩

theorem sweepEvent_running (full : Bool) (s : State) (hrun : s.sweep.run ≠ none) (hp : s.sweep.pending = false) :
    SweepMarked full s (sweepEvent full s) := by
  obtain ⟨run, hr⟩ := Option.ne_none_iff_exists'.mp hrun
  have hevent : sweepEvent full s = { s with sweep := { s.sweep with pending := true, pendingFull := full } } := by
    simp [sweepEvent, hr, hp]
  have hover : overrunPosted s = s := by simp [overrunPosted, hp]
  rw [hevent]
  exact ⟨⟨fun h => absurd h hrun, fun _ _ => rfl, fun _ h => absurd (h.symm.trans hp) (by decide), fun h => absurd h hrun,
    fun _ => ⟨rfl, rfl, rfl⟩⟩, rfl, by rw [hover]; exact {}⟩

theorem sweepEvent_pending (full : Bool) (s : State) (hrun : s.sweep.run ≠ none) (hp : s.sweep.pending = true) :
    SweepMarked full s (sweepEvent full s) := by
  obtain ⟨run, hr⟩ := Option.ne_none_iff_exists'.mp hrun
  have hevent : sweepEvent full s = post { kind := .sweepOverrun, figures := .value (min 65535 (s.sweep.overruns + 1)) }
      { s with sweep := { s.sweep with
        overruns := min 65535 (s.sweep.overruns + 1), pendingFull := s.sweep.pendingFull || full } } := by
    simp [sweepEvent, hr, hp, countUp16_eq]
  have hframe := post_frame { kind := .sweepOverrun, figures := .value (min 65535 (s.sweep.overruns + 1)) }
    { s with sweep := { s.sweep with
      overruns := min 65535 (s.sweep.overruns + 1), pendingFull := s.sweep.pendingFull || full } }
  have hover : overrunPosted s = post { kind := .sweepOverrun, figures := .value (min 65535 (s.sweep.overruns + 1)) } s :=
    if_pos ⟨hrun, hp⟩
  rw [hevent]
  exact ⟨⟨fun h => absurd h hrun, fun _ h => absurd (h.symm.trans hp) (by decide), fun _ _ => by rw [hframe],
    fun h => absurd h hrun, fun _ => by rw [hframe]; exact ⟨rfl, rfl, rfl⟩⟩, hframe.trans (by rw [hframe]),
    by rw [hover]; exact SameBoard.post {} _⟩

theorem sweepEvent_marked (full : Bool) (s : State) (hs : s.supply = .normal) : SweepMarked full s (sweepEvent full s) := by
  by_cases hrun : s.sweep.run = none
  · exact sweepEvent_idle full s hs hrun
  · cases hp : s.sweep.pending with
    | false => exact sweepEvent_running full s hrun hp
    | true => exact sweepEvent_pending full s hrun hp

/-- R137: the overrun posted depends on the sweep and the board. -/
theorem SameBoard.overrun {s t : State} (h : SameBoard s t) (hw : t.sweep = s.sweep) :
    SameBoard (overrunPosted s) (overrunPosted t) := by
  simp only [overrunPosted, hw]
  split
  · exact h.post _
  · exact h

theorem overflowsPosted_sweep (past : CounterNo → Bool) (s : State) : (overflowsPosted past s).sweep = s.sweep :=
  (Kept.foldl (fun t _ => post_kept _ t) _ s).sweep

/-! ### The event -/

/-- R4: what a delivered event does, in whichever order it reached the two blocks. -/
structure EventTaken (full : Bool) (s t : State) : Prop extends SweepSet full s t where
  rest : t = { s with
    sweep := t.sweep, counters := t.counters, notices := t.notices, ports := t.ports, turn := t.turn
    lastServed := t.lastServed, readQueue := t.readQueue, freeUsed := t.freeUsed }
  counters : ∀ c, look t.counters c = countedMinute s c
  board : SameBoard (overflowsPosted (overflowsAtMinute s) (overrunPosted s)) t ∨
    SameBoard (overrunPosted (overflowsPosted (overflowsAtMinute s) s)) t

/-- R4: the event at the sweep and then at the counters. -/
theorem sweepThenCounters (full : Bool) (s : State) (hs : s.supply = .normal) :
    EventTaken full s (countOccupancyMinutes (sweepEvent full s)) := by
  have hmarked := sweepEvent_marked full s hs
  have hcounted := countOccupancyMinutes_counted (sweepEvent full s)
  have hagree : ∀ c, countedMinute (sweepEvent full s) c = countedMinute s c ∧
      overflowsAtMinute (sweepEvent full s) c = overflowsAtMinute s c := fun c =>
    minute_agrees (by rw [hmarked.rest]) (by rw [hmarked.rest]) (by rw [hmarked.rest])
  refine ⟨?_, by rw [hcounted.rest, hmarked.rest], fun c => ?_, .inl ?_⟩
  · exact hmarked.toSweepSet.of_same (by rw [hcounted.rest]) (by rw [hcounted.rest]) (by rw [hcounted.rest]) (by rw [hcounted.rest])
  · rw [hcounted.counters, if_pos (List.mem_finRange c), (hagree c).1]
  · have hpast : overflowsAtMinute (sweepEvent full s) = overflowsAtMinute s := funext fun c => (hagree c).2
    have hboard := hcounted.board
    rw [hpast] at hboard
    exact (hmarked.board.overflows _).trans hboard

/-- R4: the event at the counters and then at the sweep, where that has one pending. -/
theorem countersThenSweep (full : Bool) (s : State) (hrun : s.sweep.run ≠ none) (hp : s.sweep.pending = true) :
    EventTaken full s (sweepEvent full (countOccupancyMinutes s)) := by
  have hcounted := countOccupancyMinutes_counted s
  have hsweep : (countOccupancyMinutes s).sweep = s.sweep := by rw [hcounted.rest]
  have hmarked := sweepEvent_pending full (countOccupancyMinutes s) (by rwa [hsweep]) (by rw [hsweep]; exact hp)
  refine ⟨⟨fun h => absurd h hrun, fun _ h => absurd (h.symm.trans hp) (by decide), fun _ _ => ?_, fun h => absurd h hrun,
      fun _ => ?_⟩,
    by rw [hmarked.rest, hcounted.rest], fun c => ?_, .inr ?_⟩
  · rw [hmarked.overruns (by rwa [hsweep]) (by rw [hsweep]; exact hp), hsweep]
  · obtain ⟨hturn, hserved, hreads⟩ := hmarked.still (.inl (by rwa [hsweep]))
    rw [hturn, hserved, hreads, hcounted.rest]
    exact ⟨rfl, rfl, rfl⟩
  · have hc : (sweepEvent full (countOccupancyMinutes s)).counters = (countOccupancyMinutes s).counters := by rw [hmarked.rest]
    rw [hc, hcounted.counters, if_pos (List.mem_finRange c)]
  · have hboard : SameBoard (overflowsPosted (overflowsAtMinute s) s) (countOccupancyMinutes s) := hcounted.board
    exact (hboard.overrun (hsweep.trans (overflowsPosted_sweep ..).symm)).trans hmarked.board

/-- The free values used up are no part of what an event does. -/
theorem EventTaken.of_freeUsed {full : Bool} {s t : State} {n : Nat} (h : EventTaken full { s with freeUsed := n } t) :
    EventTaken full s t where
  rest := h.rest
  counters := h.counters
  board :=
    have hfree : SameBoard s { s with freeUsed := n } := {}
    h.board.imp
      (fun k => ((hfree.overrun rfl).overflowsPosted _).trans k)
      (fun k => ((hfree.overflowsPosted _).overrun ((overflowsPosted_sweep ..).trans (overflowsPosted_sweep _ s).symm)).trans k)
  toSweepSet := ⟨h.starts, h.marks, h.overruns, h.asks, h.still⟩

theorem raiseEvent_taken (s : State) (hs : s.supply = .normal) : EventTaken (s.mark.matchesTime s.clock) s (raiseEvent s) := by
  unfold raiseEvent
  rw [hs]
  dsimp only
  unfold deliverEvent
  split
  · next h =>
    simp only [Bool.and_eq_true] at h
    obtain ⟨⟨hrun, hp⟩, -⟩ := h
    dsimp only
    split
    · exact .of_freeUsed (countersThenSweep _ { s with freeUsed := s.freeUsed + 1 } (Option.isSome_iff_ne_none.mp hrun) hp)
    · exact .of_freeUsed (sweepThenCounters _ { s with freeUsed := s.freeUsed + 1 } hs)
  · exact sweepThenCounters _ s hs

end Sys2Proof.Machine

open Sys2Proof Sys2Proof.Machine Sys2Proof.Claims in
/-- Settles O12: an event is taken by the sweep and the counters, in an order that shows only in their notices. -/
theorem minuteBoundaryIsTaken : Obligations.MinuteBoundaryIsTaken := by
  intro s
  refine ⟨fun hs => ?_, fun hs => ?_⟩
  · simp only [raiseEvent, hs, countUp16_eq]
  · have h := raiseEvent_taken s hs
    exact ⟨h.rest, h.starts, h.marks, h.overruns, h.asks, h.still,
      h.board.imp (fun k => ⟨k.notices, k.ports⟩) (fun k => ⟨k.notices, k.ports⟩), h.counters⟩
end

section
/-! The requests on the clock and the mark (O14, O15) and the plain reads (O21). -/

namespace Sys2Proof.Machine

open Claims

/-! ### Requests served at once -/

theorem overrunPosted_inFlight (l : Link) (s : State) : ((overrunPosted s).port l).inFlight = (s.port l).inFlight := by
  unfold overrunPosted
  split
  · exact post_inFlight ..
  · rfl

theorem overflowsPosted_inFlight (past : CounterNo → Bool) (l : Link) (s : State) :
    ((overflowsPosted past s).port l).inFlight = (s.port l).inFlight := by
  unfold overflowsPosted
  generalize (List.finRange 8).filter past = cs
  induction cs generalizing s with
  | nil => rfl
  | cons c cs ih => rw [List.foldl_cons, ih, post_inFlight]

/-- R4, R175: a minute-boundary event leaves the requests in flight as they were. -/
theorem raiseEvent_inFlight (l : Link) (s : State) (hs : s.supply = .normal) :
    ((raiseEvent s).port l).inFlight = (s.port l).inFlight := by
  rcases (raiseEvent_taken s hs).board with h | h
  · rw [h.port, overflowsPosted_inFlight, overrunPosted_inFlight]
  · rw [h.port, overrunPosted_inFlight, overflowsPosted_inFlight]

/-- R176: the reply to a request handed over. -/
theorem reply_handed {l : Link} {r : Request} {s : State} (h : (s.port l).inFlight = some ⟨r, .handed⟩) (st : Status)
    (c : ReplyContent) : reply l st c s = answered l r st c s :=
  reply_unanswered l st c s r .handed h (by decide)

/-- R175: a row whose request is in hand and waits for no turn is the request's service. -/
theorem exec_atOnce {i : Instr} {l : Link} {r : Request} {s : State} (hi : i.request = some (l, r)) (hn : needsTurn r = false)
    (h : Handed l r s) : exec i s = .next (serveRequest l r s) := by
  rw [exec_requestRow i l r hi, requestRow, hn]
  exact congrArg Host.Outcome.next (atOnce_served l r _ s h.1 h.2)

end Sys2Proof.Machine

open Sys2Proof Sys2Proof.Machine Sys2Proof.Claims in
/-- Settles O14: either request's service, by the seconds held, and its reply to the request still in flight. -/
theorem clockIsSetAndAligned : Obligations.ClockIsSetAndAligned := by
  refine ⟨fun l v s h hv => ?_, fun l s h hu => ?_⟩
  · rw [exec_atOnce rfl rfl h]
    have hserve : serveRequest l (.setClock v) s = acceptSetClock l v s := checked_passes l _ _ s (by simp [hv])
    rw [hserve, acceptSetClock, reply_handed (r := .setClock v)]
    · rfl
    · rw [writeJournal_port, post_inFlight, raiseEvent_inFlight]
      · exact h.2
      · exact h.1
  · rw [exec_atOnce rfl rfl h]
    have hserve : serveRequest l .alignClock s = acceptAlignClock l s := checked_passes l _ _ s (by simp [hu])
    rw [hserve]
    refine ⟨fun h0 => ?_, fun h1 h29 _ => ?_, fun h30 => ?_⟩
    · rw [acceptAlignClock, if_pos h0, reply_handed h.2]
    · rw [acceptAlignClock, if_neg (by omega), if_pos (by omega), reply_handed (r := .alignClock)]
      · rfl
      · rw [journalAlign, writeJournal_port]
        exact h.2
    · rw [acceptAlignClock, if_neg (by omega), if_neg (by omega), reply_handed (r := .alignClock)]
      · rfl
      · rw [journalAlign, writeJournal_port, raiseEvent_inFlight]
        · exact h.2
        · exact h.1

namespace Sys2Proof.Machine

open Claims

/-! ### The mark -/

/-- R10: the model's test of the mark's ranges. -/
theorem mark_inRange_iff (m : Mark) : m.inRange = true ↔ MarkInRange m := by
  have hfield : ∀ f low high, markFieldInRange f low high = true ↔ FieldInRange f low high := fun f low high => by
    cases f <;> simp [markFieldInRange, FieldInRange]
  simp only [Mark.inRange, Bool.and_eq_true, hfield, MarkInRange, and_assoc]

end Sys2Proof.Machine

open Sys2Proof Sys2Proof.Machine Sys2Proof.Claims in
/-- Settles O15: the port's refusal, the one check, and the mark an event is then matched against. -/
theorem setMarkReplacesTheMark : Obligations.SetMarkReplacesTheMark := by
  refine ⟨fun m => ⟨rfl, rfl⟩, fun m s hs hf => ?_, fun m s h hm => ?_, fun m s h hm => ⟨?_, fun hrun => ?_⟩⟩
  · exact (requestRowsMeetThePort _ .security _ s rfl).2.2.1 hs hf rfl
  · rw [exec_atOnce rfl rfl h]
    have hbad : m.inRange = false := Bool.eq_false_iff.mpr ((mark_inRange_iff m).not.mpr hm)
    have hserve : serveRequest .works (.setMark m) s = reply .works .badTime .nothing s := by
      simp [serveRequest, serveSetMark, checked, hbad]
    rw [hserve, reply_handed h.2]
  · rw [exec_atOnce rfl rfl h]
    have hgood : m.inRange = true := (mark_inRange_iff m).mpr hm
    have hserve : serveRequest .works (.setMark m) s = reply .works .done (.mark m) { s with mark := m } := by
      simp [serveRequest, serveSetMark, checked, hgood]
    rw [hserve, reply_handed (s := { s with mark := m }) h.2]
  · rw [(raiseEvent_taken { s with mark := m } h.1).starts hrun]

namespace Sys2Proof.Machine

open Claims

/-! ### The plain reads -/

theorem roomNo?_val (r : RoomNo) : roomNo? r.val = some r := by simp [roomNo?]

theorem loopAddr?_val (a : LoopAddr) : loopAddr? a.val = some a := by simp [loopAddr?]

theorem toList_eq_looks {n : Nat} {α : Type} (t : Table n α) : t.toList = (List.finRange n).map fun i => look t i := by
  refine List.ext_getElem (by simp) fun i h k => ?_
  simp [look]

/-- R124: a station as READ STATION shows it. -/
theorem stationView_eq (s : State) (a : LoopAddr) : stationView s a =
    if mapOutcome s a = .unpolled then { s.station a with state := .unknown, decision := none, mode := none }
    else { s.station a with state := heldIn s a } := by
  unfold stationView stationState heldIn
  cases mapOutcome s a with
  | unpolled => rfl
  | mapped r configured => rfl
  | conflict => rfl

/-- R54: the requests that write the permit table or the presence pool, by their places in the catalogue. -/
theorem writesTable_iff (r : Request) : writesTable r = true ↔ placeOf r ∈ [6, 15, 16, 17, 18, 19, 20, 21, 22, 26, 29] := by
  cases r <;> simp [writesTable, placeOf]

/-- R54, R136: with a sweep in progress its state follows the turn. -/
theorem sweepState_running (s : State) (h : s.sweep.run ≠ none) :
    (sweepState s = .suspended ∧ TableWriteTurn s) ∨ (sweepState s = .running ∧ ¬ TableWriteTurn s) := by
  obtain ⟨run, hrun⟩ := Option.ne_none_iff_exists'.mp h
  unfold sweepState TableWriteTurn
  rw [hrun]
  rcases ht : s.turn with _ | ⟨user, began⟩
  · simp
  · cases user with
    | decision | sweepStep => simp
    | walkStep => simp
    | request l =>
      cases hf : (s.port l).inFlight with
      | none => simp [hf]
      | some f =>
        cases hw : writesTable f.request with
        | true => exact .inl ⟨by simp [hf, hw], .inr ⟨l, f, rfl, hf, (writesTable_iff _).mp hw⟩⟩
        | false =>
          refine .inr ⟨by simp [hf, hw], ?_⟩
          rintro (hu | ⟨k, g, hu, hg, hp⟩)
          · cases hu
          · cases hu
            obtain rfl := Option.some.inj (hf.symm.trans hg)
            exact absurd ((writesTable_iff _).mpr hp) (by simp [hw])

end Sys2Proof.Machine

open Sys2Proof Sys2Proof.Machine Sys2Proof.Claims in
/-- Settles O21: each read in hand is one reply, whose content is what stands. -/
theorem plainReadsAnswer : Obligations.PlainReadsAnswer := by
  intro l s
  refine ⟨fun h => ?clock, fun r h => ?room, fun h => ?map, fun h => ?freeze, fun h => ?timings, fun a h => ?station, fun r h => ?door,
    fun h => ?sweep⟩
  case clock => rw [exec_atOnce rfl rfl h, ← reply_handed h.2]; rfl
  case room =>
    rw [exec_atOnce rfl rfl h, ← reply_handed h.2]
    simp [serveRequest, serveReadRoom, roomNo?_val, roomCount]
  case map =>
    rw [exec_atOnce rfl rfl h, ← reply_handed h.2, ← toList_eq_looks]
    rfl
  case freeze =>
    rw [exec_atOnce rfl rfl h, ← reply_handed h.2, ← toList_eq_looks]
    rfl
  case timings => rw [exec_atOnce rfl rfl h, ← reply_handed h.2]; rfl
  case station =>
    rw [exec_atOnce rfl rfl h, ← reply_handed h.2, ← stationView_eq]
    simp [serveRequest, serveReadStation, loopAddr?_val]
  case door =>
    rw [exec_atOnce rfl rfl h, ← reply_handed h.2]
    simp [serveRequest, serveReadDoor, roomNo?_val, tiedBadges, List.map_filterMap]
  case sweep =>
    have hreads : ∀ x, sweepState s = x → exec (.readSweep l) s = .next (answered l .readSweep .done
        (.sweep x s.sweep.run s.sweep.pending s.sweep.pendingFull s.sweep.overruns s.walk) s) := fun x hx => by
      rw [exec_atOnce rfl rfl h, ← reply_handed h.2, ← hx]
      rfl
    refine ⟨fun hrun => hreads _ ?_, fun hrun ht => hreads _ ?_, fun hrun ht => hreads _ ?_⟩
    · simp [sweepState, hrun]
    · exact ((sweepState_running s hrun).resolve_right fun k => k.2 ht).1
    · exact ((sweepState_running s hrun).resolve_left fun k => ht k.2).1
end

section
/-! What a fall of supply completes first (O55): afterwards no turn is in progress, no effect is held, and no request that is served
at once is still in hand. -/

namespace Sys2Proof.Machine

open Claims

/-! ### What keeps the turn and the held effects -/

/-- The turn is kept, and as many effects are held. -/
structure SameHeld (s t : State) : Prop where
  turn : t.turn = s.turn := by rfl
  effects : t.heldEffects.length = s.heldEffects.length := by rfl

theorem SameHeld.refl (s : State) : SameHeld s s := {}

theorem SameHeld.trans {s t u : State} (h : SameHeld s t) (k : SameHeld t u) : SameHeld s u :=
  ⟨k.turn.trans h.turn, k.effects.trans h.effects⟩

theorem SameHeld.foldl {α : Type} {f : State → α → State} (hf : ∀ s x, SameHeld s (f s x)) (xs : List α) (s : State) :
    SameHeld s (xs.foldl f s) := by
  induction xs generalizing s with
  | nil => exact .refl s
  | cons x xs ih => exact (hf s x).trans (ih _)

theorem SameHeld.foldl_pair {α β : Type} {f : State × β → α → State × β} (hf : ∀ x a, SameHeld x.1 (f x a).1) (xs : List α)
    (x : State × β) : SameHeld x.1 (xs.foldl f x).1 := by
  induction xs generalizing x with
  | nil => exact .refl _
  | cons a xs ih => exact (hf x a).trans (ih _)

theorem post_sameHeld (b : NoticeBody) (s : State) : SameHeld s (post b s) := by
  rw [post_frame]
  exact {}

theorem writeJournal_sameHeld (b : JournalBody) (s : State) : SameHeld s (writeJournal b s) := by
  rw [writeJournal_frame]
  exact {}

theorem addToCounter_sameHeld (c : CounterNo) (n : Nat) (s : State) : SameHeld s (addToCounter c n s) := by
  rw [addToCounter_frame]
  exact {}

theorem report_sameHeld (e : CountEvent) (room : Option RoomNo) (n : Nat) (s : State) : SameHeld s (report e room n s) := by
  unfold report
  split
  · exact .refl s
  · refine SameHeld.foldl (fun s c => ?_) _ s
    dsimp only
    split
    · exact addToCounter_sameHeld ..
    · exact .refl s

theorem uncarry_sameHeld (who : List PoolIx) (s : State) : SameHeld s (uncarry who s) := ⟨rfl, by simp [uncarry]⟩

theorem setPresenceState_sameHeld (i : PoolIx) (x : PresenceState) (s : State) : SameHeld s (setPresenceState i x s) := by
  unfold setPresenceState
  split <;> exact {}

theorem removePresence_sameHeld (i : PoolIx) (s : State) : SameHeld s (removePresence i s) := by
  unfold removePresence
  split
  · exact .refl s
  · exact SameHeld.trans {} (uncarry_sameHeld ..)

theorem escortCheck_sameHeld (r : RoomNo) (gone : List Nat) (s : State) : SameHeld s (escortCheck r gone s) := by
  unfold escortCheck
  dsimp only
  split
  · exact .refl s
  · refine SameHeld.trans ?_ ((post_sameHeld ..).trans (writeJournal_sameHeld ..))
    split <;> exact {}

theorem reexamine_sameHeld (r : RoomNo) (gone : List Nat) (s : State) : SameHeld s (reexamine r gone s) :=
  SameHeld.trans {} (escortCheck_sameHeld r gone (refreshRoom r s))

theorem resolveOpened_sameHeld (i : PoolIx) (x : State × List Nat) : SameHeld x.1 (resolveOpened i x).1 := by
  unfold resolveOpened
  split
  · exact .refl _
  · dsimp only
    split
    · exact ((setPresenceState_sameHeld ..).trans (writeJournal_sameHeld ..)).trans (report_sameHeld ..)
    · exact ((removePresence_sameHeld ..).trans (writeJournal_sameHeld ..)).trans (report_sameHeld ..)
    · exact .refl _
    · exact .refl _

theorem resolveUnused_sameHeld (i : PoolIx) (x : State × List Nat) : SameHeld x.1 (resolveUnused i x).1 := by
  unfold resolveUnused
  split
  · exact .refl _
  · dsimp only
    split
    · exact (removePresence_sameHeld ..).trans (writeJournal_sameHeld ..)
    · exact (setPresenceState_sameHeld ..).trans (writeJournal_sameHeld ..)
    · exact .refl _
    · exact .refl _

theorem resolve_sameHeld {one : PoolIx → State × List Nat → State × List Nat} (h : ∀ i x, SameHeld x.1 (one i x).1)
    (who : List PoolIx) (s : State) : SameHeld s (resolve one who s) := by
  refine (uncarry_sameHeld who s).trans (SameHeld.foldl (fun t r => ?_) _ _)
  exact (SameHeld.foldl_pair (fun x i => h i x) _ (t, [])).trans (reexamine_sameHeld ..)

/-- R104: an effect carried out leaves the turn, and as many effects held. -/
theorem applyEffect_sameHeld (e : PresenceEffect) (s : State) : SameHeld s (applyEffect e s) := by
  unfold applyEffect
  split
  · exact (uncarry_sameHeld ..).trans {}
  · exact resolve_sameHeld resolveOpened_sameHeld ..
  · exact resolve_sameHeld resolveUnused_sameHeld ..
  · exact uncarry_sameHeld ..

/-- R104: as many steps as effects are held leave none held. -/
theorem drainHeld_unturned (k : Nat) (s : State) (ht : s.turn = none) (hk : s.heldEffects.length = k) : Unturned (drainHeld k s) := by
  induction k generalizing s with
  | zero => exact ⟨ht, List.eq_nil_of_length_eq_zero hk⟩
  | succ k ih =>
    cases he : s.heldEffects with
    | nil => simp [he] at hk
    | cons e es =>
      have happly := applyEffect_sameHeld e { s with heldEffects := es }
      have hlength : es.length = k := by simpa [he] using hk
      simp only [drainHeld, he]
      exact ih _ (happly.turn.trans ht) (happly.effects.trans hlength)

/-- R55, R104: a turn completed leaves no turn and no effect held. -/
theorem finishTurn_unturned (s : State) : Unturned (finishTurn s) := drainHeld_unturned _ { serveTurn s with turn := none } rfl rfl

/-! ### Requests served at once are served in full -/

/-- No request on the link waits to be served. -/
structure Unhanded (l : Link) (s : State) : Prop where
  none : ∀ r, (s.port l).inFlight ≠ some ⟨r, .handed⟩

/-- R176: whatever it answers, a reply leaves no request waiting to be served. -/
theorem reply_unhanded (l : Link) (st : Status) (c : ReplyContent) (s : State) : Unhanded l (reply l st c s) := by
  refine ⟨fun r => ?_⟩
  unfold reply
  dsimp only
  split
  · next h => simp [h]
  · next h => simp [h]
  · simp

theorem checked_unhanded {l : Link} {checks : List (Bool × Status)} {f : State → State} {s : State}
    (hf : firstFailing checks = none → Unhanded l (f s)) : Unhanded l (checked l checks f s) := by
  cases hc : firstFailing checks with
  | some st => rw [checked_fails l checks f s st hc]; exact reply_unhanded ..
  | none => rw [checked_passes l checks f s hc]; exact hf hc

theorem startWalk_unhanded (l : Link) (kind : WalkKind) (firm : Nat) (s : State) : Unhanded l (startWalk l kind firm s) := by
  refine ⟨fun r => ?_⟩
  unfold startWalk
  dsimp only
  rw [grantNext_port]
  cases hf : (s.port l).inFlight <;> simp [State.port, State.setPort]

theorem serveSetCounter_unhanded (l : Link) (b : CounterBody) (s : State) : Unhanded l (serveSetCounter l b s) := by
  refine checked_unhanded fun h => ?_
  have hnumber : b.number < 8 := by
    by_contra hn
    simp [show 7 < b.number by omega] at h
  have hselect : (selectOf? b.select b.reason).isSome = true := by
    by_contra hn
    simp [Option.not_isSome_iff_eq_none.mp hn] at h
  obtain ⟨select, hs⟩ := Option.isSome_iff_exists.mp hselect
  have hc : index8? b.number = some ⟨b.number, hnumber⟩ := dif_pos hnumber
  unfold acceptSetCounter
  rw [hc, hs]
  exact reply_unhanded ..

/-- R175: a request that waits for no turn is answered, or its walk begun, by its service. -/
theorem serveRequest_unhanded (l : Link) (r : Request) (s : State) (hr : needsTurn r = false) : Unhanded l (serveRequest l r s) := by
  cases r with
  | setClock t => exact checked_unhanded fun _ => reply_unhanded ..
  | alignClock => exact checked_unhanded fun _ => reply_unhanded ..
  | setMark m => exact checked_unhanded (f := fun s => reply l .done (.mark m) { s with mark := m }) fun _ => reply_unhanded ..
  | writeTimings t => exact checked_unhanded fun _ => reply_unhanded ..
  | readClock | lockConfiguration | readMap | readFreeze | readTimings | readSweep | setNoticeMask | readJournal | restart =>
    exact reply_unhanded ..
  | readRoom n =>
    simp only [serveRequest, serveReadRoom]
    split <;> exact reply_unhanded ..
  | readStation a =>
    simp only [serveRequest, serveReadStation]
    split <;> exact reply_unhanded ..
  | readDoor n =>
    simp only [serveRequest, serveReadDoor]
    split <;> exact reply_unhanded ..
  | suspendFirm f v => exact checked_unhanded fun _ => startWalk_unhanded ..
  | resumeFirm f => exact checked_unhanded fun _ => startWalk_unhanded ..
  | takeNotice =>
    simp only [serveRequest, serveTakeNotice]
    split <;> exact reply_unhanded ..
  | setAttentionMode m =>
    simp only [serveRequest, serveSetAttentionMode]
    split <;> exact reply_unhanded ..
  | setCounter b => exact serveSetCounter_unhanded l b s
  | readCounter n =>
    simp only [serveRequest, serveReadCounter]
    split
    · exact reply_unhanded ..
    · exact checked_unhanded fun _ => reply_unhanded ..
  | _ => cases hr

/-- R12: every request on the link that still waits to be served needs a turn. -/
def OnlyTurnsWait (l : Link) (s : State) : Prop := ∀ r, (s.port l).inFlight = some ⟨r, .handed⟩ → needsTurn r = true

theorem Course.onlyTurnsWait {free : Link → Prop} {s t : State} (h : Course free s t) {l : Link} (hs : OnlyTurnsWait l s) :
    OnlyTurnsWait l t := fun r ht => hs r (h.handed l r ht)

theorem serveHanded_onlyTurnsWait (l : Link) (s : State) : OnlyTurnsWait l (serveHanded l s) := by
  unfold serveHanded
  split
  · next r hf =>
    split
    · next hr =>
      intro q hq
      obtain ⟨rfl, -⟩ := InFlight.mk.inj (Option.some.inj (hf.symm.trans hq))
      exact hr
    · next hr => exact fun q hq => absurd hq ((serveRequest_unhanded l r s (by simpa using hr)).none q)
  · next hf => exact fun r hr => absurd hr (hf r)

/-- R12, R55, R104: what a fall completes first leaves the part at rest. -/
theorem settle_atRest (s : State) : AtRest (settle s) := by
  have hworks := serveHanded_onlyTurnsWait .works s
  have hsecurity := serveHanded_onlyTurnsWait .security (serveHanded .works s)
  have hthen := (serveHanded_course (free := fun _ => True) .security (serveHanded .works s) fun _ => trivial).onlyTurnsWait hworks
  have hfinish := finishTurn_course (free := fun _ => True) (serveHanded .security (serveHanded .works s)) fun _ _ => trivial
  refine ⟨finishTurn_unturned _, fun l => ?_⟩
  cases l with
  | works => exact hfinish.onlyTurnsWait hthen
  | security => exact hfinish.onlyTurnsWait hsecurity

theorem serveHanded_atRest (l : Link) (s : State) (h : OnlyTurnsWait l s) : serveHanded l s = s := by
  unfold serveHanded
  split
  · next r hf => rw [if_pos (h r hf)]
  · rfl

theorem finishTurn_of_unturned (s : State) (h : Unturned s) : finishTurn s = s := by
  obtain ⟨ht, he⟩ := h
  have hserve : serveTurn s = s := by rw [serveTurn, ht]
  have hsame : { s with turn := none } = s := by rw [← ht]
  rw [finishTurn, hserve, hsame, he]
  rfl

/-- R12: a part at rest has nothing to complete. -/
theorem settle_of_atRest (s : State) (h : AtRest s) : settle s = s := by
  obtain ⟨hturn, hwaits⟩ := h
  rw [settle, serveHanded_atRest .works s (hwaits _), serveHanded_atRest .security s (hwaits _), finishTurn_of_unturned s hturn]

theorem settle_supply (s : State) : (settle s).supply = s.supply :=
  (settle_course (free := fun _ => True) s fun _ _ => trivial).supply

/-- R12: a fall is that of the part with what was under way completed. -/
theorem supplyFall_settle (s : State) (hs : s.supply = .normal) : exec .supplyFall s = exec .supplyFall (settle s) := by
  have hfall : fallToBackup (settle s) = fallToBackup s := by rw [fallToBackup, settle_of_atRest _ (settle_atRest s), fallToBackup]
  simp only [exec, execSupplyFall, settle_supply, hs, hfall]

end Sys2Proof.Machine
end

section
/-! The register at a reset (O55): every presence changed as the reset says of its state, the lists closed up, and the rooms that held
a presence brought up to date. -/

namespace Sys2Proof.Machine

open Claims

/-! ### Every presence changed -/

/-- R114 to R116: what becomes of a pool record. -/
def changed (become : PresenceState → Option PresenceState) (s : State) (i : PoolIx) : Option Presence :=
  (s.presence i).bind fun p => (become p.state).map fun x => { p with state := x }

/-- R114 to R116: a presence is there and is not removed. -/
def stays (become : PresenceState → Option PresenceState) (s : State) (i : PoolIx) : Bool :=
  (s.presence i).any fun p => (become p.state).isSome

/-- The records named changed, and the rooms' lists closed up. -/
structure Changed (become : PresenceState → Option PresenceState) (is : List PoolIx) (s t : State) : Prop where
  only : RegisterOnly s t
  presence : ∀ j, t.presence j = if j ∈ is then changed become s j else s.presence j
  room : ∀ r, t.roomState r = { s.roomState r with list := (t.roomState r).list }
  list : Listed s → ∀ r, (t.roomState r).list = (s.roomState r).list.filter fun j => decide (j ∉ is) || stays become s j
  listed : Listed s → Listed t

theorem Changed.refl (become : PresenceState → Option PresenceState) (s : State) : Changed become [] s s :=
  ⟨.refl s, fun j => by simp, fun r => rfl, fun _ r => by simp, id⟩

/-- An absent record is changed by leaving everything as it is. -/
theorem Changed.absent (become : PresenceState → Option PresenceState) {i : PoolIx} {s : State} (h : s.presence i = none) :
    Changed become [i] s s := by
  refine ⟨.refl s, fun j => ?_, fun r => rfl, fun hl r => ?_, id⟩
  · by_cases hj : j = i
    · subst hj; simp [changed, h]
    · simp [hj]
  · refine (List.filter_eq_self.mpr fun j hj => ?_).symm
    obtain ⟨p, hp, -⟩ := (hl r).2 j hj
    have hne : j ≠ i := by rintro rfl; simp [h] at hp
    simp [hne]

/-- A presence that stays keeps its place. -/
theorem setPresenceState_changed {become : PresenceState → Option PresenceState} {i : PoolIx} {p : Presence} {x : PresenceState}
    {s : State} (hp : s.presence i = some p) (hx : become p.state = some x) : Changed become [i] s (setPresenceState i x s) := by
  have heq : setPresenceState i x s = s.setPresence i (some { p with state := x }) := by simp [setPresenceState, hp]
  rw [heq]
  refine ⟨rfl, fun j => ?_, fun r => rfl, fun _ r => ?_, fun hl r => ⟨(hl r).1, fun j hj => ?_⟩⟩
  · by_cases hj : j = i
    · subst hj; simp [changed, hp, hx]
    · simp [hj, Ne.symm hj]
  · refine (List.filter_eq_self.mpr fun j _ => ?_).symm
    by_cases hj : j = i
    · subst hj; simp [stays, hp, hx]
    · simp [hj]
  · obtain ⟨q, hq, hroom⟩ := (hl r).2 j hj
    by_cases hji : j = i
    · subst hji
      obtain rfl := Option.some.inj (hp.symm.trans hq)
      exact ⟨{ p with state := x }, by simp, hroom⟩
    · exact ⟨q, by simpa [Ne.symm hji] using hq, hroom⟩

/-- R100: a presence removed leaves its room's list. -/
theorem removePresence_changed {become : PresenceState → Option PresenceState} {i : PoolIx} {p : Presence} {s : State}
    (hs : CarriesNobody s) (hp : s.presence i = some p) (hx : become p.state = none) :
    Changed become [i] s (removePresence i s) := by
  have hgone : RegisterOnly s ((s.setPresence i none).setRoomState p.room
      { s.roomState p.room with list := (s.roomState p.room).list.erase i }) := rfl
  have heq : removePresence i s = (s.setPresence i none).setRoomState p.room
      { s.roomState p.room with list := (s.roomState p.room).list.erase i } := by
    simp only [removePresence, hp]
    exact (hgone.carriesNobody hs).uncarry [i]
  have hstays : ∀ j, (decide (j ∉ [i]) || stays become s j) = (j != i) := fun j => by
    by_cases hj : j = i
    · subst hj; simp [stays, hp, hx]
    · simp [hj]
  have hlist : Listed s → ∀ r, ((removePresence i s).roomState r).list = (s.roomState r).list.filter (· != i) := fun hl r => by
    rw [heq]
    by_cases hr : r = p.room
    · subst hr
      simp [(hl p.room).1.erase_eq_filter]
    · have hno : ∀ j ∈ (s.roomState r).list, j ≠ i := fun j hj e => by
        obtain ⟨q, hq, hroom⟩ := (hl r).2 j hj
        subst e
        exact hr (by rw [← hroom, Option.some.inj (hp.symm.trans hq)])
      rw [State.setRoomState_roomState_other _ _ _ (Ne.symm hr), State.setPresence_roomState]
      exact (List.filter_eq_self.mpr fun j hj => by simpa using hno j hj).symm
  have hpresence : ∀ j, (removePresence i s).presence j = if j = i then none else s.presence j := fun j => by
    rw [heq]
    by_cases hj : j = i
    · subst hj; simp
    · simp [hj, Ne.symm hj]
  refine ⟨heq ▸ hgone, fun j => ?_, fun r => ?_, fun hl r => ?_, fun hl r => ⟨?_, fun j hj => ?_⟩⟩
  · rw [hpresence]
    by_cases hj : j = i
    · subst hj; simp [changed, hp, hx]
    · simp [hj]
  · rw [heq]
    by_cases hr : r = p.room
    · subst hr; simp
    · simp [Ne.symm hr]
  · simp only [hstays]
    exact hlist hl r
  · rw [hlist hl r]
    exact (hl r).1.filter _
  · rw [hlist hl r, List.mem_filter] at hj
    obtain ⟨hmem, hne⟩ := hj
    obtain ⟨q, hq, hroom⟩ := (hl r).2 j hmem
    exact ⟨q, by rw [hpresence, if_neg (by simpa using hne)]; exact hq, hroom⟩

theorem sweepOne_changed (become : PresenceState → Option PresenceState) (x : State × List (RoomNo × Nat)) (i : PoolIx)
    (hx : CarriesNobody x.1) : Changed become [i] x.1 (sweepOne become false x i).1 := by
  unfold sweepOne
  split
  · next h => exact .absent become h
  · next p hp =>
    split
    · next st hst => exact setPresenceState_changed hp hst
    · next hst => exact removePresence_changed hx hp hst

theorem Changed.cons {become : PresenceState → Option PresenceState} {i : PoolIx} {is : List PoolIx} {s t u : State} (hi : i ∉ is)
    (h : Changed become [i] s t) (k : Changed become is t u) : Changed become (i :: is) s u := by
  have hother : ∀ j, j ≠ i → t.presence j = s.presence j := fun j hj => by
    rw [h.presence, if_neg (by simpa using hj)]
  refine ⟨h.only.trans k.only, fun j => ?_, fun r => ?_, fun hl r => ?_, fun hl => k.listed (h.listed hl)⟩
  · rw [k.presence]
    by_cases hj : j = i
    · subst hj
      simp [hi, h.presence]
    · simp only [List.mem_cons, hj, false_or, changed, hother j hj]
  · rw [k.room, h.room]
  · rw [k.list (h.listed hl), h.list hl, List.filter_filter]
    refine List.filter_congr fun j _ => ?_
    by_cases hj : j = i
    · subst hj
      simp [hi]
    · simp [hj, stays, hother j hj]

theorem sweepAll_changed (become : PresenceState → Option PresenceState) (is : List PoolIx) (hn : is.Nodup)
    (x : State × List (RoomNo × Nat)) (hx : CarriesNobody x.1) :
    Changed become is x.1 (is.foldl (sweepOne become false) x).1 := by
  induction is generalizing x with
  | nil => exact .refl become _
  | cons i is ih =>
    obtain ⟨hi, his⟩ := List.nodup_cons.mp hn
    have hone := sweepOne_changed become x i hx
    exact hone.cons hi (ih his _ (hone.only.carriesNobody hx))

theorem changePresences_changed (become : PresenceState → Option PresenceState) {s : State} (hs : CarriesNobody s) :
    Changed become (List.finRange 128) s (changePresences become false s).1 := by
  unfold changePresences
  rw [hs.uncarry]
  exact sweepAll_changed become _ (List.nodup_finRange 128) (s, []) hs

/-! ### The rooms brought up to date -/

/-- R105, R106, R110: a room's state as a re-examination leaves it. -/
def refreshed (s : State) (r : RoomNo) : RoomOccupancy :=
  { s.roomState r with
    lone := loneAfter (s.roomState r).lone (lonePresence s r) (nowMinute s)
    uncertain := (s.roomState r).uncertain && !(s.roomState r).list.isEmpty }

theorem refreshRoom_refreshed (r : RoomNo) (s : State) : refreshRoom r s = s.setRoomState r (refreshed s r) := rfl

/-- The rooms named that held a presence brought up to date, and nothing else changed. -/
structure RoomsRefreshed (before : State) (rs : List RoomNo) (s t : State) : Prop where
  rest : t = { s with occupancy := t.occupancy }
  room : ∀ r, t.roomState r = if r ∈ rs ∧ (before.roomState r).list ≠ [] then refreshed s r else s.roomState r

theorem RoomsRefreshed.presence {before s t : State} {rs : List RoomNo} (h : RoomsRefreshed before rs s t) (i : PoolIx) :
    t.presence i = s.presence i := by
  rw [h.rest]
  rfl

theorem reexamine_rooms (before : State) (rs : List RoomNo) (hn : rs.Nodup) (s : State) :
    RoomsRefreshed before rs s
      (rs.foldl (fun s r => if (before.roomState r).list.isEmpty then s else refreshRoom r s) s) := by
  induction rs generalizing s with
  | nil => exact ⟨rfl, fun r => by simp⟩
  | cons q rs ih =>
    obtain ⟨hq, hrs⟩ := List.nodup_cons.mp hn
    rw [List.foldl_cons]
    by_cases he : (before.roomState q).list = []
    · rw [if_pos (by simp [he])]
      obtain ⟨hrest, hroom⟩ := ih hrs s
      refine ⟨hrest, fun r => ?_⟩
      rw [hroom]
      by_cases hr : r = q
      · subst hr; simp [he]
      · simp [hr]
    · rw [if_neg (by simpa using he), refreshRoom_refreshed]
      obtain ⟨hrest, hroom⟩ := ih hrs (s.setRoomState q (refreshed s q))
      refine ⟨hrest.trans rfl, fun r => ?_⟩
      rw [hroom]
      by_cases hr : r = q
      · subst hr; simp [hq, he]
      · have hsame : refreshed (s.setRoomState q (refreshed s q)) r = refreshed s r := by
          simp [refreshed, lonePresence, nowMinute, Ne.symm hr]
        simp [hr, hsame, Ne.symm hr]

/-- R106: the lone presence is the one that is alone. -/
theorem lonePresence_iff (s : State) (r : RoomNo) (i : PoolIx) : lonePresence s r = some i ↔ Alone s r i := by
  unfold lonePresence Alone
  rcases hk : s.room r with _ | ⟨k, m⟩
  · simp
  · cases k with
    | b | c => simp
    | a =>
      have hclass : ∃ k, some (⟨.a, m⟩ : RoomConfig) = some k ∧ k.roomClass = .a := ⟨_, rfl, rfl⟩
      dsimp only
      split
      · next j hj => simp [hj]
      · next hj => exact ⟨(nomatch ·), fun h => absurd h.2 (hj i)⟩

/-! ### The register at a reset -/

theorem presencesAtReset_presence (become : PresenceState → Option PresenceState) {s : State} (hs : CarriesNobody s) (i : PoolIx) :
    (presencesAtReset become s).presence i = changed become s i := by
  have hrooms := reexamine_rooms s (List.finRange 64) (List.nodup_finRange 64) (changePresences become false s).1
  rw [presencesAtReset, reexamineHeld, hrooms.presence, (changePresences_changed become hs).presence, if_pos (List.mem_finRange i)]

/-- R105, R106, R110, R114 to R116: a reset that removes just the ARRIVING presences refreshes every room. -/
theorem presencesAtReset_refreshed {become : PresenceState → Option PresenceState} (hb : ∀ x, (become x).isSome = (x != .arriving))
    {s : State} (hs : CarriesNobody s) (hl : Listed s) (r : RoomNo) : Refreshed s (presencesAtReset become s) r := by
  have hchange := changePresences_changed become hs
  have hrooms := reexamine_rooms s (List.finRange 64) (List.nodup_finRange 64) (changePresences become false s).1
  rw [presencesAtReset, reexamineHeld]
  generalize (changePresences become false s).1 = x at hchange hrooms
  generalize (List.finRange 64).foldl _ x = t at hrooms
  obtain ⟨hrest, hroom⟩ := hrooms
  have hstays : ∀ j, stays become s j = (s.presence j).any (·.state != .arriving) := fun j => by simp only [stays, hb]
  have hxlist : (x.roomState r).list = (s.roomState r).list.filter fun i => (s.presence i).any (·.state != .arriving) := by
    rw [hchange.list hl]
    exact List.filter_congr fun j _ => by simp [hstays]
  have htlist : (t.roomState r).list = (x.roomState r).list := by
    rw [hroom]
    split <;> rfl
  have hempty : (s.roomState r).list = [] → t.roomState r = s.roomState r := fun h => by
    rw [hroom, if_neg (by simp [h]), hchange.room, hxlist, h, List.filter_nil, ← h]
  have hfull : (s.roomState r).list ≠ [] → t.roomState r = refreshed x r := fun h => by
    rw [hroom, if_pos ⟨List.mem_finRange r, h⟩]
  have halone : ∀ i, Alone t r i ↔ lonePresence x r = some i := fun i => by
    have hsame : Alone t r i ↔ Alone x r i := by
      rw [Alone, Alone, htlist, hrest]
      rfl
    exact hsame.trans (lonePresence_iff x r i).symm
  have hheld : ∀ i, Alone t r i → (s.roomState r).list ≠ [] := fun i h he => by
    have hnil : (t.roomState r).list = [] := by rw [htlist, hxlist, he, List.filter_nil]
    obtain ⟨-, hone⟩ := h
    rw [hnil] at hone
    cases hone
  have hlone : (x.roomState r).lone = (s.roomState r).lone := by rw [hchange.room]
  have hmark : (x.roomState r).uncertain = (s.roomState r).uncertain := by rw [hchange.room]
  have hclock : nowMinute x = s.clock.abs := by rw [hchange.only]; rfl
  refine ⟨htlist.trans hxlist, hempty, fun h => ?mark, fun h hn => ?nobody, fun i k ha hk hw => ?same, fun i ha hk => ?fresh⟩
  case mark =>
    rw [htlist, hfull h]
    simp only [refreshed, hmark]
  case nobody =>
    have hnone : lonePresence x r = none := by
      rcases hp : lonePresence x r with _ | i
      · rfl
      · exact absurd ((halone i).mpr hp) (hn i)
    rw [hfull h]
    simp [refreshed, hnone, loneAfter]
  case same =>
    rw [hfull (hheld i ha)]
    simp [refreshed, (halone i).mp ha, hlone, hk, hw, loneAfter]
  case fresh =>
    rw [hfull (hheld i ha)]
    simp only [refreshed, (halone i).mp ha, hlone, hclock]
    cases hb : (s.roomState r).lone with
    | none => rfl
    | some k => simp [loneAfter, hk k hb]

end Sys2Proof.Machine
end

section
/-! The fall of supply and the warm return (O55): what a notice to both queues leaves, the return's records, and the line's level taken. -/

namespace Sys2Proof.Machine

open Claims

/-! ### A notice to both queues -/

/-- R149: a notice as it is placed in a queue. -/
def stamped (b : NoticeBody) (s : State) : Notice := ⟨{ b with figures := b.figures.capped }, b.kind.level, s.clock⟩

theorem post_both (b : NoticeBody) (s : State) (hb : b.queues = [.works, .security]) (hs : s.supply = .normal) :
    post b s = postTo .security (stamped b s) (postTo .works (stamped b s) s) := by
  rw [post_normal b s hs, hb]
  simp only [List.foldl_cons, List.foldl_nil, (postTo_kept ..).clock]
  rfl

theorem post_both_queue (b : NoticeBody) (s : State) (hb : b.queues = [.works, .security]) (hs : s.supply = .normal) (l : Link) :
    (post b s).queue l = ((s.queue l).offer (stamped b s)).1 := by
  rw [post_both b s hb hs]
  cases l with
  | works => rw [postTo_queue_other _ _ (by decide), postTo_queue_same]
  | security => rw [postTo_queue_same, postTo_queue_other _ _ (by decide)]

/-- R151: with room in the queue a notice goes last. -/
theorem offer_room (q : NoticeQueue) (n : Notice) (h : q.notices.length < 32) : q.offer n = (⟨q.notices ++ [n], q.lost⟩, true) :=
  if_pos h

/-- R157, R158: in PULSE mode a line is not judged by its queue. -/
theorem judgeAttention_pulse (l : Link) (s : State) (hs : s.supply = .normal) (hm : (s.port l).mode = .pulse) :
    judgeAttention l s = s := by
  simp [judgeAttention, hs, hm]

/-- R158: a notice placed in the queue of a link in PULSE mode drives its line where it is above the mask. -/
theorem postTo_port_pulse (l : Link) (n : Notice) (s : State) (hs : s.supply = .normal) (hm : (s.port l).mode = .pulse)
    (hq : (s.queue l).notices.length < 32) : (postTo l n s).port l =
      { s.port l with attention := (s.port l).attention || decide ((s.port l).mask < n.level) } := by
  have hplaced : postTo l n s = pulseFor l n.level (s.setQueue l ⟨(s.queue l).notices ++ [n], (s.queue l).lost⟩) := by
    simp only [postTo, offer_room _ n hq, if_true]
    rw [judgeAttention_pulse l (s.setQueue l _) hs hm]
  rw [hplaced]
  by_cases h : (s.port l).mask < n.level
  · simp [pulseFor, hm, h]
  · simp [pulseFor, hm, h]
    rw [← hm]

theorem post_both_port_pulse (b : NoticeBody) (s : State) (hb : b.queues = [.works, .security]) (hs : s.supply = .normal) (l : Link)
    (hm : (s.port l).mode = .pulse) (hq : (s.queue l).notices.length < 32) : (post b s).port l =
      { s.port l with attention := (s.port l).attention || decide ((s.port l).mask < b.kind.level) } := by
  rw [post_both b s hb hs]
  cases l with
  | works => exact (postTo_port_other _ _ (by decide)).trans (postTo_port_pulse .works _ s hs hm hq)
  | security =>
    have hother := postTo_port_other (stamped b s) s (show Link.works ≠ .security by decide)
    have hqueue := postTo_queue_other (stamped b s) s (show Link.works ≠ .security by decide)
    have hpulse := postTo_port_pulse .security (stamped b s) (postTo .works (stamped b s) s) ((postTo_kept ..).supply.trans hs)
      (by rw [hother]; exact hm) (by rw [hqueue]; exact hq)
    rw [hpulse, hother]
    rfl

/-- R157, R158: a posting changes of a port its line alone. -/
theorem post_port (b : NoticeBody) (s : State) (l : Link) : ∃ a, (post b s).port l = { s.port l with attention := a } := by
  unfold post
  split
  · exact ⟨_, rfl⟩
  · generalize b.queues = ls
    induction ls generalizing s with
    | nil => exact ⟨_, rfl⟩
    | cons m ls ih =>
      rw [List.foldl_cons]
      generalize (⟨{ b with figures := b.figures.capped }, b.kind.level, s.clock⟩ : Notice) = n
      obtain ⟨a, ha⟩ := ih (postTo m n s) (by rw [(postTo_kept ..).supply]; assumption)
      by_cases e : m = l
      · subst e
        obtain ⟨x, hx⟩ := postTo_port_same m n s
        exact ⟨a, by rw [ha, hx]⟩
      · exact ⟨a, by rw [ha, postTo_port_other n s e]⟩

theorem notices_ext {s t : State} (h : ∀ l, s.queue l = t.queue l) : s.notices = t.notices := both_ext h

/-! ### The line's level taken, with its report -/

/-- R132, R135: the EVACUATION notice of the first edge. -/
def firstEdge (s : State) : State := post { kind := .evacuation, figures := .value 1 } s

/-- R135: what taking the line's level leaves in a part with no POLL out and no decision pending. -/
structure LineFollowed (s t : State) : Prop where
  station : ∀ a, t.station a = if mapOutcome s a = .unpolled then s.station a
    else { s.station a with mode := some (if s.evacuateLine then .evacRelease else .resumeNormal) }
  rest : t = { lineTaken s with
    stations := t.stations
    doors := if s.evacuateLine then mapAll (fun d => { d with state := .evacuation }) s.doors else s.doors
    notices := (if s.evacuateLine then firstEdge s else s).notices
    ports := (if s.evacuateLine then firstEdge s else s).ports
    journal := s.journal ++ if s.evacuateLine then [⟨s.nextSequence, s.clock, { kind := .evacStart, value := some 1 }⟩] else []
    nextSequence := if s.evacuateLine then s.nextSequence + 1 else s.nextSequence }

theorem mem_polledAddresses (s : State) (a : LoopAddr) : a ∈ polledAddresses s ↔ mapOutcome s a ≠ .unpolled := by
  simp only [polledAddresses, List.mem_filter, List.mem_finRange, true_and]
  cases mapOutcome s a <;> simp [MapOutcome.isPolled]

theorem announceEvacuation_short (s : State) (hs : s.supply = .normal) (hj : s.journal.length < 512) (he : s.edgeCount = 1) :
    announceEvacuation s = { s with
      notices := (firstEdge s).notices, ports := (firstEdge s).ports
      journal := s.journal ++ [⟨s.nextSequence, s.clock, { kind := .evacStart, value := some 1 }⟩]
      nextSequence := s.nextSequence + 1 } := by
  have hpost : post { kind := .evacuation, figures := .value s.edgeCount } s =
      { s with notices := (firstEdge s).notices, ports := (firstEdge s).ports } :=
    (congrArg (fun v => post { kind := .evacuation, figures := .value v } s) he).trans (post_frame ..)
  rw [announceEvacuation, hpost, writeJournal_short _ { s with notices := (firstEdge s).notices, ports := (firstEdge s).ports } hs hj, he]
  rfl

theorem takeEvacuation_followed (s : State) (hs : s.supply = .normal) (hp : s.polling = none)
    (hd : ∀ a, (s.station a).decision = none) (hj : s.journal.length < 512) : LineFollowed s (takeEvacuation s) := by
  obtain ⟨v, ⟨hrest, hstation⟩, htake⟩ := takeEvacuation_quiet s hp hd
  have hmode : ∀ a, v.station a = if mapOutcome s a = .unpolled then s.station a
      else { s.station a with mode := some (if s.evacuateLine then .evacRelease else .resumeNormal) } := fun a => by
    rw [hstation]
    simp only [mem_polledAddresses, ite_not]
    rfl
  cases hl : s.evacuateLine with
  | false =>
    have hv : takeEvacuation s = v := by rw [htake, hl]; rfl
    rw [hv]
    refine ⟨hmode, hrest.trans ?_⟩
    simp [hl, lineTaken]
  | true =>
    have hboard : SameBoard s (doorsEvacuated v) := by
      rw [hrest]
      exact {}
    have hv : takeEvacuation s = announceEvacuation (doorsEvacuated v) := by rw [htake, hl]; rfl
    have hannounce := announceEvacuation_short (doorsEvacuated v) (hboard.supply.trans hs) (by rw [hrest]; exact hj)
      (by rw [hrest]; simp [doorsEvacuated, lineTaken, hl])
    have hedge : SameBoard (firstEdge s) (firstEdge (doorsEvacuated v)) := hboard.post _
    rw [hedge.notices, hedge.ports] at hannounce
    rw [hv, hannounce]
    refine ⟨hmode, ?_⟩
    rw [hrest]
    simp [hl, doorsEvacuated, lineTaken]

/-! ### The warm return -/

/-- R14: the part with its supply back, before its reports. -/
def restored (s : State) : State := { quiesce s with supply := .normal, backupMinutes := 0, restartDue := false }

/-- R163: the RESTART record of a restart taken in BACKUP. -/
def dueRecords (s : State) : List JournalRecord :=
  if s.restartDue then [⟨s.nextSequence, s.clock, { kind := .restart, value := some 0 }⟩] else []

/-- R163: the next sequence number once that record has been written. -/
def dueNext (s : State) : Word32 := s.nextSequence + BitVec.ofNat 32 (dueRecords s).length

/-- R159: the SUPPLY-RETURN notice. -/
def returnPosted (minutes : Nat) (s : State) : State := post { kind := .supplyReturn, figures := .value minutes } s

/-- R14, R159, R163: the part with its supply back and its return reported. -/
def returnReported (s : State) : State :=
  { restored s with
    notices := (returnPosted s.backupMinutes (restored s)).notices
    ports := (returnPosted s.backupMinutes (restored s)).ports
    journal := s.journal ++ dueRecords s ++ [⟨dueNext s, s.clock, { kind := .supplyReturn, value := some s.backupMinutes }⟩]
    nextSequence := dueNext s + 1 }

theorem dueRecords_length_le (s : State) : (dueRecords s).length ≤ 1 := by
  unfold dueRecords
  split <;> simp

theorem journalDueRestart_short (s : State) (hs : s.supply = .normal) (hj : s.journal.length < 512) : journalDueRestart s =
    { s with journal := s.journal ++ dueRecords s, nextSequence := dueNext s, restartDue := false } := by
  cases hd : s.restartDue with
  | false =>
    simp only [journalDueRestart, dueNext, dueRecords, hd, Bool.false_eq_true, if_false, List.append_nil, List.length_nil,
      BitVec.add_zero]
    rw [← hd]
  | true =>
    simp only [journalDueRestart, dueNext, dueRecords, hd, if_true, writeJournal_short _ s hs hj]
    rfl

/-- R163: the part with its supply back and its due record written. -/
def restartRecorded (s : State) : State := { restored s with journal := s.journal ++ dueRecords s, nextSequence := dueNext s }

theorem returnFromBackup_reported (s : State) (hm : s.backupMinutes ≤ 65535) (hj : s.journal.length < 500) :
    returnFromBackup s = takeEvacuation (returnReported s) := by
  have hdue : journalDueRestart { quiesce s with supply := .normal, backupMinutes := 0 } = restartRecorded s :=
    journalDueRestart_short { quiesce s with supply := .normal, backupMinutes := 0 } rfl (show s.journal.length < 512 by omega)
  have hboard : SameBoard (returnPosted s.backupMinutes (restored s)) (returnPosted s.backupMinutes (restartRecorded s)) :=
    SameBoard.post (s := restored s) (t := restartRecorded s) {} _
  have hposted : returnPosted s.backupMinutes (restartRecorded s) = { restartRecorded s with
      notices := (returnPosted s.backupMinutes (restored s)).notices, ports := (returnPosted s.backupMinutes (restored s)).ports } := by
    rw [← hboard.notices, ← hboard.ports]
    exact post_frame ..
  have hlength : (s.journal ++ dueRecords s).length < 512 := by
    have hdue := dueRecords_length_le s
    rw [List.length_append]
    omega
  have hrecord : writeJournal { kind := .supplyReturn, value := some s.backupMinutes }
      (returnPosted s.backupMinutes (restartRecorded s)) = returnReported s := by
    rw [hposted, writeJournal_short]
    · simp only [Option.map_some, show cap16 s.backupMinutes = s.backupMinutes from min_eq_left hm]
      rfl
    · rfl
    · exact hlength
  have hreturn : returnFromBackup s = takeEvacuation (writeJournal { kind := .supplyReturn, value := some s.backupMinutes }
      (returnPosted s.backupMinutes (journalDueRestart { quiesce s with supply := .normal, backupMinutes := 0 }))) := rfl
  rw [hreturn, hdue, hrecord]

theorem returnReported_followed (s : State) (hj : s.journal.length < 500) :
    LineFollowed (returnReported s) (takeEvacuation (returnReported s)) := by
  refine takeEvacuation_followed (returnReported s) rfl rfl (fun a => ?_) ?_
  · simp [returnReported, restored, quiesce, State.station, Station.initial]
  · have hdue := dueRecords_length_le s
    simp only [returnReported, List.length_append, List.length_singleton]
    omega

/-- R13, R157: after a return the lines of links in LEVEL mode follow their queues. -/
theorem returnFromBackup_attentionSound (s : State) : AttentionSound (returnFromBackup s) := by
  have hposted : AttentionSound (returnPosted s.backupMinutes
      (journalDueRestart { quiesce s with supply := .normal, backupMinutes := 0 })) :=
    attentionSound_posted_to_both _ _ rfl (journalDueRestart_works _).core.supply
  exact ((Course.works (free := fun _ => True) (.then_writeJournal (.refl _))).trans (takeEvacuation_course _)).attentionSound hposted

/-- R159: the part after a return has posted SUPPLY-RETURN and, with the line high, the first edge's EVACUATION. -/
def returnBoard (minutes : Nat) (s : State) : State :=
  if s.evacuateLine then firstEdge (returnPosted minutes s) else returnPosted minutes s

theorem returnBoard_queue (minutes : Nat) (s : State) (hs : s.supply = .normal) (l : Link) : (returnBoard minutes s).queue l =
    let q := ((s.queue l).offer (stamped { kind := .supplyReturn, figures := .value minutes } s)).1
    if s.evacuateLine then (q.offer (stamped { kind := .evacuation, figures := .value 1 } s)).1 else q := by
  have hreturn := post_both_queue { kind := .supplyReturn, figures := .value minutes } s rfl hs l
  have hsupply := (post_kept { kind := .supplyReturn, figures := .value minutes } s).supply.trans hs
  have hedge := post_both_queue { kind := .evacuation, figures := .value 1 } (returnPosted minutes s) rfl hsupply l
  have hclock : (returnPosted minutes s).clock = s.clock := (post_kept ..).clock
  unfold returnBoard
  split
  · rw [firstEdge, hedge, returnPosted, hreturn, stamped, stamped, stamped, ← returnPosted, hclock]
  · exact hreturn

theorem returnBoard_port (minutes : Nat) (s : State) (l : Link) :
    ∃ a, (returnBoard minutes s).port l = { s.port l with attention := a } := by
  obtain ⟨a, ha⟩ := post_port { kind := .supplyReturn, figures := .value minutes } s l
  obtain ⟨b, hb⟩ := post_port { kind := .evacuation, figures := .value 1 } (returnPosted minutes s) l
  unfold returnBoard
  split
  · exact ⟨b, by rw [firstEdge, hb, returnPosted, ha]⟩
  · exact ⟨a, ha⟩

/-- R158, R159: with room in the queue the notices of a return drive a released line in PULSE mode. -/
theorem returnBoard_port_pulse (minutes : Nat) (s : State) (hs : s.supply = .normal) (l : Link) (hm : (s.port l).mode = .pulse)
    (ha : (s.port l).attention = false) (hq : (s.queue l).notices.length < 31) :
    ((returnBoard minutes s).port l).attention = true ↔ (s.port l).mask < 3 ∨ (s.evacuateLine = true ∧ (s.port l).mask < 7) := by
  have hreturn : (returnPosted minutes s).port l = { s.port l with attention := decide ((s.port l).mask < 3) } := by
    have h := post_both_port_pulse { kind := .supplyReturn, figures := .value minutes } s rfl hs l hm (by omega)
    rwa [ha, Bool.false_or] at h
  have hqueue : ((returnPosted minutes s).queue l).notices.length < 32 := by
    rw [returnPosted, post_both_queue _ s rfl hs, offer_room _ _ (by omega)]
    simp only [List.length_append, List.length_singleton]
    omega
  have hedge := post_both_port_pulse { kind := .evacuation, figures := .value 1 } (returnPosted minutes s) rfl
    ((post_kept ..).supply.trans hs) l (by rw [hreturn]; exact hm) hqueue
  unfold returnBoard
  cases hl : s.evacuateLine with
  | false =>
    rw [if_neg (by decide), hreturn]
    simp
  | true =>
    rw [if_pos rfl, firstEdge, hedge, hreturn]
    simp only [Bool.or_eq_true, decide_eq_true_eq, true_and]
    exact Iff.rfl

/-- R159: the notices of a return, in a queue with room for them. -/
theorem returnBoard_queue_room {minutes : Nat} (s : State) (hs : s.supply = .normal) (hm : minutes ≤ 65535) (l : Link)
    (hq : (s.queue l).notices.length < 31) : (returnBoard minutes s).queue l = ⟨(s.queue l).notices ++
      ⟨{ kind := .supplyReturn, figures := .value minutes }, 3, s.clock⟩ ::
        (if s.evacuateLine then [⟨{ kind := .evacuation, figures := .value 1 }, 7, s.clock⟩] else []), (s.queue l).lost⟩ := by
  have hreturn : stamped { kind := .supplyReturn, figures := .value minutes } s =
      ⟨{ kind := .supplyReturn, figures := .value minutes }, 3, s.clock⟩ := by
    simp only [stamped, Figures.capped, show cap16 minutes = minutes from min_eq_left hm]
    rfl
  have hedge : stamped { kind := .evacuation, figures := .value 1 } s =
      ⟨{ kind := .evacuation, figures := .value 1 }, 7, s.clock⟩ := rfl
  rw [returnBoard_queue minutes s hs, hreturn, hedge, offer_room _ _ (by omega)]
  dsimp only
  split
  · rw [offer_room _ _ (by simp only [List.length_append, List.length_singleton]; omega)]
    simp
  · rfl

/-- R159: what a return leaves in the queues depends on the queues, the clock and the line alone. -/
theorem returnBoard_notices (minutes : Nat) {s t : State} (hs : s.supply = .normal) (ht : t.supply = .normal) (hn : t.notices = s.notices)
    (hc : t.clock = s.clock) (he : t.evacuateLine = s.evacuateLine) :
    (returnBoard minutes t).notices = (returnBoard minutes s).notices := by
  refine notices_ext fun l => ?_
  have hq : t.queue l = s.queue l := by simp only [State.queue, hn]
  rw [returnBoard_queue minutes t ht, returnBoard_queue minutes s hs]
  simp only [stamped, hq, hc, he]

end Sys2Proof.Machine
end

section
/-! What a fall of supply and a warm return leave (O55). -/

namespace Sys2Proof.Machine

open Claims

/-! ### The fall -/

/-- R12, R13: the part at rest emptied, with its supply gone, before the register is changed. -/
def batteryBase (s : State) : State := { quiesce s with supply := .backup, backupMinutes := 0 }

/-- R12, R114: what a fall leaves of a part at rest. -/
def fallen (s : State) : State := { presencesAtReset loseSight (batteryBase s) with supplyLine := false }

theorem batteryBase_carriesNobody (s : State) : CarriesNobody (batteryBase s) :=
  have h := quiesce_carriesNobody s
  ⟨h.decisions, h.tied, h.effects⟩

theorem supplyFall_fallen (s : State) (hs : s.supply = .normal) (hr : AtRest s) : exec .supplyFall s = .next (fallen s) := by
  have hfall : fallToBackup s = presencesAtReset loseSight (batteryBase s) := by
    rw [fallToBackup, settle_of_atRest s hr]
    rfl
  simp only [exec, execSupplyFall, hs, hfall, fallen]

/-- The part after a fall, with the pool and the rooms as given. -/
def fallenWith (pool : Table 128 (Option Presence)) (occupancy : Table 64 RoomOccupancy) (s : State) : State :=
  { batteryBase s with pool := pool, occupancy := occupancy, supplyLine := false }

theorem fallen_eq (s : State) : fallen s = fallenWith (fallen s).pool (fallen s).occupancy s :=
  congrArg (fun t : State => { t with supplyLine := false })
    (presencesAtReset_registerOnly loseSight (batteryBase_carriesNobody s))

theorem fallen_field {α : Type} (f : State → α) (s : State) : f (fallen s) = f (fallenWith (fallen s).pool (fallen s).occupancy s) :=
  congrArg f (fallen_eq s)

theorem fallen_emptied (s : State) : Emptied s (fallen s) := by
  rw [fallen_eq]
  refine ⟨rfl, rfl, rfl, fun r => look_fill none r, rfl, ⟨rfl, rfl, rfl⟩, rfl, rfl, fun a => ?_, fun r => ?_, fun l => ?_⟩
  · have ha : look (quiesce s).stations a = Station.initial := look_fill _ a
    simp only [State.station, fallenWith, batteryBase, ha, Station.initial]
  · have hr : look (quiesce s).doors r = Door.initial := look_fill _ r
    simp only [State.door, fallenWith, batteryBase, hr, Door.initial]
  · cases l <;> rfl

theorem fallen_stays (s : State) : Stays s (fallen s) := by
  rw [fallen_eq]
  exact ⟨⟨rfl, rfl, rfl, rfl⟩, ⟨rfl, rfl, rfl, rfl⟩, rfl, rfl, ⟨rfl, rfl⟩⟩

/-- R114: the ARRIVING presences are gone, and every other is UNVERIFIED. -/
theorem fallen_presence (s : State) (i : PoolIx) : (fallen s).presence i = (s.presence i).bind fun p =>
    if p.state = .arriving then none else some { p with state := .unverified } := by
  refine (presencesAtReset_presence loseSight (batteryBase_carriesNobody s) i).trans ?_
  have hsame : (batteryBase s).presence i = s.presence i := rfl
  rw [changed, hsame]
  cases s.presence i with
  | none => rfl
  | some p => rcases p with ⟨_, _, _, _, x, _⟩; cases x <;> rfl

theorem fallen_refreshed (s : State) (h : Listed s) (r : RoomNo) : Refreshed s (fallen s) r := by
  have hr := presencesAtReset_refreshed (become := loseSight) (fun x => by cases x <;> rfl) (batteryBase_carriesNobody s) h r
  exact ⟨hr.list, hr.untouched, hr.mark, hr.nobody, hr.same, hr.fresh⟩

/-! ### The warm return -/

/-- R14, R135, R159: what a warm return leaves. -/
def returned (s : State) : State := { takeEvacuation (returnReported s) with supplyLine := true }

theorem warmReturn_returned (s : State) (hs : s.supply = .backup) (hm : s.backupMinutes ≤ 65535) (hj : s.journal.length < 500) :
    exec .warmReturn s = .next (returned s) := by
  simp only [exec, execWarmReturn, hs, returnFromBackup_reported s hm hj, returned]

/-- R135, R159: the queues and ports of a return with the line's level taken. -/
theorem returnReported_board (s : State) : SameBoard (returnBoard s.backupMinutes (restored s))
    (if s.evacuateLine then firstEdge (returnReported s) else returnReported s) := by
  have hkept := post_kept { kind := .supplyReturn, figures := .value s.backupMinutes } (restored s)
  have hreported : SameBoard (returnPosted s.backupMinutes (restored s)) (returnReported s) :=
    { supply := hkept.supply.symm, clock := hkept.clock.symm }
  have hline : (restored s).evacuateLine = s.evacuateLine := rfl
  rw [returnBoard, hline]
  split
  · exact hreported.post _
  · exact hreported

theorem returnReported_doors (s : State) :
    (if s.evacuateLine then mapAll (fun d => { d with state := .evacuation }) (returnReported s).doors else (returnReported s).doors) =
      fill { Door.initial with state := if s.evacuateLine then .evacuation else .unknown .back } := by
  have hinitial : (returnReported s).doors = fill Door.initial := rfl
  rw [hinitial, mapAll_fill]
  split <;> rfl

/-- The part after a warm return, with its stations and its next sequence number as given. -/
def returnedWith (stations : Table 128 Station) (next : Word32) (s : State) : State :=
  { lineTaken (returnReported s) with
    stations := stations
    doors := fill { Door.initial with state := if s.evacuateLine then .evacuation else .unknown .back }
    notices := (returnBoard s.backupMinutes (restored s)).notices
    ports := (returnBoard s.backupMinutes (restored s)).ports
    journal := (returnReported s).journal ++
      if s.evacuateLine then [⟨dueNext s + 1, s.clock, { kind := .evacStart, value := some 1 }⟩] else []
    nextSequence := next
    supplyLine := true }

theorem returned_eq (s : State) (hj : s.journal.length < 500) :
    returned s = returnedWith (returned s).stations (returned s).nextSequence s := by
  have hboard := returnReported_board s
  rw [returnedWith, ← returnReported_doors, ← hboard.notices, ← hboard.ports]
  have hrest := (returnReported_followed s hj).rest
  have hnext : (returned s).nextSequence =
      if s.evacuateLine then (returnReported s).nextSequence + 1 else (returnReported s).nextSequence :=
    congrArg State.nextSequence hrest
  rw [hnext]
  exact congrArg (fun t : State => { t with supplyLine := true }) hrest

theorem returned_field {α : Type} (f : State → α) (s : State) (hj : s.journal.length < 500) :
    f (returned s) = f (returnedWith (returned s).stations (returned s).nextSequence s) :=
  congrArg f (returned_eq s hj)

theorem returned_station (s : State) (hj : s.journal.length < 500) (a : LoopAddr) : (returned s).station a =
    ⟨.unknown, 0, none, if mapOutcome s a = .unpolled then none else some (if s.evacuateLine then .evacRelease else .resumeNormal),
      none, false⟩ := by
  have hinitial : (returnReported s).station a = Station.initial := look_fill _ a
  refine ((returnReported_followed s hj).station a).trans ?_
  rw [hinitial]
  have hmap : mapOutcome (returnReported s) a = mapOutcome s a := rfl
  rw [hmap]
  split <;> rfl

theorem returned_port (s : State) (hj : s.journal.length < 500) (l : Link) :
    (returned s).port l = (returnBoard s.backupMinutes (restored s)).port l := by
  rw [returned_eq s hj]
  rfl

theorem returned_queue (s : State) (hj : s.journal.length < 500) (l : Link) :
    (returned s).queue l = (returnBoard s.backupMinutes (restored s)).queue l := by
  rw [returned_eq s hj]
  rfl

/-- R135, R173: a return leaves of a port what a fall left, with its line as the return's notices drive it. -/
theorem returned_port_cleared (s : State) (hj : s.journal.length < 500) (l : Link) : (returned s).port l = { s.port l with
    reception := .awaitingStart, inFlight := none, transmit := [], attention := ((returned s).port l).attention } := by
  obtain ⟨a, ha⟩ := returnBoard_port s.backupMinutes (restored s) l
  have hclear : (restored s).port l = (s.port l).cleared := quiesce_port s l
  rw [returned_port s hj, ha, hclear]
  rfl

theorem returned_emptied (s : State) (hj : s.journal.length < 500) : Emptied s (returned s) := by
  have hports := returned_port_cleared s hj
  have hstations : ∀ a, (returned s).station a = ⟨.unknown, 0, none, ((returned s).station a).mode, none, false⟩ := fun a => by
    rw [returned_station s hj]
  rw [returned_eq s hj] at hports hstations ⊢
  refine ⟨rfl, rfl, rfl, fun r => look_fill none r, rfl, ⟨rfl, rfl, rfl⟩, rfl, rfl, hstations, fun r => ?_, hports⟩
  simp only [State.door, returnedWith, look_fill]
  rfl

theorem returned_stays (s : State) (hj : s.journal.length < 500) : Stays s (returned s) := by
  rw [returned_eq s hj]
  exact ⟨⟨rfl, rfl, rfl, rfl⟩, ⟨rfl, rfl, rfl, rfl⟩, rfl, rfl, ⟨rfl, rfl⟩⟩

theorem returned_followsLine (s : State) (hj : s.journal.length < 500) : FollowsLine s.evacuateLine s (returned s) := by
  refine ⟨?_, fun r => ?_, fun a => by rw [returned_station s hj]⟩
  · rw [returned_eq s hj]
    exact ⟨rfl, rfl, rfl⟩
  · rw [returned_eq s hj]
    exact congrArg Door.state (look_fill _ r)

/-- R157: after a return the line of a link in LEVEL mode is asserted just while its queue calls for it. -/
theorem returned_level (s : State) (hm : s.backupMinutes ≤ 65535) (hj : s.journal.length < 500) (l : Link)
    (hl : (s.port l).mode = .level) :
    ((returned s).port l).attention = true ↔ CallsFor ((returned s).queue l) (s.port l).mask := by
  have hsound : AttentionSound (takeEvacuation (returnReported s)) := by
    rw [← returnFromBackup_reported s hm hj]
    exact returnFromBackup_attentionSound s
  have hport := returned_port_cleared s hj l
  have hsupply : (returned s).supply = .normal := by rw [returned_eq s hj]; rfl
  have hmode : ((returned s).port l).mode = .level := by rw [hport]; exact hl
  have hmask : ((returned s).port l).mask = (s.port l).mask := by rw [hport]
  have hattention := (hsound l).2 hsupply hmode
  rw [show ((returned s).port l).attention = _ from hattention, show ((takeEvacuation (returnReported s)).port l).mask = _ from hmask]
  simp only [NoticeQueue.above, List.any_eq_true, decide_eq_true_eq]
  exact Iff.rfl

end Sys2Proof.Machine

open Sys2Proof Sys2Proof.Machine Sys2Proof.Claims in
/-- Settles O55: a part at rest falls to `fallen`, and its supply returns to `returned`. -/
theorem supplyFallsAndReturns : Obligations.SupplyFallsAndReturns := by
  refine ⟨fun s hs => ⟨settle_atRest s, supplyFall_settle s hs⟩, fun s hs hr => ?fall, fun s hs => ?again, fun s hs => ?there,
    fun s hs hm hj => ?back⟩
  case fall =>
    refine ⟨fallen s, supplyFall_fallen s hs hr, fallen_emptied s, fallen_stays s,
      fallen_field State.supply s, fallen_field State.supplyLine s, fallen_field State.backupMinutes s, fallen_field State.locked s,
      fallen_field State.notices s, fun l => ?_, fallen_field State.journal s, fallen_field State.nextSequence s, fun a => ?_, fun r => ?_, fallen_presence s, fallen_refreshed s, fallen_field State.evacuating s,
      fallen_field State.edgeCount s, fallen_field State.evacuateTaken s⟩
    · rw [fallen_eq s]
      cases l <;> rfl
    · rw [fallen_eq s]
      exact congrArg Station.mode (look_fill _ a)
    · rw [fallen_eq s]
      exact congrArg Door.state (look_fill _ r)
  case again => simp only [exec, execSupplyFall, hs]
  case there => simp only [exec, execWarmReturn, hs]
  case back =>
    have hclear : ∀ l, (restored s).port l = (s.port l).cleared := quiesce_port s
    refine ⟨returned s, warmReturn_returned s hs hm hj, returned_emptied s hj, returned_stays s hj, returned_followsLine s hj,
      returned_field State.supply s hj, returned_field State.supplyLine s hj, returned_field State.backupMinutes s hj,
      returned_field State.locked s hj, returned_field State.restartDue s hj, returned_field State.pool s hj,
      returned_field State.occupancy s hj, ?notices, fun l hq => ?queue, returned_level s hm hj, fun l hl hq => ?pulse, ?journal⟩
    case notices =>
      have hsame := returnBoard_notices s.backupMinutes (s := { s with supply := .normal }) (t := restored s) rfl rfl rfl rfl rfl
      refine (returned_field State.notices s hj).trans (hsame.trans ?_)
      exact apply_ite State.notices ..
    case queue => exact (returned_queue s hj l).trans (returnBoard_queue_room (restored s) rfl hm l hq)
    case pulse =>
      have hdriven := returnBoard_port_pulse s.backupMinutes (restored s) rfl l (by rw [hclear]; exact hl) (by rw [hclear]; rfl) hq
      rw [hclear] at hdriven
      rw [returned_port s hj]
      exact hdriven
    case journal =>
      refine (returned_field State.journal s hj).trans ?_
      exact List.append_assoc ..
end

section
/-! The layout's decoding of addresses (O16) and its requests but WRITE MAP (O17, O19, O20). -/

namespace Sys2Proof.Machine

open Claims

/-! ### Addresses -/

/-- R19: the descriptors of a map that cover an address, in the order of their numbers. -/
def coveringAt (s : State) (a : LoopAddr) : List Descriptor := (s.stationMap.toList.filterMap id).filter (·.covers a)

theorem mapOutcome_of_none {s : State} {a : LoopAddr} (h : coveringAt s a = []) : mapOutcome s a = .unpolled := by
  rw [coveringAt] at h
  rw [mapOutcome, outcomeUnder, h]

theorem mapOutcome_of_one {s : State} {a : LoopAddr} {d : Descriptor} (h : coveringAt s a = [d]) :
    mapOutcome s a = .mapped (d.roomAt a) (s.room (d.roomAt a)).isSome := by
  rw [coveringAt] at h
  rw [mapOutcome, outcomeUnder, h]
  rfl

theorem mapOutcome_of_more {s : State} {a : LoopAddr} {d e : Descriptor} {rest : List Descriptor}
    (h : coveringAt s a = d :: e :: rest) : mapOutcome s a = .conflict := by
  rw [coveringAt] at h
  rw [mapOutcome, outcomeUnder, h]

/-- R21: the three cases of an address, by how many descriptors cover it. -/
theorem mapOutcome_cases (s : State) (a : LoopAddr) :
    (coveringAt s a = [] ∧ mapOutcome s a = .unpolled) ∨
      (∃ d, coveringAt s a = [d] ∧ mapOutcome s a = .mapped (d.roomAt a) (s.room (d.roomAt a)).isSome) ∨
      (2 ≤ (coveringAt s a).length ∧ mapOutcome s a = .conflict) := by
  rcases h : coveringAt s a with _ | ⟨d, _ | ⟨e, rest⟩⟩
  · exact .inl ⟨rfl, mapOutcome_of_none h⟩
  · exact .inr (.inl ⟨d, rfl, mapOutcome_of_one h⟩)
  · exact .inr (.inr ⟨by simp, mapOutcome_of_more h⟩)

theorem mem_coveringAt {s : State} {a : LoopAddr} {d : Descriptor} (h : d ∈ coveringAt s a) :
    d.first ≤ a.val ∧ a.val < d.first + d.size := by
  have hc : d.covers a = true := (List.mem_filter.mp h).2
  simpa [Descriptor.covers] using hc

/-! ### Requests served in a turn -/

/-- R36, R52: a row whose request is in hand with its turn granted is the request's service, which ends the turn. -/
theorem exec_inTurn {i : Instr} {l : Link} {r : Request} {s : State} (hi : i.request = some (l, r)) (hn : needsTurn r = true)
    (h : InTurn l r s) : exec i s = .next (endTurn (serveRequest l r s)) := by
  rw [exec_requestRow i l r hi, requestRow, if_pos hn]
  exact congrArg Host.Outcome.next (inTurn_served l r _ s h.1.1 h.1.2 h.2)

/-- R29, R176: a request in hand that is journalled and then answered. -/
theorem reply_journalConfig {l : Link} {r : Request} {s : State} (h : (s.port l).inFlight = some ⟨r, .handed⟩) (st st' : Status)
    (c : ReplyContent) (room : Option RoomNo) (v : Nat) :
    reply l st c (journalConfig st' room v s) = answered l r st c
      (writeJournal { kind := .configChange, room := room, outcome := some (.status st'), value := some v } s) :=
  reply_handed (by rw [journalConfig, writeJournal_port]; exact h) st c

/-! ### Rooms -/

/-- Section 11.3: the model's class codes are the statements'. -/
theorem classOfCode?_eq (n : Nat) : classOfCode? n = classes[n]? := by
  match n with
  | 0 | 1 | 2 => rfl
  | n + 3 => simp [classOfCode?, classes]

/-- R17: what a WRITE ROOM carries passes the form checks and is the record it writes. -/
theorem carries_passes {b : RoomBody} {r : RoomNo} {c : Option RoomConfig} (hr : b.room = r.val) (h : Carries b c) :
    RoomBody.record b = c ∧ RoomBody.badCode b = false ∧ RoomBody.badRoom b = false := by
  have hroom := r.isLt
  rcases h with ⟨h0, rfl⟩ | ⟨k, h1, hk, hlow, hhigh, rfl⟩
  · have hrec : RoomBody.record b = none := if_pos h0
    exact ⟨hrec, by simp [RoomBody.badCode, h0], by simp [RoomBody.badRoom, hrec]; omega⟩
  · rw [← classOfCode?_eq] at hk
    have hrec : RoomBody.record b = some ⟨k, b.maximum⟩ := by simp [RoomBody.record, h1, hk]
    refine ⟨hrec, by simp [RoomBody.badCode, h1, hk], ?_⟩
    cases k <;> simp [RoomBody.badRoom, hrec] at hlow ⊢ <;> omega

/-- R17: a room without presences and without a hold. -/
theorem roomOccupied_free {s : State} {r : RoomNo} (hl : (s.roomState r).list = []) (hh : s.hold r = none) :
    roomOccupied s r.val = false := by
  simp [roomOccupied, roomNo?_val, hl, hh]

/-! ### Freezes -/

theorem index8?_val (i : Fin 8) : index8? i.val = some i := by simp [index8?]

/-- Section 11.3: an octet has a bit outside the three of a class set just where it is 8 or more. -/
theorem classes_undefined : ∀ o : Byte, (o &&& 0xF8 != 0) = decide (8 ≤ o.toNat) := by decide

/-- A table's present records, by their numbers. -/
theorem mem_present {n : Nat} {α : Type} (t : Table n (Option α)) (x : α) :
    x ∈ t.toList.filterMap id ↔ ∃ i, look t i = some x := by
  simp [toList_eq_looks]

end Sys2Proof.Machine

open Sys2Proof Sys2Proof.Machine Sys2Proof.Claims in
/-- Settles O16: the three cases of R21, each excluding the others. -/
theorem addressesDecodeByTheirDescriptors : Obligations.AddressesDecodeByTheirDescriptors := by
  intro s a
  have hcover : (s.stationMap.toList.filterMap id).filter (fun d => decide (d.first ≤ a.val ∧ a.val < d.first + d.size)) =
      coveringAt s a := by simp [coveringAt, Descriptor.covers]
  simp only [hcover]
  refine ⟨?none, ?more, fun d hd hroom => ⟨⟨_, by omega⟩, rfl, ?one⟩, fun d hd heven => ?entry⟩
  case none =>
    rcases mapOutcome_cases s a with ⟨hc, ho⟩ | ⟨d, hc, ho⟩ | ⟨hc, ho⟩
    · simp [ho, hc]
    · simp [ho, hc]
    · simp [ho, List.ne_nil_of_length_pos (Nat.lt_of_lt_of_le Nat.zero_lt_two hc)]
  case more => rcases mapOutcome_cases s a with ⟨hc, ho⟩ | ⟨d, hc, ho⟩ | ⟨hc, ho⟩ <;> simp [ho, hc]
  case one =>
    have hat : d.roomAt a = ⟨d.room + (a.val - d.first) / 2, by omega⟩ := by
      apply Fin.ext
      simp only [Descriptor.roomAt, Fin.ofNat]
      omega
    rw [mapOutcome_of_one hd, hat]
  case entry =>
    have := mem_coveringAt (hd ▸ List.mem_singleton_self d)
    simp only [isEntry, beq_iff_eq]
    omega

open Sys2Proof Sys2Proof.Machine Sys2Proof.Claims in
/-- Settles O17: the four checks pass, and the acceptance is the record, its journal entry and the reply. -/
theorem writeRoomReplacesTheRecord : Obligations.WriteRoomReplacesTheRecord := by
  intro l b r c s h hlock hroom hc hlist hhold
  obtain ⟨hrec, hcode, hbad⟩ := carries_passes hroom hc
  have hserve : serveRequest l (.writeRoom b) s = acceptWriteRoom l b s :=
    checked_passes l _ _ s (by simp [hlock, hcode, hbad, hroom, roomOccupied_free hlist hhold])
  rw [exec_inTurn rfl rfl h, hserve, acceptWriteRoom, hroom, roomNo?_val, hrec]
  dsimp only
  rw [reply_journalConfig (r := .writeRoom b) (s := { s with rooms := put s.rooms r c }) h.1.2]
  cases c <;> rfl

open Sys2Proof Sys2Proof.Machine Sys2Proof.Claims in
/-- Settles O19: each request's checks pass and its acceptance is the entry, its journal record and the reply. -/
theorem freezesAndTheLockAreWritten : Obligations.FreezesAndTheLockAreWritten := by
  refine ⟨fun l b i s h hi h1 h7 hstart hstop hlt => ?set, fun l i s h => ?clear, fun s k m => ?frozen, fun l s h => ?lock⟩
  case set =>
    have hdefined : (b.classes &&& 0xF8 != 0) = false := by rw [classes_undefined]; simp; omega
    have hentry : (decide (7 < b.entry) || b.classes == 0) = false := by
      have hne : b.classes ≠ 0 := fun h0 => by simp [h0] at h1
      rw [beq_false_of_ne hne, Bool.or_false, decide_eq_false_iff_not]
      omega
    have hspan : (!b.start.inRange || !b.stop.inRange || decide (absMinute b.stop ≤ absMinute b.start)) = false := by
      simp [hstart, hstop, hlt]
    have hserve : serveRequest l (.setFreeze b) s = acceptSetFreeze l b s :=
      checked_passes l _ _ s (by simp only [firstFailing_cons, hdefined, hentry, hspan]; rfl)
    rw [exec_inTurn rfl rfl h, hserve, acceptSetFreeze, hi, index8?_val]
    exact congrArg (fun t => Host.Outcome.next (endTurn t))
      (reply_journalConfig (r := .setFreeze b) (s := { s with freezes := put s.freezes i _ }) h.1.2 ..)
  case clear =>
    have hserve : serveRequest l (.clearFreeze i.val) s = acceptClearFreeze l i.val s :=
      checked_passes l _ _ s (by simp; omega)
    rw [exec_inTurn rfl rfl h, hserve, acceptClearFreeze, index8?_val]
    exact congrArg (fun t => Host.Outcome.next (endTurn t))
      (reply_journalConfig (r := .clearFreeze i.val) (s := { s with freezes := put s.freezes i none }) h.1.2 ..)
  case frozen =>
    simp only [frozen, List.any_eq_true, mem_present, Bool.and_eq_true, decide_eq_true_eq, and_assoc]
    exact ⟨fun ⟨f, ⟨i, hi⟩, hf⟩ => ⟨i, f, hi, hf⟩, fun ⟨i, f, hi, hf⟩ => ⟨f, ⟨i, hi⟩, hf⟩⟩
  case lock =>
    rw [exec_atOnce rfl rfl h]
    show Host.Outcome.next (serveLockConfiguration l s) = _
    unfold serveLockConfiguration
    split
    · rw [reply_handed h.2]
    · rw [reply_journalConfig (r := .lockConfiguration) (s := { s with locked := true }) h.2]

open Sys2Proof Sys2Proof.Machine Sys2Proof.Claims in
/-- Settles O20: the port's refusal, the lock, and the five clamps. -/
theorem writeTimingsClamps : Obligations.WriteTimingsClamps := by
  refine ⟨fun t => rfl, fun t s hs hf => ?_, fun t s h hlock => ?_, fun t s h hlock => ?_⟩
  · exact (requestRowsMeetThePort _ .works _ s rfl).2.2.1 hs hf rfl
  · have hserve : serveRequest .security (.writeTimings t) s = reply .security .locked .nothing s :=
      checked_fails .security _ _ s .locked (by simp [hlock])
    rw [exec_atOnce rfl rfl h, hserve, reply_handed h.2]
  · have hserve : serveRequest .security (.writeTimings t) s = acceptWriteTimings .security t s :=
      checked_passes .security _ _ s (by simp [hlock])
    rw [exec_atOnce rfl rfl h, hserve, acceptWriteTimings]
    exact congrArg Host.Outcome.next
      (reply_journalConfig (r := .writeTimings t) (s := { s with timings := clampTimings t }) h.2 ..)
end

section
/-! Presences that cease to be carried (O18, O43): what resolving a release as unused leaves of the stations, the doors, the holds and
the ports. -/

namespace Sys2Proof.Machine

open Claims

/-! ### Records without the presences named -/

/-- R101: a station whose pending release carries none of the presences named. -/
def Station.without (who : List PoolIx) (x : Station) : Station := { x with decision := x.decision.map (·.without who) }

/-- R101: a door to which none of the presences named is tied. -/
def Door.without (who : List PoolIx) (d : Door) : Door := { d with tied := d.tied.filter (· ∉ who) }

theorem filter_notMem_append {α : Type} [DecidableEq α] (l v w : List α) :
    (l.filter (· ∉ v)).filter (· ∉ w) = l.filter (· ∉ v ++ w) := by
  rw [List.filter_filter]
  exact List.filter_congr fun k _ => by simp [Bool.and_comm]

theorem filter_notMem_congr {α : Type} [DecidableEq α] {v w : List α} (h : ∀ k, k ∈ v ↔ k ∈ w) (l : List α) :
    l.filter (· ∉ v) = l.filter (· ∉ w) :=
  List.filter_congr fun k _ => by simp [h]

theorem filter_notMem_nil {α : Type} [DecidableEq α] (l : List α) : l.filter (· ∉ ([] : List α)) = l := by simp

theorem DecisionCommand.without_without (v w : List PoolIx) (c : DecisionCommand) :
    (c.without v).without w = c.without (v ++ w) := by
  cases c <;> simp only [DecisionCommand.without, filter_notMem_append]

theorem DecisionCommand.without_nil (c : DecisionCommand) : c.without [] = c := by
  cases c <;> simp only [DecisionCommand.without, filter_notMem_nil]

theorem DecisionCommand.without_congr {v w : List PoolIx} (h : ∀ k, k ∈ v ↔ k ∈ w) (c : DecisionCommand) :
    c.without v = c.without w := by
  cases c <;> simp only [DecisionCommand.without, filter_notMem_congr h]

@[simp] theorem Station.without_nil (x : Station) : x.without [] = x := by
  cases x with
  | mk state misses decision mode read tamper => cases decision <;> simp [Station.without, DecisionCommand.without_nil]

theorem Station.without_without (v w : List PoolIx) (x : Station) : (x.without v).without w = x.without (v ++ w) := by
  cases x with
  | mk state misses decision mode read tamper => cases decision <;> simp [Station.without, DecisionCommand.without_without]

theorem Station.without_of_none {x : Station} (h : x.decision = none) (who : List PoolIx) : x.without who = x := by
  cases x
  simp_all [Station.without]

theorem Station.without_congr {v w : List PoolIx} (h : ∀ k, k ∈ v ↔ k ∈ w) (x : Station) : x.without v = x.without w := by
  cases x with
  | mk state misses decision mode read tamper => cases decision <;> simp [Station.without, DecisionCommand.without_congr h]

@[simp] theorem Door.without_nil (d : Door) : d.without [] = d := by
  cases d
  simp [Door.without]

theorem Door.without_without (v w : List PoolIx) (d : Door) : (d.without v).without w = d.without (v ++ w) := by
  simp only [Door.without, filter_notMem_append]

theorem Door.without_congr {v w : List PoolIx} (h : ∀ k, k ∈ v ↔ k ∈ w) (d : Door) : d.without v = d.without w := by
  simp only [Door.without, filter_notMem_congr h]

theorem PresenceEffect.without_without (v w : List PoolIx) (e : PresenceEffect) : (e.without v).without w = e.without (v ++ w) := by
  cases e <;> simp only [PresenceEffect.without, filter_notMem_append]

theorem PresenceEffect.without_nil (e : PresenceEffect) : e.without [] = e := by
  cases e <;> simp only [PresenceEffect.without, filter_notMem_nil]

theorem PresenceEffect.without_congr {v w : List PoolIx} (h : ∀ k, k ∈ v ↔ k ∈ w) (e : PresenceEffect) : e.without v = e.without w := by
  cases e <;> simp only [PresenceEffect.without, filter_notMem_congr h]

/-! ### Presences that cease to be carried -/

/-- R104: the presences named are taken out of the effects held, and only resolutions as unused are held behind them. -/
def HeldWithout (who : List PoolIx) (s t : State) : Prop :=
  ∃ new, (∀ e ∈ new, ∃ w, e = .unused w) ∧ t.heldEffects = s.heldEffects.map (·.without who) ++ new

theorem HeldWithout.of_same {s t : State} (h : t.heldEffects = s.heldEffects) : HeldWithout [] s t :=
  ⟨[], by simp, by simp [h, PresenceEffect.without_nil]⟩

theorem HeldWithout.trans {v w : List PoolIx} {s t u : State} (h : HeldWithout v s t) (k : HeldWithout w t u) :
    HeldWithout (v ++ w) s u := by
  obtain ⟨new, hnew, ht⟩ := h
  obtain ⟨more, hmore, hu⟩ := k
  refine ⟨new.map (·.without w) ++ more, fun e he => ?_, ?_⟩
  · rcases List.mem_append.mp he with he | he
    · obtain ⟨f, hf, rfl⟩ := List.mem_map.mp he
      obtain ⟨x, rfl⟩ := hnew f hf
      exact ⟨_, rfl⟩
    · exact hmore e he
  · rw [hu, ht, List.map_append, List.map_map, List.append_assoc]
    simp only [Function.comp_def, PresenceEffect.without_without]

/-- The presences named cease to be carried; the register, the notices and the records may change besides, resolutions as unused may be
held, and nothing else changes. -/
structure Uncarried (who : List PoolIx) (s t : State) : Prop where
  kept : Kept s t
  turn : t.turn = s.turn
  lastServed : t.lastServed = s.lastServed
  readQueue : t.readQueue = s.readQueue
  polling : t.polling = s.polling
  counters : t.counters = s.counters
  hold : ∀ r, t.hold r = s.hold r
  station : ∀ a, t.station a = (s.station a).without who
  door : ∀ r, t.door r = (s.door r).without who
  port : ∀ l, ∃ b, t.port l = { s.port l with attention := b }
  held : HeldWithout who s t

namespace Uncarried

variable {v w who : List PoolIx} {s t u : State}

theorem refl (s : State) : Uncarried [] s s :=
  ⟨Kept.refl s, rfl, rfl, rfl, rfl, rfl, fun _ => rfl, fun _ => by simp, fun _ => by simp, fun l => ⟨(s.port l).attention, rfl⟩,
    .of_same rfl⟩

theorem trans (h : Uncarried v s t) (k : Uncarried w t u) : Uncarried (v ++ w) s u where
  kept := h.kept.trans k.kept
  turn := k.turn.trans h.turn
  lastServed := k.lastServed.trans h.lastServed
  readQueue := k.readQueue.trans h.readQueue
  polling := k.polling.trans h.polling
  counters := k.counters.trans h.counters
  hold := fun r => (k.hold r).trans (h.hold r)
  station := fun a => by rw [k.station, h.station, Station.without_without]
  door := fun r => by rw [k.door, h.door, Door.without_without]
  port := fun l => by
    obtain ⟨b, hb⟩ := h.port l
    obtain ⟨c, hc⟩ := k.port l
    exact ⟨c, by rw [hc, hb]⟩
  held := h.held.trans k.held

theorem congr (h : Uncarried v s t) (hw : ∀ k, k ∈ v ↔ k ∈ w) : Uncarried w s t :=
  { h with
    station := fun a => (h.station a).trans (Station.without_congr hw _)
    door := fun r => (h.door r).trans (Door.without_congr hw _)
    held := by simpa only [HeldWithout, PresenceEffect.without_congr hw] using h.held }

/-- What carries nobody further. -/
theorem then_quiet (h : Uncarried v s t) (k : Uncarried [] t u) : Uncarried v s u := (h.trans k).congr (by simp)

/-- Presences that are carried no more need not be named again. -/
theorem then_within (h : Uncarried v s t) (k : Uncarried w t u) (hw : ∀ i ∈ w, i ∈ v) : Uncarried v s u :=
  (h.trans k).congr fun i => by simpa using hw i

end Uncarried

section

variable (s : State)

theorem setPresence_uncarried (i : PoolIx) (x : Option Presence) : Uncarried [] s (s.setPresence i x) :=
  { Uncarried.refl s with kept := setPresence_kept .. }

theorem setRoomState_uncarried (r : RoomNo) (x : RoomOccupancy) : Uncarried [] s (s.setRoomState r x) :=
  { Uncarried.refl s with kept := setRoomState_kept .. }

theorem freeUsed_uncarried (n : Nat) : Uncarried [] s { s with freeUsed := n } :=
  { Uncarried.refl s with kept := by constructor <;> rfl }

theorem heldUnused_uncarried (who : List PoolIx) : Uncarried [] s { s with heldEffects := s.heldEffects ++ [.unused who] } :=
  { Uncarried.refl s with
    kept := by constructor <;> rfl
    held := ⟨[.unused who], by simp, by simp [PresenceEffect.without_nil]⟩ }

theorem post_uncarried (b : NoticeBody) : Uncarried [] s (post b s) := by
  have hframe := post_frame b s
  exact { Uncarried.refl s with
    kept := post_kept b s
    turn := by rw [hframe]
    lastServed := by rw [hframe]
    readQueue := by rw [hframe]
    polling := by rw [hframe]
    counters := by rw [hframe]
    hold := fun _ => by rw [hframe]; rfl
    station := fun _ => by rw [hframe]; simp [State.station]
    door := fun _ => by rw [hframe]; simp [State.door]
    port := post_port b s
    held := .of_same (by rw [hframe]) }

theorem writeJournal_uncarried (b : JournalBody) : Uncarried [] s (writeJournal b s) := by
  have hframe := writeJournal_frame b s
  exact { Uncarried.refl s with
    kept := writeJournal_kept b s
    turn := by rw [hframe]
    lastServed := by rw [hframe]
    readQueue := by rw [hframe]
    polling := by rw [hframe]
    counters := by rw [hframe]
    hold := fun _ => by rw [hframe]; rfl
    station := fun _ => by rw [hframe]; simp [State.station]
    door := fun _ => by rw [hframe]; simp [State.door]
    port := fun l => ⟨(s.port l).attention, by rw [writeJournal_port]⟩
    held := .of_same (by rw [hframe]) }

theorem uncarry_uncarried (who : List PoolIx) : Uncarried who s (uncarry who s) :=
  { Uncarried.refl s with
    kept := uncarry_kept who s
    station := fun _ => look_mapAll ..
    door := fun _ => look_mapAll ..
    held := ⟨[], by simp, by simp [uncarry]⟩ }

theorem setPresenceState_uncarried (i : PoolIx) (x : PresenceState) : Uncarried [] s (setPresenceState i x s) := by
  unfold setPresenceState
  split
  · exact Uncarried.refl s
  · exact setPresence_uncarried ..

theorem removePresence_uncarried (i : PoolIx) : ∃ w, (∀ k ∈ w, k = i) ∧ Uncarried w s (removePresence i s) := by
  unfold removePresence
  split
  · exact ⟨[], by simp, Uncarried.refl s⟩
  · exact ⟨[i], by simp, ((setPresence_uncarried ..).then_quiet (setRoomState_uncarried ..)).trans (uncarry_uncarried ..)⟩

theorem escortCheck_uncarried (r : RoomNo) (gone : List Nat) : Uncarried [] s (escortCheck r gone s) := by
  unfold escortCheck
  dsimp only
  split
  · exact Uncarried.refl s
  · refine Uncarried.then_quiet ?_ ((post_uncarried ..).then_quiet (writeJournal_uncarried ..))
    split
    · exact Uncarried.refl s
    · exact freeUsed_uncarried ..

theorem reexamine_uncarried (r : RoomNo) (gone : List Nat) : Uncarried [] s (reexamine r gone s) :=
  (setRoomState_uncarried s r _).then_quiet (escortCheck_uncarried ..)

end

/-- R103: one presence resolved as unused. -/
theorem resolveUnused_uncarried (i : PoolIx) (x : State × List Nat) :
    ∃ w, (∀ k ∈ w, k = i) ∧ Uncarried w x.1 (resolveUnused i x).1 := by
  unfold resolveUnused
  split
  · exact ⟨[], by simp, Uncarried.refl _⟩
  · dsimp only
    split
    · obtain ⟨w, hw, h⟩ := removePresence_uncarried x.1 i
      exact ⟨w, hw, h.then_quiet (writeJournal_uncarried ..)⟩
    · exact ⟨[], by simp, (setPresenceState_uncarried ..).then_quiet (writeJournal_uncarried ..)⟩
    · exact ⟨[], by simp, Uncarried.refl _⟩
    · exact ⟨[], by simp, Uncarried.refl _⟩

/-- R103: presences of one release resolved one after another, each carried no more. -/
theorem resolveUnuseds_uncarried {who : List PoolIx} {s : State} (is : List PoolIx) (hi : ∀ i ∈ is, i ∈ who)
    (x : State × List Nat) (h : Uncarried who s x.1) : Uncarried who s (is.foldl (fun x i => resolveUnused i x) x).1 := by
  induction is generalizing x with
  | nil => exact h
  | cons i is ih =>
    obtain ⟨w, hw, k⟩ := resolveUnused_uncarried i x
    refine ih (fun j hj => hi j (List.mem_cons_of_mem i hj)) _ (h.then_within k fun j hj => ?_)
    rw [hw j hj]
    exact hi i List.mem_cons_self

/-- R103: a release resolved as unused leaves its presences carried on nothing. -/
theorem resolveUnused_all_uncarried (who : List PoolIx) (s : State) : Uncarried who s (resolve resolveUnused who s) := by
  unfold resolve
  generalize roomsOfPresences s who = rs
  have h := uncarry_uncarried s who
  generalize uncarry who s = t at h
  induction rs generalizing t with
  | nil => exact h
  | cons r rs ih =>
    refine ih _ (Uncarried.then_quiet ?_ (reexamine_uncarried ..))
    exact resolveUnuseds_uncarried _ (fun i hi => by simpa using (List.mem_filter.mp hi).2) (t, []) h

/-- R104: a report of unused presences is held, or they are resolved. -/
theorem reportUnused_uncarried (who : List PoolIx) (s : State) :
    ∃ w, (∀ k ∈ w, k ∈ who) ∧ Uncarried w s (reportEffect (.unused who) s) := by
  unfold reportEffect
  split
  · exact ⟨[], by simp, Uncarried.refl s⟩
  · split
    · exact ⟨[], by simp, heldUnused_uncarried ..⟩
    · exact ⟨who, fun _ hk => hk, resolveUnused_all_uncarried who s⟩

/-- R103, R121: a decision command lost. -/
theorem loseCommand_uncarried (own : Bool) (c : Option DecisionCommand) (s : State) :
    ∃ w, Uncarried w s (loseCommand own c s) := by
  unfold loseCommand
  split
  · cases own with
    | true => exact ⟨_, resolveUnused_all_uncarried _ s⟩
    | false =>
      obtain ⟨w, -, h⟩ := reportUnused_uncarried _ s
      exact ⟨w, by simpa only [effect, Bool.false_eq_true, if_false] using h⟩
  · exact ⟨[], Uncarried.refl s⟩

/-- R130: those on a door's running release cease to be tied when it is handed over. -/
theorem handOverUnused_uncarried (r : RoomNo) (s : State) : Uncarried (onRelease s r) s (handOver .unused r s) := by
  unfold handOver
  dsimp only
  split
  · next h => exact (Uncarried.refl s).congr (by simp [List.isEmpty_iff.mp h])
  · obtain ⟨w, hw, h⟩ := reportUnused_uncarried (onRelease s r) (uncarry (onRelease s r) s)
    exact (uncarry_uncarried s _).then_within h hw

/-! ### A room without its entry station -/

/-- R130: a door without its entry station. -/
def Door.lost (d : Door) : Door := { d with state := .unknown .back, contact := none, pushMark := false, openingPending := false }

theorem Uncarried.setHold {w : List PoolIx} {s t : State} (h : Uncarried w s t) (r : RoomNo) (x : Option Hold) :
    Uncarried w (s.setHold r x) (t.setHold r x) :=
  { h with
    kept := { h.kept with }
    hold := fun q => by
      by_cases e : r = q
      · subst e; simp
      · simp [e, h.hold q] }

theorem setHold_hold (r : RoomNo) (s : State) : s.setHold r (s.hold r) = s := by simp [State.setHold, State.hold]

/-- R92: a hold cancelled. -/
theorem cancelHold_uncarried (a : Option LoopAddr) (why : Option Reason) (s : State) (r : RoomNo) :
    Uncarried [] (s.setHold r none) (cancelHold a why s r) := by
  unfold cancelHold
  cases h : s.hold r with
  | none =>
    have hs : s.setHold r none = s := by rw [← h, setHold_hold]
    rw [hs]
    exact Uncarried.refl s
  | some k => exact writeJournal_uncarried ..

/-- R130: a door in EVACUATION stays. -/
theorem loseDoor_evacuation {r : RoomNo} {s : State} (h : (s.door r).state = .evacuation) : loseDoor r s = s := by
  simp [loseDoor, h]

/-- R130: any other becomes UNKNOWN, and its running release is handed over. -/
theorem loseDoor_other {r : RoomNo} {s : State} (h : (s.door r).state ≠ .evacuation) :
    loseDoor r s = handOver .unused r (s.setDoor r (s.door r).lost) := by
  unfold loseDoor Door.lost
  split
  · next he => exact absurd he h
  · rfl

theorem onRelease_setDoor_lost (r : RoomNo) (s : State) : onRelease (s.setDoor r (s.door r).lost) r = onRelease s r := by
  simp [onRelease, Door.lost]

/-- R92, R130: a room that loses its entry station has no hold, and unless its door is in EVACUATION that is UNKNOWN with nobody
carried on it. -/
theorem loseEntryStation_uncarried (a : LoopAddr) (r : RoomNo) (s : State) (h : (s.door r).state ≠ .evacuation) :
    Uncarried (onRelease s r) ((s.setDoor r (s.door r).lost).setHold r none) (loseEntryStation a r s) := by
  have hdoor := handOverUnused_uncarried r (s.setDoor r (s.door r).lost)
  rw [onRelease_setDoor_lost, ← loseDoor_other h] at hdoor
  exact (hdoor.setHold r none).then_quiet (cancelHold_uncarried ..)

theorem loseEntryStation_evacuation (a : LoopAddr) (r : RoomNo) (s : State) (h : (s.door r).state = .evacuation) :
    Uncarried [] (s.setHold r none) (loseEntryStation a r s) := by
  rw [loseEntryStation, loseDoor_evacuation h]
  exact cancelHold_uncarried ..

end Sys2Proof.Machine
end

section
/-! The poll, and what a miss judges (O43): the next address of a pass, the command a POLL carries, and a pending opening judged first. -/

namespace Sys2Proof.Machine

open Claims

/-! ### The pass -/

/-- The first number of a filtered enumeration is the least that passes the filter. -/
theorem head?_filter_finRange {n : Nat} (p : Fin n → Bool) (a : Fin n) :
    ((List.finRange n).filter p).head? = some a ↔ p a = true ∧ ∀ c, p c = true → a ≤ c := by
  have hsorted : ((List.finRange n).filter p).Pairwise (· < ·) := (List.pairwise_lt_finRange n).filter p
  have hmem : ∀ c, c ∈ (List.finRange n).filter p ↔ p c = true := fun c => by simp
  cases h : (List.finRange n).filter p with
  | nil =>
    have hno : ∀ c, p c ≠ true := fun c hc => by simpa [h] using (hmem c).mpr hc
    simp [hno a]
  | cons b rest =>
    rw [h] at hsorted hmem
    have hb : p b = true := (hmem b).mp (by simp)
    have hleast : ∀ c, p c = true → b ≤ c := fun c hc => by
      rcases List.mem_cons.mp ((hmem c).mpr hc) with rfl | hc
      · exact le_refl c
      · exact le_of_lt ((List.pairwise_cons.mp hsorted).1 c hc)
    constructor
    · intro e
      obtain rfl := Option.some.inj e
      exact ⟨hb, hleast⟩
    · rintro ⟨ha, hmin⟩
      exact congrArg some (le_antisymm (hleast a ha) (hmin b hb))

theorem head?_filter_finRange_none {n : Nat} (p : Fin n → Bool) :
    (List.finRange n).filter p = [] ↔ ∀ c, p c ≠ true := by
  simp [List.filter_eq_nil_iff]

/-- R23, R117: an address lies ahead in the pass in progress. -/
def aheadInPass (s : State) (c : LoopAddr) : Bool :=
  (s.lastPolled.any fun b => decide (b < c)) && ((mapOutcome s c).isPolled || s.passKept.contains c)

theorem isPolled_iff (s : State) (c : LoopAddr) : (mapOutcome s c).isPolled = true ↔ Polled s c := by
  unfold Polled
  cases mapOutcome s c <;> simp [MapOutcome.isPolled]

theorem aheadInPass_iff (s : State) (c : LoopAddr) : aheadInPass s c = true ↔
    (∃ b, s.lastPolled = some b ∧ b < c) ∧ (Polled s c ∨ c ∈ s.passKept) := by
  cases h : s.lastPolled <;> simp [aheadInPass, isPolled_iff, h]

theorem restOfPass_eq (s : State) : restOfPass s = (List.finRange 128).filter (aheadInPass s) := by
  unfold restOfPass
  cases h : s.lastPolled with
  | none => simp [aheadInPass, h]
  | some b => exact List.filter_congr fun a _ => by simp [aheadInPass, h]

/-- R23, R117: the next POLL is the one that the pass asks for. -/
theorem nextPoll_iff (s : State) (a : LoopAddr) (kept : List LoopAddr) :
    nextPoll s = some (a, kept) ↔ PolledNext s a kept := by
  unfold nextPoll PolledNext
  dsimp only
  simp only [← aheadInPass_iff]
  cases h : restOfPass s with
  | nil =>
    rw [restOfPass_eq, head?_filter_finRange_none] at h
    simp only [Option.map_eq_some_iff, Prod.mk.injEq, polledAddresses, head?_filter_finRange]
    simp only [isPolled_iff]
    constructor
    · rintro ⟨b, hb, rfl, rfl⟩
      exact .inr ⟨h, hb.1, hb.2, rfl⟩
    · rintro (⟨ha, -⟩ | ⟨-, hp, hmin, rfl⟩)
      · exact absurd ha (h a)
      · exact ⟨a, ⟨hp, hmin⟩, rfl, rfl⟩
  | cons b rest =>
    have hb := (head?_filter_finRange (aheadInPass s) b).mp (by rw [← restOfPass_eq, h]; rfl)
    simp only [Option.some.injEq, Prod.mk.injEq]
    constructor
    · rintro ⟨rfl, rfl⟩
      exact .inl ⟨hb.1, hb.2, rfl⟩
    · rintro (⟨ha, hmin, rfl⟩ | ⟨hno, -⟩)
      · exact ⟨le_antisymm (hb.2 a ha) (hmin b hb.1), rfl⟩
      · exact absurd hb.1 (hno b)

/-- R118: a POLL carries the command of the slot stated. -/
theorem carriedBy_of_carriedTo {x : Station} {c : Carried} (h : CarriedTo x c) : carriedBy x = c := by
  rcases h with ⟨rfl, hm⟩ | ⟨rfl, hm, hd, hr⟩ | ⟨rfl, hm, hd⟩
  · simp [carriedBy, Option.isSome_iff_ne_none.mpr hm]
  · have hread : x.read.any (·.phase == .deciding) = false := by
      cases hx : x.read with
      | none => rfl
      | some q => simp [hr q hx]
    simp [carriedBy, hm, hread, Option.isSome_iff_ne_none.mpr hd]
  · rcases hd with hd | ⟨q, hq, hp⟩
    · simp [carriedBy, hm, hd]
    · simp [carriedBy, hm, hq, hp]

/-! ### The POLL that is out -/

/-- R117: no POLL is out. -/
def unpolled (s : State) : State := { s with polling := none }

theorem post_unpolled (b : NoticeBody) (s : State) : post b (unpolled s) = unpolled (post b s) := by
  have h : SameBoard (post b s) (post b (unpolled s)) := SameBoard.post {} b
  rw [post_frame b (unpolled s), h.notices, h.ports, post_frame b s]
  rfl

theorem writeJournal_unpolled (b : JournalBody) (s : State) : writeJournal b (unpolled s) = unpolled (writeJournal b s) := by
  cases hs : s.supply with
  | backup => rw [writeJournal_backup b s hs, writeJournal_backup b (unpolled s) hs]
  | normal => rw [writeJournal_normal b s hs, writeJournal_normal b (unpolled s) hs]; rfl

theorem addToCounter_unpolled (c : CounterNo) (n : Nat) (s : State) :
    addToCounter c n (unpolled s) = unpolled (addToCounter c n s) := by
  show addToCounter c n { s with polling := none } = _
  unfold addToCounter
  dsimp only
  split
  · rfl
  · split
    · exact post_unpolled _ { s with counters := put s.counters c { look s.counters c with
        value := (look s.counters c).value + BitVec.ofNat 32 n, sticky := true } }
    · rfl

theorem report_unpolled (e : CountEvent) (room : Option RoomNo) (n : Nat) (s : State) :
    report e room n (unpolled s) = unpolled (report e room n s) := by
  cases hs : s.supply with
  | backup => rw [report_backup e room n s hs, report_backup e room n (unpolled s) hs]
  | normal =>
    unfold report
    simp only [hs, show (unpolled s).supply = .normal from hs]
    refine List.foldl_hom unpolled (fun t c => ?_)
    show _ = unpolled (if _ then _ else _)
    rw [apply_ite unpolled, ← addToCounter_unpolled]
    rfl

/-! ### What a pending opening is judged -/

theorem report_frame (e : CountEvent) (room : Option RoomNo) (n : Nat) (s : State) :
    report e room n s = { s with
      counters := (report e room n s).counters, notices := (report e room n s).notices, ports := (report e room n s).ports } := by
  unfold report
  split
  · rfl
  · generalize List.finRange 8 = cs
    induction cs generalizing s with
    | nil => rfl
    | cons c cs ih =>
      rw [List.foldl_cons]
      dsimp only
      split
      · rw [ih _ (by rw [(addToCounter_kept ..).supply]; assumption), addToCounter_frame]
      · rw [ih _ (by assumption)]

/-- R127: a judgement's notice, record and report, which leave every table but the counters as it was. -/
def judged (e : CountEvent) (b : NoticeBody) (j : JournalBody) (r : RoomNo) (s : State) : State :=
  report e (some r) 1 (writeJournal j (post b s))

theorem judged_frame (e : CountEvent) (b : NoticeBody) (j : JournalBody) (r : RoomNo) (s : State) :
    judged e b j r s = { s with
      counters := (judged e b j r s).counters, notices := (judged e b j r s).notices, ports := (judged e b j r s).ports
      journal := (judged e b j r s).journal, nextSequence := (judged e b j r s).nextSequence } := by
  unfold judged
  rw [report_frame, writeJournal_frame, post_frame]

theorem judged_unpolled (e : CountEvent) (b : NoticeBody) (j : JournalBody) (r : RoomNo) (s : State) :
    judged e b j r (unpolled s) = unpolled (judged e b j r s) := by
  simp only [judged, post_unpolled, writeJournal_unpolled, report_unpolled]

theorem judgeOpening_none {r : RoomNo} {bar : Bool} {s : State} (h : (s.door r).openingPending = false) :
    judgeOpening r bar s = s := by
  simp [judgeOpening, h]

theorem judgeOpening_forced {r : RoomNo} {s : State} (h : (s.door r).openingPending = true) (hp : (s.door r).pushMark = false) :
    judgeOpening r false s = judgedForced r s := by
  simp [judgeOpening, judgedForced, h, hp]

theorem judgeOpening_egress {r : RoomNo} {s : State} (h : (s.door r).openingPending = true) (hp : (s.door r).pushMark = true) :
    judgeOpening r false s = judgedEgress r s := by
  have hroom : ∀ e b j (t : State), (judged e b j r t).roomState r = t.roomState r := fun e b j t => by
    rw [judged_frame]
    rfl
  simp only [judgeOpening, judgedEgress, h, hp, Bool.not_true, Bool.or_true, if_false, if_true, Bool.false_eq_true]
  simp only [State.setDoor_door_same, State.setDoor_setDoor]
  exact congrArg (fun o => State.setRoomState _ r { o with uncertain := true }) (hroom ..)

end Sys2Proof.Machine
end

section
/-! A miss (O43): the judgement first, then the count, and at the third what goes OFFLINE with the station. -/

namespace Sys2Proof.Machine

open Claims

/-! ### The miss and its judgement -/

theorem exec_stationMiss {a : LoopAddr} {c : Carried} {s : State} (hs : s.supply = .normal) (hp : s.polling = some ⟨a, c⟩) :
    exec .stationMiss s = .next (takeMiss a (unpolled s)) := by
  show execStationMiss s = _
  simp only [execStationMiss, hs, hp, unpolled]

/-- R127: where nothing is to be judged a miss judges nothing. -/
theorem judgeAt_nothing {a : LoopAddr} {bar : Bool} {s : State} (h : NothingToJudge s a) : judgeAt a bar s = s := by
  unfold judgeAt
  cases hr : roomOf s a with
  | none => rfl
  | some r =>
    rcases h with h | h
    · simp [h]
    · simp only [judgeOpening_none (h r hr), ite_self]

/-- R127: an exit station's miss judges the opening that pends at its room's door. -/
theorem judgeAt_exit {a : LoopAddr} {bar : Bool} {r : RoomNo} {s : State} (he : isEntry a = false) (hr : roomOf s a = some r) :
    judgeAt a bar s = judgeOpening r bar s := by
  simp [judgeAt, hr, he]

theorem roomOf_kept {s t : State} (h : Kept s t) (a : LoopAddr) : roomOf t a = roomOf s a := by
  rw [roomOf, roomOf, mapOutcome_kept h]

/-- R127: a miss that finds an opening to judge is the miss of the part with the opening judged. -/
theorem stationMiss_judged {a : LoopAddr} {c : Carried} {r : RoomNo} {s u : State} (hs : s.supply = .normal)
    (hp : s.polling = some ⟨a, c⟩) (he : isEntry a = false) (hr : roomOf s a = some r) (hk : Kept s u)
    (hpoll : u.polling = s.polling) (hdone : (u.door r).openingPending = false)
    (hjudge : judgeOpening r false (unpolled s) = unpolled u) : exec .stationMiss s = exec .stationMiss u := by
  have hroom : roomOf u a = some r := (roomOf_kept hk a).trans hr
  have hnothing : NothingToJudge (unpolled u) a := .inr fun q hq => by
    obtain rfl : r = q := Option.some.inj (hroom.symm.trans hq)
    exact hdone
  rw [exec_stationMiss hs hp, exec_stationMiss (hk.supply.trans hs) (hpoll.trans hp), takeMiss, takeMiss,
    judgeAt_exit he (s := unpolled s) hr, hjudge, judgeAt_nothing hnothing]

theorem judged_kept (e : CountEvent) (b : NoticeBody) (j : JournalBody) (r : RoomNo) (s : State) : Kept s (judged e b j r s) :=
  ((post_kept b s).trans (writeJournal_kept j _)).trans (report_kept ..)

theorem judged_polling (e : CountEvent) (b : NoticeBody) (j : JournalBody) (r : RoomNo) (s : State) :
    (judged e b j r s).polling = s.polling := by rw [judged_frame]

theorem judged_door (e : CountEvent) (b : NoticeBody) (j : JournalBody) (r q : RoomNo) (s : State) :
    (judged e b j r s).door q = s.door q := by
  rw [judged_frame]
  rfl

theorem stationMiss_forced {a : LoopAddr} {c : Carried} {r : RoomNo} {s : State} (hs : s.supply = .normal)
    (hp : s.polling = some ⟨a, c⟩) (he : isEntry a = false) (hr : roomOf s a = some r) (ho : (s.door r).openingPending = true)
    (hm : (s.door r).pushMark = false) : exec .stationMiss s = exec .stationMiss (judgedForced r s) := by
  refine stationMiss_judged hs hp he hr ((setDoor_kept ..).trans (judged_kept ..)) (judged_polling ..) ?_ ?_
  · exact (congrArg Door.openingPending (judged_door .doorForced _ _ r r _)).trans (by simp)
  · rw [judgeOpening_forced (s := unpolled s) ho hm]
    exact judged_unpolled .doorForced _ _ r (s.setDoor r _)

theorem stationMiss_egress {a : LoopAddr} {c : Carried} {r : RoomNo} {s : State} (hs : s.supply = .normal)
    (hp : s.polling = some ⟨a, c⟩) (he : isEntry a = false) (hr : roomOf s a = some r) (ho : (s.door r).openingPending = true)
    (hm : (s.door r).pushMark = true) : exec .stationMiss s = exec .stationMiss (judgedEgress r s) := by
  refine stationMiss_judged hs hp he hr (((setDoor_kept ..).trans (judged_kept ..)).trans (setRoomState_kept ..))
    (judged_polling ..) ?_ ?_
  · exact (congrArg Door.openingPending (judged_door .unreadEgress _ _ r r _)).trans (by simp)
  · rw [judgeOpening_egress (s := unpolled s) ho hm]
    exact congrArg (fun t => State.setRoomState t r { s.roomState r with uncertain := true })
      (judged_unpolled .unreadEgress _ _ r (s.setDoor r _))

/-! ### The count -/

theorem stationState_heldIn (s : State) (a : LoopAddr) : stationState s a = heldIn s a := by
  unfold stationState heldIn
  cases mapOutcome s a <;> rfl

theorem countMiss_still {a : LoopAddr} {s : State} (h : heldIn s a = .offline ∨ heldIn s a = .conflict) : countMiss a s = s := by
  rcases h with h | h <;> simp [countMiss, stationState_heldIn, h]

/-- R122: the miss of a station that answers: counted, or the third. -/
theorem countMiss_counts {a : LoopAddr} {s : State} (h : heldIn s a = .unknown ∨ heldIn s a = .online) : countMiss a s =
    if (s.station a).misses < 2 then
      report .stationMiss (roomOf s a) 1 (s.setStation a { s.station a with misses := (s.station a).misses + 1 })
    else goOffline a s := by
  have hlimit : (s.station a).misses + 1 < Config.missesToOffline ↔ (s.station a).misses < 2 := by
    simp only [Config.missesToOffline]
    omega
  rcases h with h | h <;> simp only [countMiss, stationState_heldIn, h, hlimit]

/-- R92, R130: what a room loses with its entry station. -/
theorem loseEntryStation_eq (a : LoopAddr) (r : RoomNo) (s : State) :
    loseEntryStation a r s = holdCancelled (some a) none r (doorLost r s) := by
  have hdoor : loseDoor r s = doorLost r s := by
    unfold loseDoor doorLost
    cases (s.door r).state <;> simp
  rw [loseEntryStation, hdoor]
  unfold cancelHold holdCancelled
  cases (doorLost r s).hold r <;> rfl

/-- R122: a station gone OFFLINE, its decision command discarded and its read cleared. -/
def offlineAt (a : LoopAddr) (s : State) : State := clearRead a (discardDecision false a (reportedOffline a s))

theorem reportedOffline_kept (a : LoopAddr) (s : State) : Kept s (reportedOffline a s) :=
  (((setStation_kept ..).trans (report_kept ..)).trans (post_kept ..)).trans (writeJournal_kept ..)

theorem goOffline_eq (a : LoopAddr) (s : State) : goOffline a s =
    match roomOf s a with
    | some r => if isEntry a then loseEntryStation a r (offlineAt a s) else offlineAt a s
    | none => offlineAt a s := rfl

/-- R120: clearing a read changes stations, the read queue and the turn alone. -/
theorem clearRead_frame (a : LoopAddr) (s : State) : clearRead a s = { s with
    stations := (clearRead a s).stations, readQueue := (clearRead a s).readQueue, turn := (clearRead a s).turn } := by
  unfold clearRead
  dsimp only
  split
  · rfl
  · rfl
  · split
    · split <;> rfl
    · rfl

/-- R120: a cleared read is gone, unless its decision's turn is in progress. -/
theorem clearRead_station (a : LoopAddr) (s : State) :
    (clearRead a s).station a = { s.station a with read := none } ∨
      ((clearRead a s).station a = s.station a ∧ ∃ rd drop began, s.turn = some ⟨.decision ⟨a, rd⟩ drop, began⟩) := by
  have hcleared : ∀ q, (({ s.setStation a { s.station a with read := none } with readQueue := q } : State).station a) =
      { s.station a with read := none } := fun q => State.setStation_station_same ..
  unfold clearRead
  dsimp only
  split
  · next h => exact .inl (by rw [← h])
  · exact .inl (by simp)
  · split
    · next rd drop began ht =>
      split
      · next he => exact .inr ⟨rfl, rd.badge, drop, began, by rw [ht, ← he]⟩
      · exact .inl (hcleared _)
    · exact .inl (hcleared _)

/-- R122: what a station's going OFFLINE leaves of it and of the loop. -/
structure OfflineNow (a : LoopAddr) (s t : State) : Prop where
  kept : Kept s t
  lastServed : t.lastServed = s.lastServed
  polling : t.polling = none
  state : (t.station a).state = .offline
  misses : (t.station a).misses = 3
  decision : (t.station a).decision = none
  mode : (t.station a).mode = (s.station a).mode
  read : (∀ rd drop began, s.turn ≠ some ⟨.decision ⟨a, rd⟩ drop, began⟩) → (t.station a).read = none

/-- R122: what a third miss reports changes the station and the reports alone. -/
theorem reportedOffline_frame (a : LoopAddr) (s : State) :
    let t := reportedOffline a s
    t = { s.setStation a { s.station a with state := .offline, misses := 3 } with
      counters := t.counters, notices := t.notices, ports := t.ports, journal := t.journal, nextSequence := t.nextSequence } := by
  dsimp only
  unfold reportedOffline
  rw [writeJournal_frame, post_frame, report_frame]

/-- R103, R121: with no POLL out, a discarded decision command is gone and what it carried may be resolved. -/
theorem discardDecision_uncarried (own : Bool) (a : LoopAddr) {s : State} (hp : s.polling = none) :
    ∃ w, Uncarried w (s.setStation a { s.station a with decision := none }) (discardDecision own a s) := by
  have hlost : loseCarried a .decision (s.setStation a { s.station a with decision := none }) =
      s.setStation a { s.station a with decision := none } := by simp [loseCarried, hp]
  unfold discardDecision
  dsimp only
  rw [hlost]
  exact loseCommand_uncarried ..

/-- R103, R120, R122: the station, its command and its read. -/
theorem offlineAt_now (a : LoopAddr) {s : State} (hp : s.polling = none) : OfflineNow a s (offlineAt a s) := by
  have hreported := reportedOffline_frame a s
  dsimp only at hreported
  have hturn : (reportedOffline a s).turn = s.turn := by rw [hreported]; rfl
  have hstation : (reportedOffline a s).station a = { s.station a with state := .offline, misses := 3 } := by
    rw [hreported]
    exact State.setStation_station_same ..
  have hserved : (reportedOffline a s).lastServed = s.lastServed := by rw [hreported]; rfl
  have hpoll : (reportedOffline a s).polling = none := by rw [hreported]; exact hp
  have hkept := reportedOffline_kept a s
  unfold offlineAt
  generalize reportedOffline a s = u at hturn hstation hserved hpoll hkept
  obtain ⟨w, hw⟩ := discardDecision_uncarried false a hpoll
  have hdiscarded : (discardDecision false a u).station a =
      { s.station a with state := .offline, misses := 3, decision := none } := by
    rw [hw.station, State.setStation_station_same, hstation]
    rfl
  have hframe := clearRead_frame a (discardDecision false a u)
  have hcleared := clearRead_station a (discardDecision false a u)
  rw [hdiscarded] at hcleared
  refine ⟨(hkept.trans (discardDecision_kept ..)).trans (clearRead_kept ..), ?_, ?_, ?_, ?_, ?_, ?_, fun hno => ?_⟩
  · rw [hframe]; exact hw.lastServed.trans hserved
  · rw [hframe]; exact hw.polling.trans hpoll
  · rcases hcleared with h | ⟨h, -⟩ <;> rw [h]
  · rcases hcleared with h | ⟨h, -⟩ <;> rw [h]
  · rcases hcleared with h | ⟨h, -⟩ <;> rw [h]
  · rcases hcleared with h | ⟨h, -⟩ <;> rw [h]
  · rcases hcleared with h | ⟨-, rd, drop, began, h⟩
    · rw [h]
    · exact absurd ((h.symm.trans (hw.turn.trans hturn)).symm) (hno rd drop began)

/-- R101: what ceases to be carried leaves a station that is OFFLINE so. -/
theorem OfflineNow.then_uncarried {a : LoopAddr} {w : List PoolIx} {s t u v : State} (h : OfflineNow a s t) (hu : Kept t u)
    (hserved : u.lastServed = t.lastServed) (hpoll : u.polling = t.polling) (hstation : u.station a = t.station a)
    (k : Uncarried w u v) : OfflineNow a s v := by
  have hv : v.station a = t.station a := by
    rw [k.station, hstation, Station.without_of_none h.decision]
  exact ⟨(h.kept.trans hu).trans k.kept, k.lastServed.trans (hserved.trans h.lastServed), k.polling.trans (hpoll.trans h.polling),
    by rw [hv, h.state], by rw [hv, h.misses], by rw [hv, h.decision], by rw [hv, h.mode], fun hno => by rw [hv, h.read hno]⟩

/-- R122: the frame of the loop's and the register's work, field by field. -/
theorem Kept.eq_with {s t : State} (h : Kept s t) : t = { s with
    turn := t.turn, lastServed := t.lastServed, readQueue := t.readQueue, holds := t.holds, pool := t.pool
    occupancy := t.occupancy, heldEffects := t.heldEffects, stations := t.stations, polling := t.polling, doors := t.doors
    notices := t.notices, journal := t.journal, nextSequence := t.nextSequence, counters := t.counters, ports := t.ports
    freeUsed := t.freeUsed } := by
  obtain ⟨h1, h2, h3, h4, h5, h6, h7, h8, h9, h10, h11, h12, h13, h14, h15, h16, h17, h18, h19, h20, h21, h22, h23⟩ := h
  cases s
  cases t
  simp_all

theorem OfflineNow.eq_with {a : LoopAddr} {s t : State} (h : OfflineNow a s t) : t = { s with
    polling := none, stations := t.stations, doors := t.doors, holds := t.holds, pool := t.pool
    occupancy := t.occupancy, heldEffects := t.heldEffects, readQueue := t.readQueue, turn := t.turn
    notices := t.notices, journal := t.journal, nextSequence := t.nextSequence, counters := t.counters
    ports := t.ports, freeUsed := t.freeUsed } := by
  have hall := h.kept.eq_with
  rwa [h.lastServed, h.polling] at hall

/-- R92, R130: what a room keeps of its hold and its door once its entry station is OFFLINE. -/
structure EntryLost (r : RoomNo) (s t : State) : Prop where
  hold : t.hold r = none
  door : (s.door r).state ≠ .evacuation → (t.door r).state = .unknown .back ∧ (t.door r).contact = none ∧ (t.door r).tied = []

theorem loseEntryStation_lost (a : LoopAddr) (r : RoomNo) (s : State) : EntryLost r s (loseEntryStation a r s) := by
  by_cases h : (s.door r).state = .evacuation
  · have k := loseEntryStation_evacuation a r s h
    exact ⟨by rw [k.hold]; simp, fun hne => absurd h hne⟩
  · have k := loseEntryStation_uncarried a r s h
    have hdoor : (loseEntryStation a r s).door r = (s.door r).lost.without (onRelease s r) := by rw [k.door]; simp
    have htied : (s.door r).tied.filter (· ∉ onRelease s r) = [] :=
      List.filter_eq_nil_iff.mpr fun i hi => by simp [onRelease, hi]
    exact ⟨by rw [k.hold]; simp, fun _ => ⟨by rw [hdoor]; rfl, by rw [hdoor]; rfl, by rw [hdoor]; exact htied⟩⟩

theorem loseEntryStation_now {a : LoopAddr} {s t : State} (h : OfflineNow a s t) (r : RoomNo) :
    OfflineNow a s (loseEntryStation a r t) := by
  by_cases he : (t.door r).state = .evacuation
  · exact h.then_uncarried (setHold_kept r none t) rfl rfl rfl (loseEntryStation_evacuation a r t he)
  · exact h.then_uncarried ((setDoor_kept r _ t).trans (setHold_kept r none _)) rfl rfl rfl (loseEntryStation_uncarried a r t he)

/-- R122: a third miss at a station that is no room's entry. -/
theorem goOffline_plain {a : LoopAddr} {s : State} (h : ∀ r, isEntry a = true → roomOf s a ≠ some r) :
    goOffline a s = offlineAt a s := by
  rw [goOffline_eq]
  cases hr : roomOf s a with
  | none => rfl
  | some r => exact if_neg fun he => h r he hr

/-- R92, R122, R130: a third miss at a room's entry station. -/
theorem goOffline_entry {a : LoopAddr} {r : RoomNo} {s : State} (he : isEntry a = true) (hr : roomOf s a = some r) :
    goOffline a s = loseEntryStation a r (offlineAt a s) := by
  rw [goOffline_eq, hr]
  exact if_pos he

/-- R130: a station's going OFFLINE leaves the doors' states until its room is looked at. -/
theorem offlineAt_door (a : LoopAddr) {s : State} (hp : s.polling = none) (r : RoomNo) :
    ((offlineAt a s).door r).state = (s.door r).state := by
  have hreported := reportedOffline_frame a s
  dsimp only at hreported
  obtain ⟨w, hw⟩ := discardDecision_uncarried false a (s := reportedOffline a s) (by rw [hreported]; exact hp)
  have hcleared : (offlineAt a s).door r = (discardDecision false a (reportedOffline a s)).door r := by
    rw [offlineAt, clearRead_frame]
    rfl
  rw [hcleared, hw.door, hreported]
  rfl

end Sys2Proof.Machine

open Sys2Proof Sys2Proof.Machine Sys2Proof.Claims in
/-- Settles O43: the pass by its least address, the judgement by the miss of the part with the opening judged, the count by the
station's state, and the third miss by what goes OFFLINE. -/
theorem stationsArePolledAndMissed : Obligations.StationsArePolledAndMissed := by
  refine ⟨fun a kept c s hs hp hn hc => ?poll, fun s h => ?noPoll, fun s h => ?noMiss, fun a c s hs hp => ⟨fun r he hr ho => ?judge,
    fun hj => ⟨fun h => ?still, fun h => ⟨fun hm => ?counted, fun hm => ⟨fun hroom => ?plain, fun r he hr => ?entry, ?left⟩⟩⟩⟩⟩
  case poll =>
    show execPoll s = _
    simp only [execPoll, hs, hp, (nextPoll_iff s a kept).mpr hn, carriedBy_of_carriedTo hc]
  case noPoll =>
    show execPoll s = _
    unfold execPoll
    split
    · next a kept hs hp hn =>
      rcases h with h | h | h
      · exact absurd (hs.symm.trans h) (by decide)
      · exact absurd hp h
      · exact absurd ((nextPoll_iff s a kept).mp hn) (h a kept)
    · rfl
  case noMiss =>
    show execStationMiss s = _
    rcases h with h | h
    · simp [execStationMiss, h]
    · cases hs : s.supply <;> simp [execStationMiss, h, hs]
  case judge => exact ⟨stationMiss_forced hs hp he hr ho, stationMiss_egress hs hp he hr ho⟩
  all_goals
    have hmiss : exec .stationMiss s = .next (countMiss a (unpolled s)) := by
      rw [exec_stationMiss hs hp, takeMiss, judgeAt_nothing (s := unpolled s) hj]
  case still => rw [hmiss, countMiss_still (s := unpolled s) h]; rfl
  all_goals rw [countMiss_counts (s := unpolled s) h] at hmiss
  case counted => rw [hmiss]; exact congrArg Host.Outcome.next (if_pos hm)
  all_goals
    rw [show ((unpolled s).station a).misses = (s.station a).misses from rfl, if_neg (Nat.not_lt.mpr hm)] at hmiss
    have hnow : OfflineNow a s (offlineAt a (unpolled s)) := by
      have h := offlineAt_now a (s := unpolled s) rfl
      exact { h with kept := { h.kept with } }
  case plain => rw [hmiss, goOffline_plain (s := unpolled s) hroom]; rfl
  case entry => rw [hmiss, goOffline_entry (s := unpolled s) he hr, loseEntryStation_eq]; rfl
  case left =>
    refine ⟨_, hmiss, ?_⟩
    by_cases hroom : ∃ r, isEntry a = true ∧ roomOf s a = some r
    · obtain ⟨r, he, hr⟩ := hroom
      rw [goOffline_entry (s := unpolled s) he hr]
      have hend := loseEntryStation_now hnow r
      have hlost := loseEntryStation_lost a r (offlineAt a (unpolled s))
      refine ⟨hend.polling, hend.state, hend.misses, hend.decision, hend.mode, hend.read, fun q _ hq => ?_, hend.eq_with⟩
      obtain rfl := Option.some.inj (hr.symm.trans hq)
      exact ⟨hlost.hold, fun hd => hlost.door (by rwa [offlineAt_door a (s := unpolled s) rfl r])⟩
    · rw [goOffline_plain (s := unpolled s) fun r he hr => hroom ⟨r, he, hr⟩]
      exact ⟨hnow.polling, hnow.state, hnow.misses, hnow.decision, hnow.mode, hnow.read,
        fun r he hr => absurd ⟨r, he, hr⟩ hroom, hnow.eq_with⟩
end

section
/-! The checks of the requests' owners (O22): each owner's tests say what the statement's table says, and the first that fails is the
whole of the request's service. -/

namespace Sys2Proof.Machine

open Claims

/-! ### The layout's checks -/

/-- Log entry 13: a WRITE ROOM's codes. -/
theorem roomBody_badCode (b : RoomBody) : RoomBody.badCode b = decide (1 < b.configured ∨ (b.configured = 1 ∧ 2 < b.roomClass)) := by
  have hclass : (classOfCode? b.roomClass).isNone = decide (2 < b.roomClass) := by
    rw [classOfCode?_eq, Bool.eq_iff_iff]
    simp [classes]
    omega
  simp [RoomBody.badCode, hclass, beq_eq_decide]

/-- R17 check 2, once the codes are defined. -/
theorem roomBody_badRoom (b : RoomBody) (h : RoomBody.badCode b = false) : RoomBody.badRoom b = decide (63 < b.room ∨
    (b.configured = 1 ∧ (b.maximum < 1 ∨ 16 < b.maximum ∨ (b.roomClass = 0 ∧ b.maximum = 1)))) := by
  rw [roomBody_badCode, decide_eq_false_iff_not] at h
  rcases (by omega : b.configured = 0 ∨ (b.configured = 1 ∧ b.roomClass = 0) ∨ (b.configured = 1 ∧ b.roomClass = 1) ∨
    (b.configured = 1 ∧ b.roomClass = 2)) with h0 | ⟨h1, hc⟩ | ⟨h1, hc⟩ | ⟨h1, hc⟩
  · simp [RoomBody.badRoom, RoomBody.record, h0]
  all_goals simp [RoomBody.badRoom, RoomBody.record, h1, hc, classOfCode?, beq_eq_decide, Bool.or_assoc]

/-- R17 check 3. -/
theorem roomOccupied_eq (s : State) (n : Nat) :
    roomOccupied s n = decide (∃ r : RoomNo, r.val = n ∧ ((s.roomState r).list ≠ [] ∨ s.hold r ≠ none)) := by
  by_cases h : n < 64
  · obtain ⟨r, rfl⟩ : ∃ r : RoomNo, r.val = n := ⟨⟨n, h⟩, rfl⟩
    have hone : ∀ q : RoomNo, q.val = r.val ↔ q = r := fun q => Fin.ext_iff.symm
    rw [Bool.eq_iff_iff]
    simp [roomOccupied, roomNo?_val, hone, Option.isSome_iff_ne_none]
  · have hno : roomNo? n = none := dif_neg h
    have : ∀ r : RoomNo, r.val ≠ n := fun r => by omega
    simp [roomOccupied, hno, this]

theorem describes_none (b : MapBody) : Describes b none ↔ MapBody.isEmpty b = true := by
  simp [Describes, MapBody.isEmpty, and_assoc]

theorem describes_some (b : MapBody) : Describes b (some ⟨b.first, b.size, b.room⟩) ↔
    Descriptor.valid ⟨b.first, b.size, b.room⟩ = true := by
  simp [Describes, Descriptor.valid, mapSizes, and_assoc]

/-- R22 check 2. -/
theorem mapBody_badField (b : MapBody) : MapBody.badField b =
    decide (¬ Describes b none ∧ (7 < b.number ∨ ¬ Describes b (some ⟨b.first, b.size, b.room⟩))) := by
  rw [Bool.eq_iff_iff, decide_eq_true_iff, describes_none, describes_some]
  simp [MapBody.badField]

theorem sharesRoom_iff (d e : Descriptor) : Descriptor.sharesRoom d e = true ↔ ¬ Apart d e := by
  simp only [Descriptor.sharesRoom, Apart, Bool.and_eq_true, decide_eq_true_eq]
  omega

/-- R22 check 3. -/
theorem mapBody_clashes (b : MapBody) (s : State) : MapBody.clashes b s =
    decide (¬ Describes b none ∧ ∃ i : Fin 8, i.val ≠ b.number ∧
      (look s.stationMap i).any (fun e => decide ¬ Apart ⟨b.first, b.size, b.room⟩ e) = true) := by
  have hshare : Descriptor.sharesRoom ⟨b.first, b.size, b.room⟩ = fun e => decide ¬ Apart ⟨b.first, b.size, b.room⟩ e :=
    funext fun e => Bool.eq_iff_iff.mpr ((sharesRoom_iff _ e).trans decide_eq_true_iff.symm)
  rw [Bool.eq_iff_iff, decide_eq_true_iff, describes_none]
  simp [MapBody.clashes, hshare]

theorem roomNo?_eq_none (n : Nat) : roomNo? n = none ↔ 63 < n := by
  unfold roomNo?
  split <;> simp <;> omega

theorem loopAddr?_eq_none (n : Nat) : loopAddr? n = none ↔ 127 < n := by
  unfold loopAddr?
  split <;> simp <;> omega

theorem index8?_eq_none (n : Nat) : index8? n = none ↔ 7 < n := by
  unfold index8?
  split <;> simp <;> omega

/-! ### The permit table's checks -/

theorem flags_above_five (o : Byte) : (o &&& 0xE0 != 0) = decide (32 ≤ o.toNat) := by decide +revert

theorem flags_amended (o : Byte) : (o &&& 0xEA != 0) = (decide (32 ≤ o.toNat) || o.getLsbD 1 || o.getLsbD 3) := by decide +revert

theorem badTail_eq (flags : Byte) (pattern : Option PatternBody) (count : Nat) (rooms : List Nat) :
    badTail flags pattern count rooms = tailAmiss flags pattern count rooms := by
  simp [badTail, tailAmiss, bne, beq_eq_decide, Bool.or_assoc]

theorem badRooms_eq (s : State) (rooms : List Nat) : badRooms s rooms = roomsAmiss rooms s := by
  have hroom : ∀ n, ((roomNo? n).bind s.room).isNone = decide (∀ r : RoomNo, r.val = n → s.room r = none) := fun n => by
    rw [Bool.eq_iff_iff]
    by_cases h : n < 64
    · obtain ⟨r, rfl⟩ : ∃ r : RoomNo, r.val = n := ⟨⟨n, h⟩, rfl⟩
      have hone : ∀ q : RoomNo, q.val = r.val ↔ q = r := fun q => Fin.ext_iff.symm
      simp [roomNo?_val, hone]
    · have hno : roomNo? n = none := dif_neg h
      have : ∀ r : RoomNo, r.val ≠ n := fun r => by omega
      simp [hno, this]
  simp only [badRooms, roomsAmiss, hroom]

theorem badSpan_eq (start stop : CivilMinute) (pattern : Option PatternBody) : badSpan start stop pattern = spanAmiss start stop pattern := by
  simp [badSpan, spanAmiss]

theorem liveOrHeld_eq (x : Standing) : x.liveOrHeld = !Terminal x := by cases x <;> rfl

/-- R33, R39 check 9. -/
theorem liveOrHeldOf_eq (s : State) (badge : Nat) : liveOrHeldOf s badge = heldByBadge badge s := by
  simp only [liveOrHeldOf, heldByBadge, toList_eq_looks, List.filter_map, List.length_map, liveOrHeld_eq]
  rfl

theorem vacantSlot_isNone (s : State) : (vacantSlot s).isNone = decide (∀ i, s.permit i ≠ none) := by
  rw [Bool.eq_iff_iff]
  simp [vacantSlot, Option.ne_none_iff_isSome]

/-- R37: the permit a number names stands in the slot that holds the number. -/
theorem named_eq (number : Nat) (s : State) : named number s = (namedSlot number s).bind s.permit := by
  unfold named namedSlot
  induction List.finRange 256 with
  | nil => rfl
  | cons i is ih =>
    rw [List.findSome?_cons, List.find?_cons]
    cases hp : s.permit i with
    | none => exact ih
    | some p =>
      cases hn : p.number == number with
      | false => simpa [Option.filter, hn] using ih
      | true => simp [Option.filter, hn, hp]

theorem namedSlot_isSome (number : Nat) (s : State) : (namedSlot number s).isSome = (named number s).isSome := by
  rw [named_eq]
  cases h : namedSlot number s with
  | none => rfl
  | some i =>
    have hi : (s.permit i).any (·.number == number) = true := List.find?_some (p := fun i => (s.permit i).any _) h
    cases hp : s.permit i with
    | none => simp [hp] at hi
    | some p => simp [hp]

/-- R37: a number that no slot holds. -/
theorem lookup_absent {n : Nat} {s : State} (h : named n s = none) (l : Link) (f : SlotNo → Permit → State → State) :
    lookup l n f s = reply l .noSuchPermit .nothing s := by
  rw [named_eq] at h
  unfold lookup
  show (match namedSlot n s with | none => _ | some i => _) = _
  cases hi : namedSlot n s with
  | none => rfl
  | some i =>
    have hp : s.permit i = none := by simpa [hi] using h
    simp only [hp]

/-- R37: a number that a slot holds. -/
theorem lookup_found {n : Nat} {p : Permit} {s : State} (h : named n s = some p) (l : Link) (f : SlotNo → Permit → State → State) :
    ∃ i, namedSlot n s = some i ∧ lookup l n f s = f i p s := by
  rw [named_eq] at h
  obtain ⟨i, hi, hp⟩ := Option.bind_eq_some_iff.mp h
  refine ⟨i, hi, ?_⟩
  unfold lookup
  show (match namedSlot n s with | none => _ | some i => _) = _
  rw [hi]
  dsimp only
  rw [hp]

/-! ### The first check that fails -/

/-- R36, R175: a service that begins with its checks is refused by the first that fails. -/
theorem checked_refuses {l : Link} {checks checks' : List (Bool × Status)} {f : State → State} {s : State} {st : Status}
    (he : firstFailing checks = firstFailing checks') (h : firstFailing checks' = some st) :
    checked l checks f s = reply l st .nothing s :=
  checked_fails l checks f s st (he.trans h)

/-- R36: one check with a refusal, then the rest of the service. -/
theorem checked_cons (l : Link) (b : Bool) (st : Status) (rest : List (Bool × Status)) (f : State → State) (s : State) :
    checked l ((b, st) :: rest) f s = if b then reply l st .nothing s else checked l rest f s := by
  cases b <;> rfl

/-- R36, R37: a request on the permit it names is refused where no slot holds the number, or by what it asks of that permit. -/
theorem lookup_refuses {l : Link} {n : Nat} {f : SlotNo → Permit → State → State} {s : State} {st : Status}
    {rest : List (Bool × Status)} (h : firstFailing (((named n s).isNone, .noSuchPermit) :: rest) = some st)
    (hf : ∀ i p, named n s = some p → namedSlot n s = some i → firstFailing rest = some st → f i p s = reply l st .nothing s) :
    lookup l n f s = reply l st .nothing s := by
  cases hn : named n s with
  | none =>
    obtain rfl : Status.noSuchPermit = st := by simpa [hn] using h
    exact lookup_absent hn l f
  | some p =>
    obtain ⟨i, hi, hfound⟩ := lookup_found hn l f
    rw [hfound]
    exact hf i p hn hi (by simpa [hn] using h)

end Sys2Proof.Machine
end

section
/-! Each request refused by the first of its owner's checks that fails (O22). -/

namespace Sys2Proof.Machine

open Claims

variable {l : Link} {s : State} {st : Status}

/-- A request whose service is refused as its owner's checks say. -/
def RefusedBy (l : Link) (s : State) (st : Status) (r : Request) : Prop :=
  firstFailing (ownersChecks l s r) = some st → serveRequest l r s = reply l st .nothing s

theorem check_fails {b : Bool} {st st' : Status} (h : firstFailing [(b, st)] = some st') : b = true ∧ st = st' := by
  cases b
  · cases h
  · exact ⟨rfl, Option.some.inj h⟩

theorem decided_check_fails {p : Prop} [Decidable p] {st st' : Status} (h : firstFailing [(decide p, st)] = some st') :
    p ∧ st = st' := by simpa using check_fails h

/-! ### The clock, the layout, the occupancy, the links -/

theorem writeRoom_refusedBy (b : RoomBody) : RefusedBy l s st (.writeRoom b) := fun h => by
  refine checked_refuses (checks' := [(s.locked, .locked), (RoomBody.badCode b, .badLength), (_, .badRoom), (_, .occupied)]) ?_
    (by rw [roomBody_badCode]; exact h)
  cases hc : RoomBody.badCode b with
  | true => simp only [firstFailing_cons, if_true]
  | false => rw [roomBody_badRoom b hc, roomOccupied_eq]

theorem writeMap_refusedBy (b : MapBody) : RefusedBy l s st (.writeMap b) := fun h =>
  checked_refuses (by rw [mapBody_badField, mapBody_clashes]; rfl) h

theorem setFreeze_refusedBy (b : FreezeBody) : RefusedBy l s st (.setFreeze b) := fun h => by
  have hentry : (decide (7 < b.entry) || b.classes == 0) = decide (7 < b.entry ∨ b.classes = 0) := by
    rw [beq_eq_decide, Bool.decide_or]
  exact checked_refuses (by rw [classes_undefined, hentry]; rfl) h

theorem setMark_refusedBy (m : Mark) : RefusedBy l s st (.setMark m) := fun h => by
  have hmark : (!m.inRange) = decide ¬ MarkInRange m := by
    rw [Bool.eq_iff_iff, decide_eq_true_iff, ← mark_inRange_iff]
    simp
  show serveSetMark l m s = _
  unfold serveSetMark
  exact checked_refuses (checks := [(!m.inRange, .badTime)]) (by rw [hmark]; rfl) h

theorem readRoom_refusedBy (n : Nat) : RefusedBy l s st (.readRoom n) := fun h => by
  obtain ⟨hn, rfl⟩ := decided_check_fails (p := 63 < n) h
  simp only [serveRequest, serveReadRoom, (roomNo?_eq_none n).mpr hn]

theorem readDoor_refusedBy (n : Nat) : RefusedBy l s st (.readDoor n) := fun h => by
  obtain ⟨hn, rfl⟩ := decided_check_fails (p := 63 < n) h
  simp only [serveRequest, serveReadDoor, (roomNo?_eq_none n).mpr hn]

theorem readStation_refusedBy (n : Nat) : RefusedBy l s st (.readStation n) := fun h => by
  obtain ⟨hn, rfl⟩ := decided_check_fails (p := 127 < n) h
  simp only [serveRequest, serveReadStation, (loopAddr?_eq_none n).mpr hn]

theorem readOccupancy_refusedBy (o : OccupancyRef) : RefusedBy l s st (.readOccupancy o) := fun h => by
  cases o with
  | room n =>
    obtain ⟨hn, rfl⟩ := decided_check_fails (p := 63 < n) h
    simp only [serveRequest, serveReadOccupancy, (roomNo?_eq_none n).mpr hn]
  | badge b => exact checked_refuses (by rw [beq_eq_decide]; rfl) h

theorem reconcileRoom_refusedBy (n : Nat) (b : Option Nat) : RefusedBy l s st (.reconcileRoom n b) := fun h => by
  have hroom : (roomNo? n).isNone = decide (63 < n) := by
    rw [Bool.eq_iff_iff, Option.isNone_iff_eq_none, decide_eq_true_iff, roomNo?_eq_none]
  show serveReconcileRoom l n b s = _
  unfold serveReconcileRoom
  exact checked_refuses (checks := [(b == some 0, .badLength), ((roomNo? n).isNone, .badRoom)])
    (by rw [hroom, beq_eq_decide]; rfl) h

theorem suspendFirm_refusedBy (firm reason : Nat) : RefusedBy l s st (.suspendFirm firm reason) := fun h => by
  have hbad : (badFirm firm || reason == 0) = decide (firm = 0 ∨ 999 < firm ∨ reason = 0) := by
    simp [badFirm, beq_eq_decide, Bool.or_assoc]
  exact checked_refuses (by rw [hbad]; rfl) h

theorem resumeFirm_refusedBy (firm : Nat) : RefusedBy l s st (.resumeFirm firm) := fun h => by
  have hbad : badFirm firm = decide (firm = 0 ∨ 999 < firm) := by simp [badFirm, beq_eq_decide]
  exact checked_refuses (by rw [hbad]; rfl) h

theorem setAttentionMode_refusedBy (m : Nat) : RefusedBy l s st (.setAttentionMode m) := fun h => by
  obtain ⟨hm, rfl⟩ := decided_check_fails (p := 1 < m) h
  obtain ⟨k, rfl⟩ : ∃ k, m = k + 2 := ⟨m - 2, by omega⟩
  rfl

/-- R166: a counter is outside a link's group. -/
theorem ownGroup_eq (l : Link) (n : Nat) : (!ownGroup l n) = decide (l = .works ↔ 4 ≤ n) := by
  cases l with
  | works =>
    simp only [ownGroup, true_iff, ← decide_not]
    exact decide_eq_decide.mpr (by omega)
  | security => simp only [ownGroup, reduceCtorEq, false_iff, decide_not]

theorem reasonOfCode?_eq_none (n : Nat) : reasonOfCode? n = none ↔ n < 1 ∨ 17 < n := by
  by_cases h : n ≤ 17
  · interval_cases n <;> simp [reasonOfCode?]
  · obtain ⟨k, rfl⟩ : ∃ k, n = k + 18 := ⟨n - 18, by omega⟩
    exact iff_of_true rfl (.inr (by omega))

/-- R167, R170: the selects that are undefined. -/
theorem selectOf?_isNone (select reason : Nat) : (selectOf? select reason).isNone =
    decide (12 < select ∨ (select = 2 ∧ (reason < 1 ∨ 17 < reason))) := by
  rw [Bool.eq_iff_iff, Option.isNone_iff_eq_none, decide_eq_true_iff]
  by_cases h : select ≤ 12
  · interval_cases select <;> simp [selectOf?, reasonOfCode?_eq_none]
  · obtain ⟨k, rfl⟩ : ∃ k, select = k + 13 := ⟨select - 13, by omega⟩
    exact iff_of_true rfl (.inl (by omega))

theorem setCounter_refusedBy (b : CounterBody) : RefusedBy l s st (.setCounter b) := fun h => by
  have hform : (decide (7 < b.number) || (selectOf? b.select b.reason).isNone || decide (1 < b.notify)) =
      decide (7 < b.number ∨ 12 < b.select ∨ (b.select = 2 ∧ (b.reason < 1 ∨ 17 < b.reason)) ∨ 1 < b.notify) := by
    rw [selectOf?_isNone]
    simp [Bool.or_assoc]
  have hfilter : (decide (63 < b.filter) && b.filter != 255) = decide (63 < b.filter ∧ b.filter ≠ 255) := by
    simp [bne, beq_eq_decide]
  exact checked_refuses (by rw [hform, hfilter, ownGroup_eq]; rfl) h

theorem readCounter_refusedBy (n : Nat) : RefusedBy l s st (.readCounter n) := fun h => by
  change (firstFailing [(decide (7 < n), .badLength), (decide (l = .works ↔ 4 ≤ n), .notYours)]) = some st at h
  simp only [firstFailing_cons, decide_eq_true_eq] at h
  show serveReadCounter l n s = _
  unfold serveReadCounter
  split at h
  · next hn =>
    obtain rfl := Option.some.inj h
    rw [(index8?_eq_none n).mpr hn]
  · next hn =>
    obtain ⟨c, hc⟩ := Option.ne_none_iff_exists'.mp ((index8?_eq_none n).not.mpr hn)
    rw [hc]
    show checked l [(!ownGroup l n, .notYours)] _ s = _
    exact checked_refuses (checks' := [(decide (l = .works ↔ 4 ≤ n), .notYours)]) (by rw [ownGroup_eq]) (by simpa using h)

/-! ### The permit table -/

theorem draftPermit_refusedBy (b : DraftBody) : RefusedBy l s st (.draftPermit b) := fun h => by
  have hform : (badTail b.flags b.pattern b.count b.rooms || b.flags &&& 0xE0 != 0 || b.permit == 0 || b.firm == 0 ||
      decide (999 < b.firm) || b.badge == 0) = (tailAmiss b.flags b.pattern b.count b.rooms ||
        decide (32 ≤ b.flags.toNat ∨ b.permit = 0 ∨ b.firm = 0 ∨ 999 < b.firm ∨ b.badge = 0)) := by
    rw [flags_above_five, badTail_eq]
    simp [beq_eq_decide, Bool.or_assoc]
  have hfound : (findPermit s b.permit).isSome = (named b.permit s).isSome := namedSlot_isSome b.permit s
  refine checked_refuses (checks := draftChecks b s) ?_ h
  rw [draftChecks, hform, hfound, vacantSlot_isNone, badRooms_eq, badSpan_eq, liveOrHeldOf_eq]
  rfl

theorem amendPermit_refusedBy (b : AmendBody) : RefusedBy l s st (.amendPermit b) := fun h => by
  have hform : (badTail b.flags b.pattern b.count b.rooms || b.flags &&& 0xEA != 0) =
      (tailAmiss b.flags b.pattern b.count b.rooms || decide (32 ≤ b.flags.toNat) || b.flags.getLsbD 1 || b.flags.getLsbD 3) := by
    rw [flags_amended, badTail_eq]
    simp only [Bool.or_assoc]
  show serveAmendPermit l b s = _
  rw [serveAmendPermit, hform, checked_cons]
  change (firstFailing ((tailAmiss b.flags b.pattern b.count b.rooms || decide (32 ≤ b.flags.toNat) || b.flags.getLsbD 1 ||
    b.flags.getLsbD 3, .badLength) :: _)) = some st at h
  rw [firstFailing_cons] at h
  split at h
  · next hb => rw [if_pos hb, Option.some.inj h]
  · next hb =>
    rw [if_neg hb]
    refine lookup_refuses h fun i p hp _ hrest => checked_refuses ?_ hrest
    rw [amendChecks, badRooms_eq, badSpan_eq, liveOrHeld_eq, Bool.not_not, hp]
    rfl

theorem countersign_refusedBy (n v : Nat) : RefusedBy l s st (.countersign n v) := fun h =>
  lookup_refuses h fun i p hp _ hrest => by
    simp only [hp, Option.any_some, firstFailing_cons, firstFailing_nil] at hrest
    unfold countersignFound
    split at hrest
    · next hv =>
      rw [if_pos (by simpa using hv), Option.some.inj hrest]
    · next hv =>
      rw [if_neg (by simpa using hv)]
      cases hs : p.standing <;> simp_all [Held, Terminal]

theorem suspendPermit_refusedBy (n reason : Nat) : RefusedBy l s st (.suspendPermit n reason) := fun h => by
  show checked l _ _ s = _
  rw [checked_cons, beq_eq_decide]
  change (firstFailing ((decide (reason = 0), .badLength) :: _)) = some st at h
  rw [firstFailing_cons] at h
  split at h
  · next hb => rw [if_pos hb, Option.some.inj h]
  · next hb =>
    rw [if_neg hb]
    refine lookup_refuses h fun i p hp _ hrest => ?_
    simp only [hp, Option.any_some] at hrest
    unfold suspendFound
    cases hs : p.standing <;> simp_all [Terminal, suspendedStanding]

theorem resumePermit_refusedBy (n : Nat) : RefusedBy l s st (.resumePermit n) := fun h =>
  lookup_refuses h fun i p hp _ hrest => by
    simp only [hp, Option.any_some] at hrest
    unfold resumeFound resumedPermit
    cases hs : p.standing <;> simp_all [Held]

/-- R48: REVOKE and CLOSE. -/
theorem finish_refuses {n : Nat} {how : Ending} {source : Source}
    (h : firstFailing [((named n s).isNone, .noSuchPermit), ((named n s).any (Terminal ·.standing), .wrongState)] = some st) :
    lookup l n (finishFound l how source) s = reply l st .nothing s :=
  lookup_refuses h fun i p hp _ hrest => by
    simp only [hp, Option.any_some, firstFailing_cons, firstFailing_nil] at hrest
    unfold finishFound
    rw [liveOrHeld_eq]
    cases ht : Terminal p.standing <;> simp_all

theorem purgePermit_refusedBy (n : Nat) : RefusedBy l s st (.purgePermit n) := fun h =>
  lookup_refuses h fun i p hp hi hrest => by
    have href : slotReferred s i = decide (∃ k, (s.presence k).any (fun x => some x.slot == namedSlot n s) = true) := by
      rw [Bool.eq_iff_iff]
      simp [slotReferred, findSlot, hi]
    rw [← href] at hrest
    simp only [hp, Option.any_some, firstFailing_cons, firstFailing_nil] at hrest
    unfold purgeFound
    rw [liveOrHeld_eq]
    cases ht : Terminal p.standing <;> simp_all

theorem readPermit_refusedBy (p : PermitRef) : RefusedBy l s st (.readPermit p) := fun h => by
  cases p with
  | number n => exact lookup_refuses h fun i p hp _ hrest => absurd hrest (by simp)
  | slot i =>
    obtain ⟨hi, rfl⟩ := check_fails (b := (s.permit i).isNone) h
    show serveReadPermit l (.slot i) s = _
    unfold serveReadPermit
    dsimp only
    rw [Option.isNone_iff_eq_none.mp hi]

theorem listPermits_refusedBy (i : SlotNo) (f : ListFilter) (n : Nat) : RefusedBy l s st (.listPermits i f n) := fun h => by
  show serveListPermits l i f n s = _
  unfold serveListPermits
  cases f with
  | all | badge | firm => nomatch h
  | undefined => exact checked_refuses (checks := [(true, .badLength)]) rfl h
  | state c =>
    have hcode : (permitStateOfCode? c).isNone = decide (8 < c) := by
      rw [Bool.eq_iff_iff, Option.isNone_iff_eq_none, decide_eq_true_iff]
      by_cases hc : c ≤ 8
      · interval_cases c <;> simp [permitStateOfCode?]
      · obtain ⟨k, rfl⟩ : ∃ k, c = k + 9 := ⟨c - 9, by omega⟩
        exact iff_of_true rfl (by omega)
    exact checked_refuses (checks := [((permitStateOfCode? c).isNone, .badLength)]) (by rw [hcode]; rfl) h

/-- R36, R175: every request's service is refused by the first of its owner's checks that fails. -/
theorem serveRequest_refusedBy (l : Link) (s : State) (st : Status) (r : Request) : RefusedBy l s st r := by
  cases r with
  | setClock | alignClock | clearFreeze | writeTimings | allClear => exact fun h => checked_refuses rfl h
  | setMark m => exact setMark_refusedBy m
  | writeRoom b => exact writeRoom_refusedBy b
  | writeMap b => exact writeMap_refusedBy b
  | setFreeze b => exact setFreeze_refusedBy b
  | readRoom n => exact readRoom_refusedBy n
  | readDoor n => exact readDoor_refusedBy n
  | readStation n => exact readStation_refusedBy n
  | readOccupancy o => exact readOccupancy_refusedBy o
  | reconcileRoom n b => exact reconcileRoom_refusedBy n b
  | suspendFirm firm reason => exact suspendFirm_refusedBy firm reason
  | resumeFirm firm => exact resumeFirm_refusedBy firm
  | setAttentionMode m => exact setAttentionMode_refusedBy m
  | setCounter b => exact setCounter_refusedBy b
  | readCounter n => exact readCounter_refusedBy n
  | draftPermit b => exact draftPermit_refusedBy b
  | amendPermit b => exact amendPermit_refusedBy b
  | countersign n v => exact countersign_refusedBy n v
  | suspendPermit n reason => exact suspendPermit_refusedBy n reason
  | resumePermit n => exact resumePermit_refusedBy n
  | revokePermit n => exact finish_refuses
  | closePermit n => exact finish_refuses
  | purgePermit n => exact purgePermit_refusedBy n
  | readPermit p => exact readPermit_refusedBy p
  | listPermits i f n => exact listPermits_refusedBy i f n
  | readClock | lockConfiguration | readMap | readFreeze | readTimings | readSweep | takeNotice | setNoticeMask | readJournal
  | restart => exact fun h => nomatch h

end Sys2Proof.Machine

open Sys2Proof Sys2Proof.Machine Sys2Proof.Claims in
/-- Settles O22: the row is its request's service, at once or in its turn, which the first failing check answers. -/
theorem firstFailingCheckGivesTheReply : Obligations.FirstFailingCheckGivesTheReply := by
  intro i l r st s hi h hfail
  have hserve := serveRequest_refusedBy l s st r hfail
  refine ⟨fun hn => ?_, fun ht hn => ?_⟩
  · rw [exec_atOnce hi hn h, hserve, reply_handed h.2]
  · rw [exec_inTurn hi hn ⟨h, ht⟩, hserve, reply_handed h.2]
end

section
/-! What resolving a release as unused does to the register (O18): the presences resolved, each once and for all, and the rest as they
were. -/

namespace Sys2Proof.Machine

open Claims

/-! ### One presence -/

/-- R103: what a presence resolved as unused becomes. -/
def Presence.unused (p : Presence) : Option Presence :=
  if p.state = .arriving then none else if p.state = .leaving then some { p with state := .inside } else some p

/-- R103: a presence once resolved is not changed by a further resolution. -/
theorem Presence.unused_again (p : Presence) : p.unused.bind Presence.unused = p.unused := by
  unfold Presence.unused
  split
  · rfl
  · split
    · simp
    · next ha hl => simp [ha, hl]

theorem bind_unused_again (o : Option Presence) : (o.bind Presence.unused).bind Presence.unused = o.bind Presence.unused := by
  cases o with
  | none => rfl
  | some p => exact p.unused_again

theorem writeJournal_presence (b : JournalBody) (s : State) (k : PoolIx) : (writeJournal b s).presence k = s.presence k := by
  rw [writeJournal_frame]
  rfl

theorem writeJournal_roomState (b : JournalBody) (s : State) (r : RoomNo) : (writeJournal b s).roomState r = s.roomState r := by
  rw [writeJournal_frame]
  rfl

theorem post_presence (b : NoticeBody) (s : State) (k : PoolIx) : (post b s).presence k = s.presence k := by
  rw [post_frame]
  rfl

theorem post_roomState (b : NoticeBody) (s : State) (r : RoomNo) : (post b s).roomState r = s.roomState r := by
  rw [post_frame]
  rfl

/-- R99: a record freed. -/
theorem removePresence_presence (i k : PoolIx) (s : State) :
    (removePresence i s).presence k = if k = i then none else s.presence k := by
  unfold removePresence
  cases h : s.presence i with
  | none =>
    by_cases e : k = i
    · rw [if_pos e, e]
      exact h
    · rw [if_neg e]
  | some p =>
    by_cases e : k = i
    · subst e
      rw [if_pos rfl]
      exact State.setPresence_presence_same ..
    · rw [if_neg e]
      exact State.setPresence_presence_other _ _ _ (Ne.symm e)

/-- R100: a record freed leaves the others in their lists. -/
theorem removePresence_list {i k : PoolIx} (hk : k ≠ i) (s : State) (r : RoomNo) :
    k ∈ ((removePresence i s).roomState r).list ↔ k ∈ (s.roomState r).list := by
  unfold removePresence
  cases s.presence i with
  | none => rfl
  | some p =>
    by_cases e : p.room = r
    · subst e
      have hroom : ((uncarry [i] ((s.setPresence i none).setRoomState p.room
          { s.roomState p.room with list := (s.roomState p.room).list.erase i })).roomState p.room).list =
          (s.roomState p.room).list.erase i := congrArg RoomOccupancy.list (State.setRoomState_roomState_same ..)
      dsimp only
      rw [hroom]
      exact List.mem_erase_of_ne hk
    · exact Iff.of_eq (congrArg (fun o => k ∈ RoomOccupancy.list o) (State.setRoomState_roomState_other _ _ _ e))

theorem setPresenceState_presence (i k : PoolIx) (x : PresenceState) (s : State) : (setPresenceState i x s).presence k =
    if k = i then (s.presence i).map (fun p => { p with state := x }) else s.presence k := by
  unfold setPresenceState
  by_cases e : k = i
  · subst e
    rw [if_pos rfl]
    cases h : s.presence k with
    | none => exact h
    | some p => simp
  · rw [if_neg e]
    cases h : s.presence i with
    | none => rfl
    | some p => exact State.setPresence_presence_other _ _ _ (Ne.symm e)

theorem setPresenceState_roomState (i : PoolIx) (x : PresenceState) (s : State) (r : RoomNo) :
    (setPresenceState i x s).roomState r = s.roomState r := by
  unfold setPresenceState
  split <;> rfl

/-- R103: one presence resolved as unused. -/
theorem resolveUnused_presence (i k : PoolIx) (x : State × List Nat) :
    (resolveUnused i x).1.presence k = if k = i then (x.1.presence i).bind Presence.unused else x.1.presence k := by
  have hsame : ∀ o, x.1.presence i = o → x.1.presence k = if k = i then o else x.1.presence k := fun o h => by
    split
    · next e => rw [e, h]
    · rfl
  unfold resolveUnused
  cases h : x.1.presence i with
  | none => exact hsame none h
  | some p =>
    dsimp only
    cases hs : p.state with
    | arriving =>
      simp only [Option.bind_some, Presence.unused, hs, if_true]
      rw [writeJournal_presence, removePresence_presence]
    | leaving =>
      simp only [Option.bind_some, Presence.unused, hs, if_true, reduceCtorEq, if_false]
      rw [writeJournal_presence, setPresenceState_presence, h]
      rfl
    | inside | unverified =>
      simp only [Option.bind_some, Presence.unused, hs, reduceCtorEq, if_false]
      exact hsame _ h

/-- R100, R103: the others keep their places. -/
theorem resolveUnused_list {i k : PoolIx} (hk : k ≠ i) (x : State × List Nat) (r : RoomNo) :
    k ∈ ((resolveUnused i x).1.roomState r).list ↔ k ∈ (x.1.roomState r).list := by
  unfold resolveUnused
  cases h : x.1.presence i with
  | none => rfl
  | some p =>
    dsimp only
    cases hs : p.state with
    | arriving =>
      dsimp only
      rw [writeJournal_roomState]
      exact removePresence_list hk x.1 r
    | leaving =>
      dsimp only
      rw [writeJournal_roomState, setPresenceState_roomState]
    | inside | unverified => rfl

/-! ### One room -/

theorem resolveUnuseds_presence (is : List PoolIx) (k : PoolIx) (x : State × List Nat) :
    (is.foldl (fun x i => resolveUnused i x) x).1.presence k =
      if k ∈ is then (x.1.presence k).bind Presence.unused else x.1.presence k := by
  induction is generalizing x with
  | nil => simp
  | cons i is ih =>
    rw [List.foldl_cons, ih, resolveUnused_presence]
    by_cases e : k = i
    · subst e
      simp [bind_unused_again]
    · simp [e]

theorem resolveUnuseds_list {is : List PoolIx} {k : PoolIx} (hk : k ∉ is) (x : State × List Nat) (r : RoomNo) :
    k ∈ ((is.foldl (fun x i => resolveUnused i x) x).1.roomState r).list ↔ k ∈ (x.1.roomState r).list := by
  induction is generalizing x with
  | nil => rfl
  | cons i is ih =>
    obtain ⟨hi, his⟩ := not_or.mp (List.mem_cons.not.mp hk)
    rw [List.foldl_cons, ih his, resolveUnused_list hi]

theorem escortCheck_presence (r : RoomNo) (gone : List Nat) (s : State) (k : PoolIx) :
    (escortCheck r gone s).presence k = s.presence k := by
  unfold escortCheck
  dsimp only
  split
  · rfl
  · rw [writeJournal_presence, post_presence]
    split <;> rfl

theorem escortCheck_roomState (r : RoomNo) (gone : List Nat) (s : State) (q : RoomNo) :
    (escortCheck r gone s).roomState q = s.roomState q := by
  unfold escortCheck
  dsimp only
  split
  · rfl
  · rw [writeJournal_roomState, post_roomState]
    split <;> rfl

theorem reexamine_presence (r : RoomNo) (gone : List Nat) (s : State) (k : PoolIx) :
    (reexamine r gone s).presence k = s.presence k := escortCheck_presence r gone _ k

/-- R105: a re-examination changes no list. -/
theorem reexamine_list (r : RoomNo) (gone : List Nat) (s : State) (q : RoomNo) :
    ((reexamine r gone s).roomState q).list = (s.roomState q).list := by
  rw [reexamine, escortCheck_roomState]
  by_cases e : r = q
  · subst e
    rw [refreshRoom_refreshed, State.setRoomState_roomState_same]
    rfl
  · exact congrArg RoomOccupancy.list (State.setRoomState_roomState_other _ _ _ e)

/-- R103: those of a release in a room's list are resolved, all others stay. -/
theorem resolveRoom_presence (who : List PoolIx) (s : State) (r : RoomNo) (k : PoolIx) :
    (resolveRoom resolveUnused who s r).presence k =
      if k ∈ who ∧ k ∈ (s.roomState r).list then (s.presence k).bind Presence.unused else s.presence k := by
  rw [resolveRoom, reexamine_presence, resolveUnuseds_presence]
  simp [and_comm]

theorem resolveRoom_list {who : List PoolIx} {s : State} {r : RoomNo} {k : PoolIx} (hk : ¬ (k ∈ who ∧ k ∈ (s.roomState r).list))
    (q : RoomNo) : k ∈ ((resolveRoom resolveUnused who s r).roomState q).list ↔ k ∈ (s.roomState q).list := by
  rw [resolveRoom, reexamine_list]
  exact resolveUnuseds_list (by simpa [and_comm] using hk) (s, []) q

/-! ### A release -/

/-- The presence that a pool record held before stands there still, listed in its room. -/
def Pristine (k : PoolIx) (p : Presence) (s : State) : Prop := s.presence k = some p ∧ k ∈ (s.roomState p.room).list

theorem resolveRoom_resolved {who : List PoolIx} {k : PoolIx} {p : Presence} {s : State} (r : RoomNo)
    (h : s.presence k = p.unused) : (resolveRoom resolveUnused who s r).presence k = p.unused := by
  rw [resolveRoom_presence, h, p.unused_again, ite_self]

/-- R103: room by room a presence is resolved or still stands, and in its own room it is resolved. -/
theorem resolveRoom_pristine {who : List PoolIx} {k : PoolIx} {p : Presence} {s : State} (r : RoomNo) (hk : k ∈ who)
    (h : Pristine k p s) : (resolveRoom resolveUnused who s r).presence k = p.unused ∨
      (r ≠ p.room ∧ Pristine k p (resolveRoom resolveUnused who s r)) := by
  obtain ⟨hp, hlist⟩ := h
  by_cases hr : k ∈ (s.roomState r).list
  · left
    rw [resolveRoom_presence, if_pos ⟨hk, hr⟩, hp]
    rfl
  · refine .inr ⟨fun e => hr (e ▸ hlist), ?_, ?_⟩
    · rw [resolveRoom_presence, if_neg fun h => hr h.2, hp]
    · exact (resolveRoom_list (fun h => hr h.2) _).mpr hlist

theorem resolveRooms_resolved {who : List PoolIx} {k : PoolIx} {p : Presence} (rs : List RoomNo) {s : State}
    (h : s.presence k = p.unused) : (rs.foldl (resolveRoom resolveUnused who) s).presence k = p.unused := by
  induction rs generalizing s with
  | nil => exact h
  | cons r rs ih => exact ih (resolveRoom_resolved r h)

theorem resolveRooms_pristine {who : List PoolIx} {k : PoolIx} {p : Presence} (rs : List RoomNo) {s : State} (hk : k ∈ who)
    (hr : p.room ∈ rs) (h : Pristine k p s) : (rs.foldl (resolveRoom resolveUnused who) s).presence k = p.unused := by
  induction rs generalizing s with
  | nil => cases hr
  | cons r rs ih =>
    rcases resolveRoom_pristine r hk h with hdone | ⟨hne, hstill⟩
    · exact resolveRooms_resolved rs hdone
    · exact ih ((List.mem_cons.mp hr).resolve_left (Ne.symm hne)) hstill

/-- R103: a presence of the release, listed in its room, is resolved. -/
theorem resolve_presence_named {who : List PoolIx} {k : PoolIx} {p : Presence} {s : State} (hk : k ∈ who) (h : Pristine k p s) :
    (resolve resolveUnused who s).presence k = p.unused := by
  refine resolveRooms_pristine _ hk ?_ h
  rw [roomsOfPresences, List.mem_eraseDups, List.mem_map]
  exact ⟨p, List.mem_filterMap.mpr ⟨k, hk, h.1⟩, rfl⟩

theorem resolve_presence_other {who : List PoolIx} {k : PoolIx} (hk : k ∉ who) (s : State) :
    (resolve resolveUnused who s).presence k = s.presence k ∧
      ∀ r, k ∈ ((resolve resolveUnused who s).roomState r).list ↔ k ∈ (s.roomState r).list := by
  have h : (uncarry who s).presence k = s.presence k ∧ ∀ r, k ∈ ((uncarry who s).roomState r).list ↔ k ∈ (s.roomState r).list :=
    ⟨rfl, fun _ => Iff.rfl⟩
  unfold resolve
  generalize roomsOfPresences s who = rs
  generalize uncarry who s = t at h
  induction rs generalizing t with
  | nil => exact h
  | cons r rs ih =>
    refine ih _ ⟨?_, fun q => ?_⟩
    · rw [resolveRoom_presence, if_neg fun h => hk h.1, h.1]
    · rw [resolveRoom_list fun h => hk h.1]
      exact h.2 q

end Sys2Proof.Machine
end

section
/-! One address's change of case in a WRITE MAP's turn (O18): what becomes of its station, and of the presences its release carried. -/

namespace Sys2Proof.Machine

open Claims

/-! ### The frame of a WRITE MAP's effects -/

/-- What the effects of a WRITE MAP leave as it was, whatever becomes of stations, doors, holds and presences. -/
structure MapFrame (s t : State) : Prop where
  kept : Kept s { t with passKept := s.passKept }
  turn : t.turn = s.turn
  lastServed : t.lastServed = s.lastServed
  counters : t.counters = s.counters
  port : ∀ l, ∃ b, t.port l = { s.port l with attention := b }

theorem MapFrame.refl (s : State) : MapFrame s s := ⟨Kept.refl s, rfl, rfl, rfl, fun l => ⟨(s.port l).attention, rfl⟩⟩

theorem MapFrame.trans {s t u : State} (h : MapFrame s t) (k : MapFrame t u) : MapFrame s u where
  kept := { h.kept.trans (u := { u with passKept := s.passKept }) { k.kept with passKept := rfl } with }
  turn := k.turn.trans h.turn
  lastServed := k.lastServed.trans h.lastServed
  counters := k.counters.trans h.counters
  port := fun l => by
    obtain ⟨b, hb⟩ := h.port l
    obtain ⟨c, hc⟩ := k.port l
    exact ⟨c, by rw [hc, hb]⟩

theorem Uncarried.mapFrame {w : List PoolIx} {s t : State} (h : Uncarried w s t) : MapFrame s t :=
  ⟨{ h.kept with passKept := rfl }, h.turn, h.lastServed, h.counters, h.port⟩

/-! ### Presences resolved -/

/-- R103: the presences named are resolved as unused where they stood, and all others are as they were. -/
structure Resolved (who : List PoolIx) (s t : State) : Prop where
  presence : ∀ k, k ∉ who → t.presence k = s.presence k
  list : ∀ k, k ∉ who → ∀ r, k ∈ (t.roomState r).list ↔ k ∈ (s.roomState r).list
  named : ∀ k ∈ who, ∀ p, Pristine k p s → t.presence k = p.unused

theorem Resolved.of_same {s t : State} (hp : t.pool = s.pool) (ho : t.occupancy = s.occupancy) : Resolved [] s t :=
  ⟨fun k _ => by simp only [State.presence, hp], fun k _ r => by simp only [State.roomState, ho], by simp⟩

/-- R103: two resolutions that share no presence. -/
theorem Resolved.trans {v w : List PoolIx} {s t u : State} (h : Resolved v s t) (k : Resolved w t u) (hd : ∀ i ∈ w, i ∉ v) :
    Resolved (v ++ w) s u where
  presence := fun i hi => by
    obtain ⟨hv, hw⟩ := not_or.mp (List.mem_append.not.mp hi)
    rw [k.presence i hw, h.presence i hv]
  list := fun i hi r => by
    obtain ⟨hv, hw⟩ := not_or.mp (List.mem_append.not.mp hi)
    rw [k.list i hw r, h.list i hv r]
  named := fun i hi p hp => by
    by_cases hw : i ∈ w
    · exact k.named i hw p ⟨(h.presence i (hd i hw)).trans hp.1, (h.list i (hd i hw) p.room).mpr hp.2⟩
    · rw [k.presence i hw]
      exact h.named i ((List.mem_append.mp hi).resolve_right hw) p hp

theorem resolve_resolved (who : List PoolIx) (s : State) : Resolved who s (resolve resolveUnused who s) :=
  ⟨fun _ hk => (resolve_presence_other hk s).1, fun _ hk => (resolve_presence_other hk s).2,
    fun _ hk _ hp => resolve_presence_named hk hp⟩

/-- R103, R121: a command lost in a turn of its own has the presences it carried resolved. -/
theorem loseCommand_own (x : Station) (s : State) :
    Uncarried (carriedOn x) s (loseCommand true x.decision s) ∧ Resolved (carriedOn x) s (loseCommand true x.decision s) := by
  unfold loseCommand carriedOn
  rcases x.decision with _ | ⟨seconds, minutes, _ | ⟨i, is⟩⟩ | _ | why
  case some.release.cons => exact ⟨resolveUnused_all_uncarried _ s, resolve_resolved _ s⟩
  all_goals exact ⟨Uncarried.refl s, .of_same rfl rfl⟩

/-! ### One station changed -/

/-- One address's station becomes `x`, the presences named are resolved and carried no more, and the frame stands. -/
structure AtAddress (a : LoopAddr) (x : Station) (who : List PoolIx) (s t : State) : Prop where
  frame : MapFrame s t
  passKept : t.passKept = s.passKept
  hold : ∀ r, t.hold r = s.hold r
  door : ∀ r, t.door r = (s.door r).without who
  held : HeldWithout who s t
  register : Resolved who s t
  here : t.station a = x
  station : ∀ b, b ≠ a → t.station b = (s.station b).without who

namespace AtAddress

variable {a : LoopAddr} {x : Station} {who : List PoolIx} {s t u : State}

theorem refl (a : LoopAddr) (s : State) : AtAddress a (s.station a) [] s s :=
  ⟨.refl s, rfl, fun _ => rfl, fun _ => by simp, .of_same rfl, .of_same rfl rfl, rfl, fun _ _ => by simp⟩

/-- The station changed again, with the read queue or the POLL that is out. -/
theorem then_set (h : AtAddress a x who s t) (y : Station) (q : List Read) (p : Option OutstandingPoll) :
    AtAddress a y who s { t.setStation a y with readQueue := q, polling := p } :=
  { h with
    frame := { h.frame with kept := { h.frame.kept with } }
    held := h.held
    register := ⟨h.register.presence, h.register.list, h.register.named⟩
    here := State.setStation_station_same ..
    station := fun b hb => (State.setStation_station_other _ _ _ (Ne.symm hb)).trans (h.station b hb) }

/-- R103: then the presences of a release resolved. -/
theorem then_resolved (h : AtAddress a x [] s t) (hu : Uncarried who t u) (hr : Resolved who t u) :
    AtAddress a (x.without who) who s u where
  frame := h.frame.trans hu.mapFrame
  passKept := hu.kept.passKept.trans h.passKept
  hold := fun r => (hu.hold r).trans (h.hold r)
  door := fun r => by rw [hu.door, h.door, Door.without_nil]
  held := by simpa using h.held.trans hu.held
  register := by simpa using h.register.trans hr (by simp)
  here := by rw [hu.station, h.here]
  station := fun b hb => by rw [hu.station, h.station b hb, Station.without_nil]

end AtAddress

/-! ### The station's commands and its read -/

theorem loseCarried_frame (a : LoopAddr) (c : Carried) (s : State) :
    loseCarried a c s = { s with polling := (loseCarried a c s).polling } := by
  unfold loseCarried
  split
  · split <;> rfl
  · rfl

/-- R120: in a request's turn a station's read is cleared and leaves the queue. -/
theorem clearRead_inRequest {a : LoopAddr} {l : Link} {s : State} (h : s.turn.map Turn.user = some (.request l)) :
    ∃ q, clearRead a s = { s.setStation a { s.station a with read := none } with readQueue := q } := by
  have hread : (s.station a).read = none → s.setStation a { s.station a with read := none } = s := fun hr => by
    rw [← hr]
    exact (congrArg (fun m => { s with stations := m }) (put_look s.stations a))
  unfold clearRead
  dsimp only
  split
  · next hr => exact ⟨s.readQueue, by rw [hread hr]⟩
  · exact ⟨s.readQueue, rfl⟩
  · split
    · next ht => simp [ht] at h
    · exact ⟨_, rfl⟩

/-- R23, R121: a station loses its commands and its read, and its release is resolved. -/
theorem discardAll_at {a : LoopAddr} {l : Link} {s : State} (h : s.turn.map Turn.user = some (.request l)) :
    AtAddress a { s.station a with decision := none, mode := none, read := none } (carriedOn (s.station a)) s (discardAll a s) := by
  obtain ⟨q, hq⟩ := clearRead_inRequest (a := a) h
  have hcleared := (AtAddress.refl a s).then_set { s.station a with read := none } q s.polling
  change AtAddress a _ [] s { s.setStation a { s.station a with read := none } with readQueue := q } at hcleared
  rw [← hq] at hcleared
  unfold discardAll discardDecision
  generalize clearRead a s = t at hcleared
  have hcarried := loseCarried_frame a .decision (t.setStation a { t.station a with decision := none })
  generalize (loseCarried a .decision (t.setStation a { t.station a with decision := none })).polling = p at hcarried
  have hbare := hcleared.then_set { s.station a with decision := none, read := none } t.readQueue p
  rw [hcleared.here] at hcarried ⊢
  dsimp only at hcarried ⊢
  rw [hcarried]
  obtain ⟨hu, hr⟩ := loseCommand_own (s.station a) { t.setStation a { s.station a with decision := none, read := none } with polling := p }
  have hlost := hbare.then_resolved hu hr
  rw [Station.without_of_none rfl] at hlost
  rw [loseCarried_frame]
  generalize loseCommand true _ _ = u at hlost ⊢
  rw [hlost.here]
  exact hlost.then_set _ u.readQueue _

/-! ### The change of case -/

/-- R23, R103: the release pending at an address comes to nothing. -/
def WithdrawnCase (before after : MapOutcome) : Prop :=
  (after ≠ before ∧ (after = .unpolled ∨ after = .conflict)) ∨
    (before.room? ≠ none ∧ after.room? ≠ none ∧ after.room? ≠ before.room?)

/-- R23: what a change of case makes of a station. -/
def movedStation (before after : MapOutcome) (x : Station) : Station :=
  if before = after then x
  else
    match before, after with
    | _, .unpolled => stripped x .unknown
    | _, .conflict => stripped x .conflict
    | .mapped _ _, .mapped _ _ => x
    | _, .mapped _ _ => { x with state := .unknown, misses := 0 }

theorem movedStation_without (before after : MapOutcome) (who : List PoolIx) (x : Station) :
    (movedStation before after x).without who = movedStation before after (x.without who) := by
  unfold movedStation
  split
  · rfl
  · cases before <;> cases after <;> rfl

/-- R23: an address that ceases to be polled, with a POLL of this pass already past it or still to come. -/
def LeavesPass (before after : MapOutcome) (a : LoopAddr) (s : State) : Prop :=
  before ≠ after ∧ after = .unpolled ∧ ∃ b, s.lastPolled = some b ∧ b < a

/-- R23: one address's change of case, with the presences of its release. -/
structure AddressMoved (before after : MapOutcome) (a : LoopAddr) (who : List PoolIx) (s t : State) : Prop where
  frame : MapFrame s t
  hold : ∀ r, t.hold r = s.hold r
  door : ∀ r, t.door r = (s.door r).without who
  held : HeldWithout who s t
  register : Resolved who s t
  here : t.station a = movedStation before after ((s.station a).without who)
  station : ∀ b, b ≠ a → t.station b = (s.station b).without who
  passKept : ∀ b, b ∈ t.passKept ↔ b ∈ s.passKept ∨ (b = a ∧ LeavesPass before after a s)
  withdrawn : WithdrawnCase before after → who = carriedOn (s.station a)
  still : ¬ WithdrawnCase before after → who = []

theorem AtAddress.moved {before after : MapOutcome} {a : LoopAddr} {x : Station} {who : List PoolIx} {s t : State}
    (h : AtAddress a x who s t) (hx : x = movedStation before after ((s.station a).without who))
    (hafter : before ≠ after → after ≠ .unpolled) (hw : WithdrawnCase before after → who = carriedOn (s.station a))
    (hs : ¬ WithdrawnCase before after → who = []) : AddressMoved before after a who s t :=
  { h with
    here := h.here.trans hx
    passKept := fun b => by
      rw [h.passKept]
      exact ⟨.inl, fun hb => hb.elim id fun ⟨_, hne, hun, _⟩ => absurd hun (hafter hne)⟩
    withdrawn := hw
    still := hs }

/-- R23: an address that ceases to be polled stays in the order of the pass where it lies ahead. -/
theorem leaveOrder_moved {before : MapOutcome} {a : LoopAddr} {x : Station} {who : List PoolIx} {s t : State}
    (h : AtAddress a x who s t) (hx : x = movedStation before .unpolled ((s.station a).without who)) (hne : before ≠ .unpolled)
    (hw : who = carriedOn (s.station a)) : AddressMoved before .unpolled a who s (leaveOrder a t) := by
  have hwithdrawn : WithdrawnCase before .unpolled := .inl ⟨Ne.symm hne, .inl rfl⟩
  have hahead : (t.lastPolled.any fun b => decide (b < a)) = true ↔ ∃ b, s.lastPolled = some b ∧ b < a := by
    rw [show t.lastPolled = s.lastPolled from h.frame.kept.lastPolled]
    cases s.lastPolled <;> simp
  unfold leaveOrder
  split
  · next hb =>
    exact { h with
      frame := { h.frame with kept := { h.frame.kept with } }
      register := ⟨h.register.presence, h.register.list, h.register.named⟩
      here := h.here.trans hx
      passKept := fun b => by
        show b ∈ a :: t.passKept ↔ _
        rw [List.mem_cons, h.passKept, or_comm]
        exact or_congr_right ⟨fun e => ⟨e, hne, rfl, hahead.mp hb⟩, fun hb => hb.1⟩
      withdrawn := fun _ => hw
      still := fun hno => absurd hwithdrawn hno }
  · next hb =>
    exact { h with
      here := h.here.trans hx
      passKept := fun b => by
        rw [h.passKept]
        exact ⟨.inl, fun hor => hor.elim id fun ⟨_, _, _, hlt⟩ => absurd (hahead.mpr hlt) hb⟩
      withdrawn := fun _ => hw
      still := fun hno => absurd hwithdrawn hno }

theorem AtAddress.restated {a : LoopAddr} {x : Station} {who : List PoolIx} {s t : State} (h : AtAddress a x who s t)
    (st : StationState) : AtAddress a { x with state := st, misses := 0 } who s (restation a st t) := by
  have k := h.then_set { x with state := st, misses := 0 } t.readQueue t.polling
  rw [restation, h.here]
  exact k

/-- R23, R121: an address's change of case, in a request's turn. -/
theorem addressChanges_moved (before after : MapOutcome) (a : LoopAddr) {l : Link} {s : State}
    (h : s.turn.map Turn.user = some (.request l)) : ∃ who, AddressMoved before after a who s (addressChanges before after a s) := by
  have hstrip : ∀ st, AtAddress a (stripped (s.station a) st) (carriedOn (s.station a)) s (restation a st (discardAll a s)) :=
    fun st => (discardAll_at h).restated st
  have hbare : ∀ w st, stripped ((s.station a).without w) st = stripped (s.station a) st := fun _ _ => rfl
  unfold addressChanges
  split
  · next e =>
    subst e
    have hno : ¬ WithdrawnCase before before := by simp [WithdrawnCase]
    exact ⟨[], (AtAddress.refl a s).moved (by simp [movedStation]) (fun hne => absurd rfl hne) (fun hw => absurd hw hno) fun _ => rfl⟩
  · next hne =>
    have hfresh : ∀ r k, before.room? = none →
        AddressMoved before (.mapped r k) a [] s (restation a .unknown s) := fun r k hb =>
      ((AtAddress.refl a s).restated .unknown).moved
        (by cases before <;> simp_all [movedStation, MapOutcome.room?]) (fun _ => by simp)
        (fun hw => by simp [WithdrawnCase, hb] at hw) fun _ => rfl
    split
    · exact ⟨_, leaveOrder_moved (hstrip .unknown) (by simp [movedStation, hne, hbare]) hne rfl⟩
    · refine ⟨_, (hstrip .conflict).moved (by cases before <;> simp_all [movedStation]) (fun _ => by simp) (fun _ => rfl)
        fun hno => absurd (.inl ⟨Ne.symm hne, .inr rfl⟩) hno⟩
    · exact ⟨[], hfresh _ _ rfl⟩
    · exact ⟨[], hfresh _ _ rfl⟩
    · next r i q j =>
      by_cases e : r = q
      · rw [if_pos e]
        have hno : ¬ WithdrawnCase (.mapped r i) (.mapped q j) := by simp [WithdrawnCase, MapOutcome.room?, e]
        exact ⟨[], (AtAddress.refl a s).moved (by simp [movedStation]) (fun _ => by simp) (fun hw => absurd hw hno) fun _ => rfl⟩
      · rw [if_neg e]
        have hyes : WithdrawnCase (.mapped r i) (.mapped q j) := .inr (by simp [MapOutcome.room?, Ne.symm e])
        obtain ⟨hu, hr⟩ := loseCommand_own (s.station a) s
        exact ⟨_, ((AtAddress.refl a s).then_resolved hu hr).moved (by simp [movedStation]) (fun _ => by simp) (fun _ => rfl)
          fun hno => absurd hyes hno⟩

end Sys2Proof.Machine
end

section
/-! All the addresses of a WRITE MAP (O18): each one's change of case, and the rooms that lose their entry stations, one after another. -/

namespace Sys2Proof.Machine

open Claims

/-! ### What is held, and what runs -/

/-- R125, R126: who is on a running release after some have ceased to be carried. -/
theorem HeldWithout.tiesAt {who : List PoolIx} {s t : State} (h : HeldWithout who s t) (r : RoomNo) (k : PoolIx) :
    k ∈ t.heldEffects.flatMap (·.tiesAt r) ↔ k ∈ s.heldEffects.flatMap (·.tiesAt r) ∧ k ∉ who := by
  obtain ⟨new, hnew, ht⟩ := h
  have hfresh : ∀ e ∈ new, e.tiesAt r = [] := fun e he => by
    obtain ⟨w, rfl⟩ := hnew e he
    rfl
  have hwithout : ∀ e : PresenceEffect, k ∈ (e.without who).tiesAt r ↔ k ∈ e.tiesAt r ∧ k ∉ who := fun e => by
    cases e with
    | tie q l =>
      simp only [PresenceEffect.without, PresenceEffect.tiesAt]
      split <;> simp
    | opened | unused | drop => simp [PresenceEffect.without, PresenceEffect.tiesAt]
  simp only [ht, List.mem_flatMap, List.mem_append, List.mem_map]
  constructor
  · rintro ⟨e, ⟨f, hf, rfl⟩ | he, hk⟩
    · exact ⟨⟨f, hf, ((hwithout f).mp hk).1⟩, ((hwithout f).mp hk).2⟩
    · simp [hfresh e he] at hk
  · rintro ⟨⟨e, he, hk⟩, hno⟩
    exact ⟨_, .inl ⟨e, he, rfl⟩, (hwithout e).mpr ⟨hk, hno⟩⟩

/-- R104: a presence whose resolution as unused is held. -/
def HandedOver (k : PoolIx) (s : State) : Prop := ∃ who, k ∈ who ∧ PresenceEffect.unused who ∈ s.heldEffects

/-- R104: a held resolution keeps the presences that go on being carried. -/
theorem HeldWithout.handedOver {who : List PoolIx} {s t : State} (h : HeldWithout who s t) {k : PoolIx} (hk : k ∉ who)
    (hs : HandedOver k s) : HandedOver k t := by
  obtain ⟨new, -, ht⟩ := h
  obtain ⟨w, hw, he⟩ := hs
  refine ⟨w.filter (· ∉ who), by simp [hw, hk], ?_⟩
  rw [ht]
  exact List.mem_append_left new (List.mem_map.mpr ⟨_, he, rfl⟩)

/-- R125, R126: the statement's running release. -/
theorem running_eq (s : State) (r : RoomNo) : running s r = onRelease s r := by
  unfold running onRelease
  congr 2

/-! ### A room that loses its entry station in a turn -/

/-- R104, R130: in a turn the presences on a running release are handed over with their resolution held. -/
theorem handOver_inTurn {r : RoomNo} {s : State} (ht : s.turn ≠ none) (h : onRelease s r ≠ []) :
    handOver .unused r s = { uncarry (onRelease s r) s with
      heldEffects := (uncarry (onRelease s r) s).heldEffects ++ [.unused (onRelease s r)] } := by
  rw [handOver_some _ _ _ h]
  exact reportEffect_held _ _ h (.inl ht)

/-- What a lost entry station hands over in a turn, and that the register stands. -/
structure LostInTurn (r : RoomNo) (s t : State) : Prop where
  pool : t.pool = s.pool
  occupancy : t.occupancy = s.occupancy
  handed : (s.door r).state ≠ .evacuation → ∀ k ∈ onRelease s r, HandedOver k t

theorem cancelHold_register (a : Option LoopAddr) (why : Option Reason) (s : State) (r : RoomNo) :
    (cancelHold a why s r).pool = s.pool ∧ (cancelHold a why s r).occupancy = s.occupancy ∧
      (cancelHold a why s r).heldEffects = s.heldEffects := by
  unfold cancelHold
  split
  · exact ⟨rfl, rfl, rfl⟩
  · rw [holdRecord, writeJournal_frame]
    exact ⟨rfl, rfl, rfl⟩

theorem loseEntryStation_inTurn (a : LoopAddr) (r : RoomNo) {s : State} (ht : s.turn ≠ none) :
    LostInTurn r s (loseEntryStation a r s) := by
  obtain ⟨hpool, hoccupancy, hheld⟩ := cancelHold_register (some a) none (loseDoor r s) r
  by_cases he : (s.door r).state = .evacuation
  · rw [loseDoor_evacuation he] at hpool hoccupancy
    exact ⟨by rw [loseEntryStation, loseDoor_evacuation he]; exact hpool,
      by rw [loseEntryStation, loseDoor_evacuation he]; exact hoccupancy, fun hne => absurd he hne⟩
  · by_cases hn : onRelease s r = []
    · have hdoor : loseDoor r s = s.setDoor r (s.door r).lost := by
        rw [loseDoor_other he]
        exact handOver_nobody _ _ _ (by rw [onRelease_setDoor_lost, hn])
      rw [hdoor] at hpool hoccupancy
      exact ⟨by rw [loseEntryStation, hdoor]; exact hpool, by rw [loseEntryStation, hdoor]; exact hoccupancy,
        fun _ k hk => by simp [hn] at hk⟩
    · have hdoor := handOver_inTurn (r := r) (s := s.setDoor r (s.door r).lost) ht (by rwa [onRelease_setDoor_lost])
      rw [← loseDoor_other he, onRelease_setDoor_lost] at hdoor
      refine ⟨hpool.trans (by rw [hdoor]; rfl), hoccupancy.trans (by rw [hdoor]; rfl), fun _ k hk => ⟨_, hk, ?_⟩⟩
      show _ ∈ (cancelHold (some a) none (loseDoor r s) r).heldEffects
      rw [hheld, hdoor]
      simp

/-- R92, R130: what a room that loses its entry station in a turn leaves, with the presences `c` of its running release handed over. -/
structure EntryTaken (r : RoomNo) (c : List PoolIx) (s t : State) : Prop where
  frame : MapFrame s t
  passKept : t.passKept = s.passKept
  held : HeldWithout c s t
  register : Resolved [] s t
  station : ∀ a, t.station a = (s.station a).without c
  hold : t.hold r = none
  holdOther : ∀ q, q ≠ r → t.hold q = s.hold q
  door : (s.door r).state ≠ .evacuation → t.door r = { (s.door r).lost with tied := [] }
  doorEvacuation : (s.door r).state = .evacuation → t.door r = (s.door r).without c
  doorOther : ∀ q, q ≠ r → t.door q = (s.door q).without c
  running : ∀ k ∈ c, k ∈ onRelease s r
  handed : ∀ k ∈ c, HandedOver k t
  tied : (s.door r).state ≠ .evacuation → ∀ k ∈ (s.door r).tied, k ∈ c

theorem loseEntryStation_taken (a : LoopAddr) (r : RoomNo) {s : State} (ht : s.turn ≠ none) :
    ∃ c, EntryTaken r c s (loseEntryStation a r s) := by
  have hin := loseEntryStation_inTurn a r ht
  by_cases he : (s.door r).state = .evacuation
  · have k := loseEntryStation_evacuation a r s he
    exact ⟨[], {
      frame := ⟨{ (setHold_kept r none s).trans k.kept with passKept := rfl }, k.turn, k.lastServed, k.counters, k.port⟩
      passKept := k.kept.passKept
      held := k.held
      register := .of_same hin.pool hin.occupancy
      station := k.station
      hold := by simp [k.hold]
      holdOther := fun q hq => by simp [k.hold, Ne.symm hq]
      door := fun hne => absurd he hne
      doorEvacuation := fun _ => k.door r
      doorOther := fun q _ => k.door q
      running := by simp
      handed := by simp
      tied := fun hne => absurd he hne }⟩
  · have k := loseEntryStation_uncarried a r s he
    have htied : (s.door r).tied.filter (· ∉ onRelease s r) = [] :=
      List.filter_eq_nil_iff.mpr fun i hi => by simp [onRelease, hi]
    exact ⟨onRelease s r, {
      frame := ⟨{ ((setDoor_kept r _ s).trans (setHold_kept r none _)).trans k.kept with passKept := rfl },
        k.turn, k.lastServed, k.counters, k.port⟩
      passKept := k.kept.passKept
      held := k.held
      register := .of_same hin.pool hin.occupancy
      station := k.station
      hold := by simp [k.hold]
      holdOther := fun q hq => by simp [k.hold, Ne.symm hq]
      door := fun _ => by
        rw [k.door, State.setHold_door, State.setDoor_door_same]
        exact congrArg (fun l => ({ (s.door r).lost with tied := l } : Door)) htied
      doorEvacuation := fun h => absurd h he
      doorOther := fun q hq => by
        rw [k.door, State.setHold_door, State.setDoor_door_other _ _ _ (Ne.symm hq)]
      running := fun _ hk => hk
      handed := hin.handed he
      tied := fun _ _ hk => List.mem_append_left _ hk }⟩

/-! ### The addresses dealt with -/

/-- R23: an address whose change of case takes a room's entry station. -/
def LosesEntry (before after : MapOutcome) (a : LoopAddr) (r : RoomNo) : Prop :=
  isEntry a = true ∧ before.room? = some r ∧ after.room? ≠ some r

/-- R23: some address dealt with took a room's entry station. -/
def LostAmong (before after : LoopAddr → MapOutcome) (ls : List LoopAddr) (r : RoomNo) : Prop :=
  ∃ a ∈ ls, LosesEntry (before a) (after a) a r

/-- What a WRITE MAP has done once the stations of `as` and the entry stations of `ls` are dealt with: the presences `w` are carried no
more, and those of them in `v` are resolved. -/
structure MapMoved (before after : LoopAddr → MapOutcome) (as ls : List LoopAddr) (w v : List PoolIx) (s t : State) : Prop where
  frame : MapFrame s t
  held : HeldWithout w s t
  register : Resolved v s t
  moved : ∀ a ∈ as, t.station a = movedStation (before a) (after a) ((s.station a).without w)
  unmoved : ∀ a, a ∉ as → t.station a = (s.station a).without w
  holdLost : ∀ r, LostAmong before after ls r → t.hold r = none
  holdKept : ∀ r, ¬ LostAmong before after ls r → t.hold r = s.hold r
  doorLost : ∀ r, LostAmong before after ls r → (s.door r).state ≠ .evacuation → t.door r = { (s.door r).lost with tied := [] }
  doorKept : ∀ r, ¬ LostAmong before after ls r ∨ (s.door r).state = .evacuation → t.door r = (s.door r).without w
  passKept : ∀ a, a ∈ t.passKept ↔ a ∈ s.passKept ∨ (a ∈ as ∧ LeavesPass (before a) (after a) a s)
  resolved : ∀ k ∈ v, k ∈ w ∧ ∃ a ∈ as, WithdrawnCase (before a) (after a) ∧ k ∈ carriedOn (s.station a)
  handed : ∀ k ∈ w, k ∉ v → HandedOver k t ∧ ∃ r, LostAmong before after ls r ∧ k ∈ onRelease s r
  withdrawn : ∀ a ∈ as, WithdrawnCase (before a) (after a) → ∀ k ∈ carriedOn (s.station a), k ∈ w
  untied : ∀ r, LostAmong before after ls r → (s.door r).state ≠ .evacuation → ∀ k ∈ (s.door r).tied, k ∈ w

variable {before after : LoopAddr → MapOutcome} {as ls : List LoopAddr} {w v : List PoolIx} {s t u : State}

theorem MapMoved.start (before after : LoopAddr → MapOutcome) (s : State) : MapMoved before after [] [] [] [] s s where
  frame := .refl s
  held := .of_same rfl
  register := .of_same rfl rfl
  moved := by simp
  unmoved := by simp
  holdLost := fun r h => by simp [LostAmong] at h
  holdKept := fun _ _ => rfl
  doorLost := fun r h => by simp [LostAmong] at h
  doorKept := by simp
  passKept := by simp
  resolved := by simp
  handed := by simp
  withdrawn := by simp
  untied := fun r h => by simp [LostAmong] at h

theorem carriedOn_without (x : Station) (who : List PoolIx) (k : PoolIx) :
    k ∈ carriedOn (x.without who) ↔ k ∈ carriedOn x ∧ k ∉ who := by
  cases h : x.decision with
  | none => simp [carriedOn, Station.without, h]
  | some c => cases c <;> simp [carriedOn, Station.without, DecisionCommand.without, h]

theorem Door.without_lost (d : Door) (who : List PoolIx) :
    ({ d.lost with tied := [] } : Door).without who = { d.lost with tied := [] } := rfl

/-- R23: the next address's station dealt with. -/
theorem MapMoved.then_address {a : LoopAddr} {c : List PoolIx} (h : MapMoved before after as ls w v s t) (ha : a ∉ as)
    (k : AddressMoved (before a) (after a) a c t u) : MapMoved before after (a :: as) ls (w ++ c) (v ++ c) s u := by
  have hcarried : ∀ i ∈ c, WithdrawnCase (before a) (after a) ∧ i ∈ carriedOn (s.station a) ∧ i ∉ w := fun i hi => by
    by_cases hw : WithdrawnCase (before a) (after a)
    · rw [k.withdrawn hw, h.unmoved a ha, carriedOn_without] at hi
      exact ⟨hw, hi⟩
    · simp [k.still hw] at hi
  exact {
    frame := h.frame.trans k.frame
    held := h.held.trans k.held
    register := h.register.trans k.register fun i hi hv => (hcarried i hi).2.2 (h.resolved i hv).1
    moved := fun b hb => by
      by_cases e : b = a
      · subst e
        rw [k.here, h.unmoved b ha, Station.without_without]
      · rw [k.station b e, h.moved b ((List.mem_cons.mp hb).resolve_left e), movedStation_without, Station.without_without]
    unmoved := fun b hb => by
      obtain ⟨hne, hno⟩ := not_or.mp (List.mem_cons.not.mp hb)
      rw [k.station b hne, h.unmoved b hno, Station.without_without]
    holdLost := fun r hr => (k.hold r).trans (h.holdLost r hr)
    holdKept := fun r hr => (k.hold r).trans (h.holdKept r hr)
    doorLost := fun r hr he => by rw [k.door, h.doorLost r hr he, Door.without_lost]
    doorKept := fun r hr => by rw [k.door, h.doorKept r hr, Door.without_without]
    passKept := fun b => by
      have hpolled : t.lastPolled = s.lastPolled := h.frame.kept.lastPolled
      rw [k.passKept, h.passKept, List.mem_cons, or_assoc]
      refine or_congr_right ⟨?_, ?_⟩
      · rintro (⟨hb, hl⟩ | ⟨rfl, hl⟩)
        · exact ⟨.inr hb, hl⟩
        · exact ⟨.inl rfl, by rwa [LeavesPass, hpolled] at hl⟩
      · rintro ⟨rfl | hb, hl⟩
        · exact .inr ⟨rfl, by rwa [LeavesPass, hpolled]⟩
        · exact .inl ⟨hb, hl⟩
    resolved := fun i hi => by
      rcases List.mem_append.mp hi with hi | hi
      · obtain ⟨hw, b, hb, hcase⟩ := h.resolved i hi
        exact ⟨List.mem_append_left c hw, b, List.mem_cons_of_mem a hb, hcase⟩
      · exact ⟨List.mem_append_right w hi, a, List.mem_cons_self, (hcarried i hi).1, (hcarried i hi).2.1⟩
    handed := fun i hi hv => by
      obtain ⟨hnv, hnc⟩ := not_or.mp (List.mem_append.not.mp hv)
      obtain ⟨hh, hr⟩ := h.handed i ((List.mem_append.mp hi).resolve_right hnc) hnv
      exact ⟨k.held.handedOver hnc hh, hr⟩
    withdrawn := fun b hb hcase i hi => by
      rcases List.mem_cons.mp hb with rfl | hb
      · by_cases hw : i ∈ w
        · exact List.mem_append_left c hw
        · refine List.mem_append_right w ?_
          rw [k.withdrawn hcase, h.unmoved b ha, carriedOn_without]
          exact ⟨hi, hw⟩
      · exact List.mem_append_left c (h.withdrawn b hb hcase i hi)
    untied := fun r hr he i hi => List.mem_append_left c (h.untied r hr he i hi) }

/-- R23: an address that takes no room's entry station. -/
theorem MapMoved.then_noEntry {a : LoopAddr} (h : MapMoved before after as ls w v s t)
    (hno : ∀ r, ¬ LosesEntry (before a) (after a) a r) : MapMoved before after as (a :: ls) w v s t := by
  have hlost : ∀ r, LostAmong before after (a :: ls) r ↔ LostAmong before after ls r := fun r => by
    simp [LostAmong, hno r]
  exact { h with
    holdLost := fun r hr => h.holdLost r ((hlost r).mp hr)
    holdKept := fun r hr => h.holdKept r ((hlost r).not.mp hr)
    doorLost := fun r hr => h.doorLost r ((hlost r).mp hr)
    doorKept := fun r hr => h.doorKept r (hr.imp (hlost r).not.mp id)
    handed := fun i hi hv => by simpa only [hlost] using h.handed i hi hv
    untied := fun r hr => h.untied r ((hlost r).mp hr) }

/-- R125: who is on a running release is on it from the start. -/
theorem MapMoved.running (h : MapMoved before after as ls w v s t) (r : RoomNo) {k : PoolIx} (hk : k ∈ onRelease t r) :
    k ∈ onRelease s r ∧ k ∉ w := by
  rcases List.mem_append.mp hk with hk | hk
  · by_cases hr : LostAmong before after ls r ∧ (s.door r).state ≠ .evacuation
    · simp [h.doorLost r hr.1 hr.2] at hk
    · rw [h.doorKept r (by tauto)] at hk
      obtain ⟨hk, hno⟩ : k ∈ (s.door r).tied ∧ k ∉ w := by simpa [Door.without] using hk
      exact ⟨List.mem_append_left _ hk, hno⟩
  · obtain ⟨hk, hno⟩ := (h.held.tiesAt r k).mp hk
    exact ⟨List.mem_append_right _ hk, hno⟩

/-- R130: the door of a room not lost before stands in EVACUATION just where it did. -/
theorem MapMoved.door_evacuation (h : MapMoved before after as ls w v s t) (r : RoomNo) :
    (t.door r).state = .evacuation ↔ (s.door r).state = .evacuation := by
  by_cases hr : LostAmong before after ls r ∧ (s.door r).state ≠ .evacuation
  · simp [h.doorLost r hr.1 hr.2, Door.lost, hr.2]
  · rw [h.doorKept r (by tauto)]
    rfl

/-- R92, R130: a room whose entry station is taken. -/
theorem MapMoved.then_entry {a : LoopAddr} {r : RoomNo} {c : List PoolIx} (h : MapMoved before after as ls w v s t)
    (hr : LosesEntry (before a) (after a) a r) (k : EntryTaken r c t u) :
    MapMoved before after as (a :: ls) (w ++ c) v s u := by
  have hlost : ∀ q, LostAmong before after (a :: ls) q ↔ q = r ∨ LostAmong before after ls q := fun q => by
    have hone : LosesEntry (before a) (after a) a q ↔ q = r :=
      ⟨fun hq => Option.some.inj (hq.2.1.symm.trans hr.2.1), fun e => e ▸ hr⟩
    simp [LostAmong, hone]
  have hevacuation := h.door_evacuation r
  exact {
    frame := h.frame.trans k.frame
    held := h.held.trans k.held
    register := by simpa using h.register.trans k.register (by simp)
    moved := fun b hb => by rw [k.station, h.moved b hb, movedStation_without, Station.without_without]
    unmoved := fun b hb => by rw [k.station, h.unmoved b hb, Station.without_without]
    holdLost := fun q hq => by
      by_cases e : q = r
      · rw [e, k.hold]
      · rw [k.holdOther q e, h.holdLost q (((hlost q).mp hq).resolve_left e)]
    holdKept := fun q hq => by
      obtain ⟨hne, hno⟩ := not_or.mp ((hlost q).not.mp hq)
      rw [k.holdOther q hne, h.holdKept q hno]
    doorLost := fun q hq he => by
      by_cases e : q = r
      · subst e
        rw [k.door (hevacuation.not.mpr he)]
        rfl
      · rw [k.doorOther q e, h.doorLost q (((hlost q).mp hq).resolve_left e) he, Door.without_lost]
    doorKept := fun q hq => by
      by_cases e : q = r
      · subst e
        have he : (s.door q).state = .evacuation := hq.resolve_left fun hno => hno ((hlost q).mpr (.inl rfl))
        rw [k.doorEvacuation (hevacuation.mpr he), h.doorKept q (.inr he), Door.without_without]
      · rw [k.doorOther q e, h.doorKept q (hq.imp (fun hno hb => hno ((hlost q).mpr (.inr hb))) id), Door.without_without]
    passKept := fun b => by rw [k.passKept, h.passKept]
    resolved := fun i hi => ⟨List.mem_append_left c (h.resolved i hi).1, (h.resolved i hi).2⟩
    handed := fun i hi hv => by
      by_cases hc : i ∈ c
      · exact ⟨k.handed i hc, r, (hlost r).mpr (.inl rfl), (h.running r (k.running i hc)).1⟩
      · obtain ⟨hh, q, hq, hrun⟩ := h.handed i ((List.mem_append.mp hi).resolve_right hc) hv
        exact ⟨k.held.handedOver hc hh, q, (hlost q).mpr (.inr hq), hrun⟩
    withdrawn := fun b hb hcase i hi => List.mem_append_left c (h.withdrawn b hb hcase i hi)
    untied := fun q hq he i hi => by
      by_cases hw : i ∈ w
      · exact List.mem_append_left c hw
      · have hno : ¬ LostAmong before after ls q := fun hl => hw (h.untied q hl he i hi)
        obtain rfl := ((hlost q).mp hq).resolve_right hno
        refine List.mem_append_right w (k.tied (hevacuation.not.mpr he) i ?_)
        rw [h.doorKept q (.inl hno)]
        simpa [Door.without, hi] using hw }

/-! ### Every address -/

/-- R23: one address dealt with. -/
def addressDone (before after : MapOutcome) (s : State) (a : LoopAddr) : State :=
  entryChanges before after a (addressChanges before after a s)

theorem entryChanges_none {x y : MapOutcome} {a : LoopAddr} {s : State} (h : ∀ r, ¬ LosesEntry x y a r) :
    entryChanges x y a s = s := by
  unfold entryChanges
  split
  · next r hr =>
    exact if_neg fun hb => by
      obtain ⟨he, hn⟩ : isEntry a = true ∧ y.room? ≠ some r := by simpa using hb
      exact h r ⟨he, hr, hn⟩
  · rfl

theorem entryChanges_some {x y : MapOutcome} {a : LoopAddr} {r : RoomNo} {s : State} (h : LosesEntry x y a r) :
    entryChanges x y a s = loseEntryStation a r s := by
  obtain ⟨he, hx, hy⟩ := h
  simp [entryChanges, hx, he, hy]

/-- R23: the next address dealt with whole. -/
theorem MapMoved.then_done {a : LoopAddr} {l : Link} (h : MapMoved before after as as w v s t) (ha : a ∉ as)
    (ht : s.turn.map Turn.user = some (.request l)) :
    ∃ w' v', MapMoved before after (a :: as) (a :: as) w' v' s (addressDone (before a) (after a) t a) := by
  have hturn : t.turn.map Turn.user = some (.request l) := by rw [h.frame.turn, ht]
  obtain ⟨c, hc⟩ := addressChanges_moved (before a) (after a) a hturn
  have hmoved := h.then_address ha hc
  by_cases hr : ∃ r, LosesEntry (before a) (after a) a r
  · obtain ⟨r, hr⟩ := hr
    have hsome : (addressChanges (before a) (after a) a t).turn ≠ none := by
      rw [hc.frame.turn]
      exact fun hn => by simp [hn] at hturn
    obtain ⟨d, hd⟩ := loseEntryStation_taken a r hsome
    exact ⟨_, _, by rw [addressDone, entryChanges_some hr]; exact hmoved.then_entry hr hd⟩
  · rw [not_exists] at hr
    exact ⟨_, _, by rw [addressDone, entryChanges_none hr]; exact hmoved.then_noEntry hr⟩

/-- R21: the case of every address under the map before, the rooms as they stand. -/
def caseBefore (old : Table 8 (Option Descriptor)) (s : State) (a : LoopAddr) : MapOutcome := outcomeUnder old s.rooms a

/-- R23: all the addresses of a list dealt with. -/
theorem MapMoved.then_all {l : Link} {old : Table 8 (Option Descriptor)} (xs : List LoopAddr) (hn : xs.Nodup)
    (hx : ∀ a ∈ xs, a ∉ as) (h : MapMoved (caseBefore old s) (mapOutcome s) as as w v s t)
    (ht : s.turn.map Turn.user = some (.request l)) :
    ∃ w' v', MapMoved (caseBefore old s) (mapOutcome s) (xs.reverse ++ as) (xs.reverse ++ as) w' v' s
      (xs.foldl (fun u a => addressDone (outcomeUnder old u.rooms a) (mapOutcome u a) u a) t) := by
  induction xs generalizing as w v t with
  | nil => exact ⟨w, v, h⟩
  | cons a xs ih =>
    obtain ⟨ha, hn⟩ := List.nodup_cons.mp hn
    obtain ⟨w', v', h'⟩ := h.then_done (hx a List.mem_cons_self) ht
    have hrest : ∀ b ∈ xs, b ∉ a :: as := fun b hb hb' => by
      rcases List.mem_cons.mp hb' with rfl | hb'
      · exact ha hb
      · exact hx b (List.mem_cons_of_mem a hb) hb'
    have hbefore : outcomeUnder old t.rooms a = caseBefore old s a := congrArg (outcomeUnder old · a) h.frame.kept.rooms
    have hafter : mapOutcome t a = mapOutcome s a := mapOutcome_kept h.frame.kept a
    rw [List.foldl_cons, hbefore, hafter]
    simpa using ih hn hrest h'

/-- R23: every address dealt with, in a request's turn. -/
theorem mapChangeEffects_moved {l : Link} (old : Table 8 (Option Descriptor)) {s : State}
    (ht : s.turn.map Turn.user = some (.request l)) :
    ∃ as w v, (∀ a, a ∈ as) ∧ MapMoved (caseBefore old s) (mapOutcome s) as as w v s (mapChangeEffects old s) := by
  obtain ⟨w, v, h⟩ := (MapMoved.start (caseBefore old s) (mapOutcome s) s).then_all (old := old) (List.finRange 128)
    (List.nodup_finRange 128) (by simp) ht
  exact ⟨_, w, v, fun a => by simp, h⟩

end Sys2Proof.Machine
end

section
/-! WRITE MAP (O18): its checks, its records, and its effects put together. -/

namespace Sys2Proof.Machine

open Claims

/-! ### The request accepted -/

/-- R22: what a WRITE MAP carries is the descriptor it writes. -/
theorem describes_descriptor {b : MapBody} {d : Option Descriptor} (h : Describes b d) : MapBody.descriptor b = d := by
  rcases h with ⟨hf, hs, hr, rfl⟩ | ⟨-, hs, -, -, -, rfl⟩
  · simp [MapBody.descriptor, MapBody.isEmpty, hf, hs, hr]
  · have hne : b.size ≠ 0 := fun h0 => by simp [h0] at hs
    simp [MapBody.descriptor, MapBody.isEmpty, hne]

/-- R22: the three checks pass. -/
theorem writeMap_accepted {l : Link} {b : MapBody} {d : Option Descriptor} {s : State} (hlock : s.locked = false)
    (hd : Describes b d) (hn : d ≠ none → b.number ≤ 7)
    (hapart : ∀ j : Fin 8, j.val ≠ b.number → ∀ e, look s.stationMap j = some e → ∀ f, d = some f → Apart f e) :
    serveRequest l (.writeMap b) s = acceptWriteMap l b s := by
  have hpass : MapBody.badField b = false ∧ MapBody.clashes b s = false := by
    rw [mapBody_badField, mapBody_clashes, decide_eq_false_iff_not, decide_eq_false_iff_not]
    cases d with
    | none => exact ⟨fun h => h.1 hd, fun h => h.1 hd⟩
    | some f =>
      have hf : f = ⟨b.first, b.size, b.room⟩ := by
        rcases hd with ⟨-, -, -, h⟩ | ⟨-, -, -, -, -, h⟩
        · cases h
        · exact Option.some.inj h
      subst hf
      refine ⟨fun ⟨_, h⟩ => h.elim (fun h7 => absurd (hn (by simp)) (by omega)) fun hno => hno hd, fun ⟨_, j, hj, he⟩ => ?_⟩
      obtain ⟨e, hl, hshare⟩ : ∃ e, look s.stationMap j = some e ∧ ¬ Apart ⟨b.first, b.size, b.room⟩ e := by
        cases hl : look s.stationMap j with
        | none => simp [hl] at he
        | some e => exact ⟨e, rfl, by simpa only [hl, Option.any_some, decide_eq_true_eq] using he⟩
      exact hshare (hapart j hj e hl _ rfl)
  exact checked_passes l _ _ s (by simp [hlock, hpass.1, hpass.2])

/-- R23: with the map as it was nothing moves. -/
theorem mapChangeEffects_same (s : State) : mapChangeEffects s.stationMap s = s := by
  unfold mapChangeEffects
  induction List.finRange 128 with
  | nil => rfl
  | cons a xs ih =>
    have hstill : entryChanges (mapOutcome s a) (mapOutcome s a) a (addressChanges (mapOutcome s a) (mapOutcome s a) a s) = s := by
      have hcase : addressChanges (mapOutcome s a) (mapOutcome s a) a s = s := by simp [addressChanges]
      rw [hcase]
      exact entryChanges_none fun r hr => hr.2.2 hr.2.1
    exact (congrArg (fun t => xs.foldl _ t) hstill).trans ih

/-! ### The journal -/

/-- R162: records added to a journal that is no longer than its 512. -/
def JournalGrown (s t : State) : Prop :=
  s.journal.length ≤ 512 → t.journal.length ≤ 512 ∧
    ∃ later, t.journal = (s.journal ++ later).drop (s.journal.length + later.length - 512)

theorem JournalGrown.of_same {s t : State} (h : t.journal = s.journal) : JournalGrown s t := fun hs =>
  ⟨by rwa [h], [], by simp [h, Nat.sub_eq_zero_of_le hs]⟩

/-- R162: what is discarded first stays discarded. -/
theorem drop_append_drop {α : Type} (c : Nat) (xs ys zs : List α) :
    let kept := (xs ++ ys).drop (xs.length + ys.length - c)
    (kept ++ zs).drop (kept.length + zs.length - c) = (xs ++ (ys ++ zs)).drop (xs.length + (ys ++ zs).length - c) := by
  dsimp only
  rw [← List.drop_append_of_le_length (by simp), List.drop_drop, List.append_assoc]
  refine congrArg (fun n => List.drop n _) ?_
  simp only [List.length_drop, List.length_append]
  omega

theorem JournalGrown.trans {s t u : State} (h : JournalGrown s t) (k : JournalGrown t u) : JournalGrown s u := fun hs => by
  obtain ⟨ht, ys, hys⟩ := h hs
  obtain ⟨hu, zs, hzs⟩ := k ht
  exact ⟨hu, ys ++ zs, by rw [hzs, hys, drop_append_drop]⟩

theorem writeJournal_grown (b : JournalBody) (s : State) : JournalGrown s (writeJournal b s) := by
  cases hs : s.supply with
  | backup => rw [writeJournal_backup b s hs]; exact .of_same rfl
  | normal =>
    rw [writeJournal_normal b s hs]
    simp only [Config.journalCapacity]
    refine fun hlen => ⟨by simp; omega, [⟨s.nextSequence, s.clock, { b with value := b.value.map cap16 }⟩], ?_⟩
    rw [List.drop_append_of_le_length (by simp)]
    rfl

theorem Works.journalGrown {s t : State} (h : Works s t) : JournalGrown s t := by
  induction h with
  | aside c r => exact .of_same r.journal
  | post b s => exact .of_same (by rw [post_frame])
  | journal b s => exact writeJournal_grown b s
  | port l q s h => exact .of_same rfl
  | trans h k ih ik => exact ih.trans ik

theorem mapChangeEffects_works (old : Table 8 (Option Descriptor)) (s : State) : Works s (mapChangeEffects old s) :=
  Works.then_foldl (fun _ _ hu => hu.then_addressChanges.then_entryChanges) _ (Works.refl s)

/-! ### The end of the turn -/

/-- R23: the state in which a WRITE MAP's effects begin: the map written and the record made. -/
def mapWritten (i : Fin 8) (d : Option Descriptor) (s : State) : State :=
  journalConfig .done none (10 + i.val) { s with stationMap := put s.stationMap i d }

theorem mapWritten_eq {s : State} (hs : s.supply = .normal) (i : Fin 8) (d : Option Descriptor) : mapWritten i d s = { s with
    stationMap := put s.stationMap i d
    journal := s.journal.drop (s.journal.length + 1 - 512) ++
      [⟨s.nextSequence, s.clock, { kind := .configChange, outcome := some (.status .done), value := some (10 + i.val) }⟩]
    nextSequence := s.nextSequence + 1 } := by
  have hcap : cap16 (10 + i.val) = 10 + i.val := by
    simp only [cap16, Config.top16]
    omega
  rw [mapWritten, journalConfig, writeJournal_normal _ { s with stationMap := put s.stationMap i d } hs]
  simp only [Option.map_some, hcap]
  rfl

/-- R22, R23: "empty" for a number above 7 moves nothing. -/
theorem acceptWriteMap_beyond {l : Link} {b : MapBody} {s : State} (hn : 7 < b.number) :
    acceptWriteMap l b s = reply l .done .nothing (journalConfig .done none (10 + b.number) s) := by
  have hmap : writtenMap b s.stationMap = s.stationMap := by rw [writtenMap, (index8?_eq_none b.number).mpr hn]
  have hsame : (journalConfig .done none (10 + b.number) s).stationMap = s.stationMap := (writeJournal_kept _ s).stationMap
  have hstill := mapChangeEffects_same (journalConfig .done none (10 + b.number) s)
  rw [hsame] at hstill
  rw [acceptWriteMap, hmap]
  exact congrArg (reply l .done .nothing) hstill

/-- R22: an accepted WRITE MAP that names a descriptor. -/
theorem acceptWriteMap_eq {l : Link} {b : MapBody} {i : Fin 8} {d : Option Descriptor} {s : State} (hn : b.number = i.val)
    (hd : Describes b d) :
    acceptWriteMap l b s = reply l .done .nothing (mapChangeEffects s.stationMap (mapWritten i d s)) := by
  rw [acceptWriteMap, writtenMap, hn, index8?_val, describes_descriptor hd]
  rfl

end Sys2Proof.Machine
end

section
/-! What a WRITE MAP leaves (O18): the statement's clauses, each read off what has been done at every address. -/

namespace Sys2Proof.Machine

open Claims

/-! ### Stations and presences at the end -/

variable {before after : LoopAddr → MapOutcome} {as ls : List LoopAddr} {w v : List PoolIx} {s t : State}

theorem carriedOn_moved {x y : MapOutcome} {z : Station} {k : PoolIx} (h : k ∈ carriedOn (movedStation x y z)) : k ∈ carriedOn z := by
  unfold movedStation at h
  split at h
  · exact h
  · split at h
    · cases h
    · cases h
    · exact h
    · exact h

/-- R103: at an address whose release comes to nothing nobody is carried. -/
theorem MapMoved.nobody_withdrawn (h : MapMoved before after as ls w v s t) {a : LoopAddr} (ha : a ∈ as)
    (hw : WithdrawnCase (before a) (after a)) : carriedOn (t.station a) = [] := by
  rw [h.moved a ha, ← movedStation_without]
  refine List.eq_nil_iff_forall_not_mem.mpr fun k hk => ?_
  obtain ⟨hk, hno⟩ := (carriedOn_without _ w k).mp hk
  exact hno (h.withdrawn a ha hw k (carriedOn_moved hk))

/-- R103: those on a release that comes to nothing, and on no lost room's running release, are resolved. -/
theorem MapMoved.resolved_withdrawn (h : MapMoved before after as ls w v s t) {a : LoopAddr} {k : PoolIx} {p : Presence} (ha : a ∈ as)
    (hw : WithdrawnCase (before a) (after a)) (hk : k ∈ carriedOn (s.station a))
    (hr : ∀ r, LostAmong before after ls r → k ∉ onRelease s r) (hp : Pristine k p s) : t.presence k = p.unused := by
  have hv : k ∈ v := by
    by_contra hv
    obtain ⟨-, r, hl, hrun⟩ := h.handed k (h.withdrawn a ha hw k hk) hv
    exact hr r hl hrun
  exact h.register.named k hv p hp

/-- R103: those on no release that comes to nothing stay as they are. -/
theorem MapMoved.presence_kept (h : MapMoved before after as ls w v s t) {k : PoolIx}
    (hk : ∀ a, WithdrawnCase (before a) (after a) → k ∉ carriedOn (s.station a)) : t.presence k = s.presence k :=
  h.register.presence k fun hv => by
    obtain ⟨-, a, -, hw, hc⟩ := h.resolved k hv
    exact hk a hw hc

/-- R104, R130: those tied to a lost room's door and on no release have their resolution held. -/
theorem MapMoved.handed_tied (h : MapMoved before after as ls w v s t) {r : RoomNo} {k : PoolIx} (hr : LostAmong before after ls r)
    (he : (s.door r).state ≠ .evacuation) (hk : k ∈ (s.door r).tied) (hc : ∀ a, k ∉ carriedOn (s.station a)) : HandedOver k t :=
  (h.handed k (h.untied r hr he k hk) fun hv => by
    obtain ⟨-, a, -, -, hca⟩ := h.resolved k hv
    exact hc a hca).1

/-- R23: who ceased to be carried. -/
theorem MapMoved.named (h : MapMoved before after as ls w v s t) {k : PoolIx} (hk : k ∈ w) :
    (∃ a, WithdrawnCase (before a) (after a) ∧ k ∈ carriedOn (s.station a)) ∨
      ∃ r, LostAmong before after ls r ∧ k ∈ onRelease s r := by
  by_cases hv : k ∈ v
  · obtain ⟨-, a, -, hcase⟩ := h.resolved k hv
    exact .inl ⟨a, hcase⟩
  · exact .inr (h.handed k hk hv).2

/-- R23: an address whose case stays, or that is mapped before and after. -/
theorem movedStation_kept {x y : MapOutcome} (h : y = x ∨ (x.room? ≠ none ∧ y.room? ≠ none)) (z : Station) :
    movedStation x y z = z := by
  unfold movedStation
  rcases h with rfl | ⟨hx, hy⟩
  · exact if_pos rfl
  · split
    · rfl
    · cases x <;> cases y <;> simp_all [MapOutcome.room?]

/-- R23: an address that comes to be mapped. -/
theorem movedStation_fresh {x : MapOutcome} {r : RoomNo} {k : Bool} (h : x = .unpolled ∨ x = .conflict) (z : Station) :
    movedStation x (.mapped r k) z = { z with state := .unknown, misses := 0 } := by
  rcases h with rfl | rfl <;> simp [movedStation]

theorem movedStation_unpolled {x : MapOutcome} (h : x ≠ .unpolled) (z : Station) : movedStation x .unpolled z = stripped z .unknown := by
  simp [movedStation, h]

theorem movedStation_conflict {x : MapOutcome} (h : x ≠ .conflict) (z : Station) : movedStation x .conflict z = stripped z .conflict := by
  cases x <;> simp_all [movedStation]

/-! ### The frame -/

/-- R23: the frame of a WRITE MAP's effects, field by field. -/
theorem MapFrame.eq_with (h : MapFrame s t) : t = { s with
    stationMap := t.stationMap, passKept := t.passKept, stations := t.stations, doors := t.doors, holds := t.holds, pool := t.pool
    occupancy := t.occupancy, heldEffects := t.heldEffects, polling := t.polling, notices := t.notices, journal := t.journal
    nextSequence := t.nextSequence, ports := t.ports, freeUsed := t.freeUsed, turn := t.turn, readQueue := t.readQueue
    lastServed := t.lastServed } := by
  rw [← h.counters]
  exact congrArg (fun x : State => { x with stationMap := t.stationMap, passKept := t.passKept }) h.kept.eq_with

/-! ### The turn's end -/

theorem endTurn_frame (s : State) : endTurn s = { s with
    turn := (endTurn s).turn, lastServed := (endTurn s).lastServed, readQueue := (endTurn s).readQueue } := by
  rw [endTurn, grantNext_frame]

/-- R104: with an effect held no turn is granted. -/
theorem endTurn_held {s : State} (h : s.heldEffects ≠ []) : (endTurn s).turn = none := by
  rw [endTurn, grantNext_busy { s with turn := none } (.inr h)]

/-- R22: the effects of a WRITE MAP on the part whose map is written. -/
theorem mapWritten_moved {l : Link} {i : Fin 8} {d : Option Descriptor} {s : State} (hs : s.supply = .normal)
    (ht : s.turn.map Turn.user = some (.request l)) :
    let u := mapChangeEffects s.stationMap (mapWritten i d s)
    ∃ as w v, (∀ a, a ∈ as) ∧ MapMoved (mapOutcome s) (mapOutcome u) as as w v (mapWritten i d s) u := by
  intro u
  have hturn : (mapWritten i d s).turn.map Turn.user = some (.request l) := by rw [mapWritten_eq hs]; exact ht
  have hbefore : caseBefore s.stationMap (mapWritten i d s) = mapOutcome s := by
    funext a
    rw [mapWritten_eq hs]
    rfl
  obtain ⟨as, w, v, hall, h⟩ := mapChangeEffects_moved s.stationMap hturn
  have hafter : mapOutcome u = mapOutcome (mapWritten i d s) := funext fun a => mapOutcome_kept h.frame.kept a
  rw [hbefore, ← hafter] at h
  exact ⟨as, w, v, hall, h⟩

/-- R162: one record and then others added. -/
theorem drop_record_drop {α : Type} {c : Nat} (hc : 0 < c) (xs zs : List α) (x : α) :
    let kept := xs.drop (xs.length + 1 - c) ++ [x]
    (kept ++ zs).drop (kept.length + zs.length - c) = (xs ++ x :: zs).drop (xs.length + 1 + zs.length - c) := by
  have h := drop_append_drop c xs [x] zs
  rw [List.drop_append_of_le_length (by simp; omega)] at h
  refine h.trans (congrArg (fun n => List.drop n _) ?_)
  rw [List.length_append, List.length_singleton, Nat.add_assoc]

/-- R162, R29: the journal begins with the CONFIG-CHANGE record. -/
theorem mapWritten_journal {i : Fin 8} {d : Option Descriptor} {s t : State} (hs : s.supply = .normal)
    (h : JournalGrown (mapWritten i d s) t) : ∃ later, t.journal = (s.journal ++
      (⟨s.nextSequence, s.clock, { kind := .configChange, outcome := some (.status .done), value := some (10 + i.val) }⟩ :
        JournalRecord) :: later).drop (s.journal.length + 1 + later.length - 512) := by
  rw [mapWritten_eq hs] at h
  generalize (⟨s.nextSequence, s.clock, { kind := .configChange, outcome := some (.status .done), value := some (10 + i.val) }⟩ :
    JournalRecord) = first at h ⊢
  obtain ⟨-, later, hlater⟩ := h (by simp; omega)
  exact ⟨later, hlater.trans (drop_record_drop (by decide) s.journal later first)⟩

end Sys2Proof.Machine

open Sys2Proof Sys2Proof.Machine Sys2Proof.Claims in
/-- Settles O18: a WRITE MAP beyond the descriptors moves nothing; any other leaves what has been done at every address, under the
reply and the turn's end. -/
theorem writeMapMovesStations : Obligations.WriteMapMovesStations := by
  refine ⟨fun l b s h hlock hn hd => ?beyond, fun l b i d s h hlock hn hd hapart => ?moves⟩
  case beyond =>
    have hserve := writeMap_accepted (l := l) hlock hd (fun hne => absurd rfl hne) (fun _ _ _ _ _ hf => nomatch hf)
    rw [exec_inTurn rfl rfl h, hserve, acceptWriteMap_beyond hn, reply_journalConfig (r := .writeMap b) h.1.2]
  case moves =>
    have hs := h.1.1
    obtain ⟨as, w, v, hall, hm⟩ := mapWritten_moved (i := i) (d := d) hs h.2
    have hserve := writeMap_accepted (l := l) hlock hd (fun _ => by omega)
      fun j hj e he f hf => hapart j e (fun hij => hj (by rw [hij, hn])) he f hf
    have hjournal := mapWritten_journal hs (mapChangeEffects_works s.stationMap (mapWritten i d s)).journalGrown
    have hexec : exec (.writeMap l b) s = .next (endTurn (reply l .done .nothing (mapChangeEffects s.stationMap (mapWritten i d s)))) := by
      rw [exec_inTurn rfl rfl h, hserve, acceptWriteMap_eq hn hd]
    rw [mapWritten_eq hs] at hm hjournal hexec
    generalize mapChangeEffects s.stationMap _ = u at hm hjournal hexec
    obtain ⟨c, hport⟩ := hm.frame.port l
    have hhanded : (u.port l).inFlight = some ⟨.writeMap b, .handed⟩ := by rw [hport]; exact h.1.2
    have hheld := endTurn_held (s := answered l (.writeMap b) .done .nothing u)
    rw [reply_handed hhanded, endTurn_frame] at hexec
    generalize (endTurn (answered l (.writeMap b) .done .nothing u)).turn = turn at hexec hheld
    generalize (endTurn (answered l (.writeMap b) .done .nothing u)).lastServed = served at hexec
    generalize (endTurn (answered l (.writeMap b) .done .nothing u)).readQueue = reads at hexec
    have hlost : ∀ {r}, (∃ a, isEntry a = true ∧ roomOf s a = some r ∧ roomOf u a ≠ some r) ↔
        LostAmong (mapOutcome s) (mapOutcome u) as r := fun {_} =>
      ⟨fun ⟨a, ha⟩ => ⟨a, hall a, ha⟩, fun ⟨a, _, ha⟩ => ⟨a, ha⟩⟩
    have hhere : ∀ a, u.station a = movedStation (mapOutcome s a) (mapOutcome u a) ((s.station a).without w) :=
      fun a => hm.moved a (hall a)
    refine ⟨_, hexec, hm.frame.kept.stationMap, fun a ha hne => ?unpolled, fun a ha hne => ?conflict,
      ⟨w, fun k hk => ?named, fun a ha => ?kept, fun a r k ha hb => ?fresh, fun r hr => ?hold, fun r hr => ?door⟩,
      fun a ha => ?nobody, fun a k p ha hk hr hp hl => ?resolved, fun k hk => ?presence, fun r k hr he hk hc => ?handed,
      hheld, fun a => ?pass, hjournal, fun a r ha hb hn => ?lost, ?transmit, ?frame⟩
    case unpolled => exact (hhere a).trans ((congrArg (movedStation _ · _) ha).trans (movedStation_unpolled hne _))
    case conflict => exact (hhere a).trans ((congrArg (movedStation _ · _) ha).trans (movedStation_conflict hne _))
    case named => exact (hm.named hk).imp id fun ⟨r, hr, hk⟩ => ⟨r, hlost.mpr hr, by rw [running_eq]; exact hk⟩
    case kept => exact (hhere a).trans (movedStation_kept ha _)
    case fresh => exact (hhere a).trans ((congrArg (movedStation _ · _) ha).trans (movedStation_fresh hb _))
    case hold => exact hm.holdKept r (hlost.not.mp hr)
    case door => exact hm.doorKept r (hr.imp_left hlost.not.mp)
    case nobody => exact hm.nobody_withdrawn (hall a) ha
    case resolved =>
      exact hm.resolved_withdrawn (hall a) ha hk (fun r hl => running_eq s r ▸ hr r (hlost.mpr hl)) ⟨hp, hl⟩
    case presence => exact hm.presence_kept hk
    case handed => exact hm.handed_tied (hlost.mp hr) he hk hc
    case pass =>
      refine (hm.passKept a).trans (or_congr_right ⟨fun ⟨_, hne, hun, hb⟩ => ⟨hun, fun h => hne (h.trans hun.symm), hb⟩,
        fun ⟨hun, hne, hb⟩ => ⟨hall a, fun h => hne (h.trans hun), hun, hb⟩⟩)
    case lost =>
      have hl : LostAmong (mapOutcome s) (mapOutcome u) as r := ⟨a, hall a, ha, hb, hn⟩
      exact ⟨hm.holdLost r hl, hm.doorLost r hl⟩
    case transmit =>
      refine (congrArg Port.transmit (State.setPort_port_same ..)).trans ?_
      rw [hport]
      rfl
    case frame =>
      exact congrArg (fun x => { answered l (.writeMap b) .done .nothing x with turn := turn, lastServed := served, readQueue := reads })
        hm.frame.eq_with
end

section
/-! What most of the part's work leaves of the books (O59, O60): the permits and the rooms as they were, every presence and every hold
one that was there, no list longer, and no request in flight that was not. -/

namespace Sys2Proof.Machine

/-- The permits, the room table, the register, the holds and the ports are as they were. -/
structure SameBooks (s t : State) : Prop where
  permits : t.permits = s.permits := by rfl
  rooms : t.rooms = s.rooms := by rfl
  pool : t.pool = s.pool := by rfl
  occupancy : t.occupancy = s.occupancy := by rfl
  holds : t.holds = s.holds := by rfl
  ports : t.ports = s.ports := by rfl

/-- The books only ebb: permits and rooms stay, presences and holds keep their badges and slots or go, lists grow no longer, and no
request comes to be in flight. -/
structure Ebbs (s t : State) : Prop where
  permits : t.permits = s.permits
  rooms : t.rooms = s.rooms
  presence : ∀ i p, t.presence i = some p → ∃ q, s.presence i = some q ∧ q.badge = p.badge ∧ q.slot = p.slot
  hold : ∀ r h, t.hold r = some h → ∃ k, s.hold r = some k ∧ k.badge = h.badge ∧ k.slot = h.slot
  count : ∀ r, roomCount t r ≤ roomCount s r
  inFlight : ∀ l f, (t.port l).inFlight = some f → ∃ g, (s.port l).inFlight = some g ∧ g.request = f.request

namespace Ebbs

theorem refl (s : State) : Ebbs s s where
  permits := rfl
  rooms := rfl
  presence _ p h := ⟨p, h, rfl, rfl⟩
  hold _ k h := ⟨k, h, rfl, rfl⟩
  count _ := le_rfl
  inFlight _ f h := ⟨f, h, rfl⟩

theorem trans {s t u : State} (h : Ebbs s t) (k : Ebbs t u) : Ebbs s u where
  permits := k.permits.trans h.permits
  rooms := k.rooms.trans h.rooms
  presence i p hp := by
    obtain ⟨q, hq, hb, hs⟩ := k.presence i p hp
    obtain ⟨q', hq', hb', hs'⟩ := h.presence i q hq
    exact ⟨q', hq', hb'.trans hb, hs'.trans hs⟩
  hold r x hx := by
    obtain ⟨y, hy, hb, hs⟩ := k.hold r x hx
    obtain ⟨z, hz, hb', hs'⟩ := h.hold r y hy
    exact ⟨z, hz, hb'.trans hb, hs'.trans hs⟩
  count r := (k.count r).trans (h.count r)
  inFlight l f hf := by
    obtain ⟨g, hg, he⟩ := k.inFlight l f hf
    obtain ⟨g', hg', he'⟩ := h.inFlight l g hg
    exact ⟨g', hg', he'.trans he⟩

theorem of_same {s t : State} (h : SameBooks s t) : Ebbs s t where
  permits := h.permits
  rooms := h.rooms
  presence i p hp := ⟨p, by simpa only [State.presence, h.pool] using hp, rfl, rfl⟩
  hold r k hk := ⟨k, by simpa only [State.hold, h.holds] using hk, rfl, rfl⟩
  count r := by simp only [roomCount, State.roomState, h.occupancy, le_rfl]
  inFlight l f hf := ⟨f, by simpa only [State.port, h.ports] using hf, rfl⟩

theorem then_aside {s t u : State} (h : Ebbs s t) (k : SameBooks t u := by exact {}) : Ebbs s u := h.trans (.of_same k)

theorem then_foldl {α : Type} {f : State → α → State} {s : State} (hf : ∀ t x, Ebbs s t → Ebbs s (f t x)) (l : List α)
    {t : State} (h : Ebbs s t) : Ebbs s (l.foldl f t) := by
  induction l generalizing t with
  | nil => exact h
  | cons x l ih => exact ih (hf t x h)

theorem then_foldl_pair {α β : Type} {f : State × β → α → State × β} {s : State}
    (hf : ∀ x a, Ebbs s x.1 → Ebbs s (f x a).1) (l : List α) {x : State × β} (h : Ebbs s x.1) : Ebbs s (l.foldl f x).1 := by
  induction l generalizing x with
  | nil => exact h
  | cons a l ih => exact ih (hf x a h)

variable {s t : State}

/-! ### Updates of one record -/

theorem then_setStation {a : LoopAddr} {x : Station} (h : Ebbs s t) : Ebbs s (t.setStation a x) := h.then_aside

theorem then_setDoor {r : RoomNo} {x : Door} (h : Ebbs s t) : Ebbs s (t.setDoor r x) := h.then_aside

/-- A port changed with the request in flight kept, brought on or gone. -/
theorem then_setPort {l : Link} {q : Port} (hq : ∀ f, q.inFlight = some f → ∃ g, (t.port l).inFlight = some g ∧ g.request = f.request)
    (h : Ebbs s t) : Ebbs s (t.setPort l q) := by
  refine h.trans { Ebbs.refl t with inFlight := fun m f hf => ?_ }
  by_cases e : l = m
  · subst e; exact hq f (by simpa using hf)
  · exact ⟨f, by simpa [e] using hf, rfl⟩

/-- A room's occupancy changed with its list no longer. -/
theorem then_setRoomState {r : RoomNo} {o : RoomOccupancy} (ho : o.list.length ≤ roomCount t r) (h : Ebbs s t) :
    Ebbs s (t.setRoomState r o) := by
  refine h.trans { Ebbs.refl t with count := fun q => ?_ }
  by_cases e : r = q
  · subst e; simpa [roomCount] using ho
  · simp [roomCount, e]

theorem then_noHold {r : RoomNo} (h : Ebbs s t) : Ebbs s (t.setHold r none) := by
  refine h.trans { Ebbs.refl t with hold := fun q k hk => ⟨k, ?_, rfl, rfl⟩ }
  by_cases e : r = q
  · subst e; simp at hk
  · simpa [e] using hk

/-- A presence changed with its badge and its slot kept. -/
theorem then_setPresence {i : PoolIx} {p q : Presence} (hp : t.presence i = some p) (hb : q.badge = p.badge) (hs : q.slot = p.slot)
    (h : Ebbs s t) : Ebbs s (t.setPresence i (some q)) := by
  refine h.trans { Ebbs.refl t with presence := fun k x hx => ?_ }
  by_cases e : i = k
  · subst e
    obtain rfl : q = x := by simpa using hx
    exact ⟨p, hp, hb.symm, hs.symm⟩
  · exact ⟨x, by simpa [e] using hx, rfl, rfl⟩

theorem then_noPresence {i : PoolIx} (h : Ebbs s t) : Ebbs s (t.setPresence i none) := by
  refine h.trans { Ebbs.refl t with presence := fun k x hx => ⟨x, ?_, rfl, rfl⟩ }
  by_cases e : i = k
  · subst e; simp at hx
  · simpa [e] using hx

/-! ### Notices, journal, counters, replies -/

theorem then_post {b : NoticeBody} (h : Ebbs s t) : Ebbs s (post b t) := by
  rw [post_frame]
  refine h.trans { Ebbs.refl t with inFlight := fun l f hf => ⟨f, ?_, rfl⟩ }
  exact (post_inFlight l b t).symm.trans hf

theorem then_writeJournal {b : JournalBody} (h : Ebbs s t) : Ebbs s (writeJournal b t) := by
  rw [writeJournal_frame]
  exact h.then_aside

theorem then_addToCounter {c : CounterNo} {n : Nat} (h : Ebbs s t) : Ebbs s (addToCounter c n t) := by
  unfold addToCounter
  dsimp only
  split
  · exact h.then_aside
  · split
    · exact .then_post h.then_aside
    · exact h.then_aside

theorem then_report {e : CountEvent} {room : Option RoomNo} {n : Nat} (h : Ebbs s t) : Ebbs s (report e room n t) := by
  unfold report
  split
  · exact h
  · refine then_foldl (fun u c hu => ?_) _ h
    dsimp only
    split
    · exact hu.then_addToCounter
    · exact hu

theorem then_countOccupancyMinutes (h : Ebbs s t) : Ebbs s (countOccupancyMinutes t) := by
  refine then_foldl (fun u c hu => ?_) _ h
  dsimp only
  split
  · exact hu.then_addToCounter
  · exact hu

theorem then_judgeAttention {l : Link} (h : Ebbs s t) : Ebbs s (judgeAttention l t) := by
  obtain ⟨a, ha⟩ := judgeAttention_frame l t
  rw [ha]
  exact h.then_setPort fun f hf => ⟨f, hf, rfl⟩

theorem then_reply {l : Link} {st : Status} {c : ReplyContent} (h : Ebbs s t) : Ebbs s (reply l st c t) := by
  unfold reply
  dsimp only
  split
  · exact h
  · exact h
  · next r g hg hf =>
    refine h.then_setPort fun f he => ⟨_, hf, ?_⟩
    obtain rfl := Option.some.inj he
    rfl

theorem then_checked {l : Link} {checks : List (Bool × Status)} {f : State → State} (h : Ebbs s t) (hf : Ebbs s (f t)) :
    Ebbs s (checked l checks f t) := by
  unfold checked
  split
  · exact h.then_reply
  · exact hf

/-! ### Occupancy -/

theorem then_uncarry {who : List PoolIx} (h : Ebbs s t) : Ebbs s (uncarry who t) := h.then_aside

theorem then_removePresence {i : PoolIx} (h : Ebbs s t) : Ebbs s (removePresence i t) := by
  unfold removePresence
  split
  · exact h
  · exact (h.then_noPresence.then_setRoomState List.length_erase_le).then_uncarry

theorem then_setPresenceState {i : PoolIx} {x : PresenceState} (h : Ebbs s t) : Ebbs s (setPresenceState i x t) := by
  unfold setPresenceState
  split
  · exact h
  · next p hp => exact h.then_setPresence hp rfl rfl

theorem then_refreshRoom {r : RoomNo} (h : Ebbs s t) : Ebbs s (refreshRoom r t) := h.then_setRoomState le_rfl

theorem then_escortCheck {r : RoomNo} {gone : List Nat} (h : Ebbs s t) : Ebbs s (escortCheck r gone t) := by
  unfold escortCheck
  dsimp only
  split
  · exact h
  · refine .then_writeJournal (.then_post ?_)
    split
    · exact h
    · exact h.then_aside

theorem then_reexamine {r : RoomNo} {gone : List Nat} (h : Ebbs s t) : Ebbs s (reexamine r gone t) :=
  h.then_refreshRoom.then_escortCheck

theorem then_resolveOpened {i : PoolIx} {x : State × List Nat} (h : Ebbs s x.1) : Ebbs s (resolveOpened i x).1 := by
  unfold resolveOpened
  split
  · exact h
  · dsimp only
    split
    · exact h.then_setPresenceState.then_writeJournal.then_report
    · exact h.then_removePresence.then_writeJournal.then_report
    · exact h
    · exact h

theorem then_resolveUnused {i : PoolIx} {x : State × List Nat} (h : Ebbs s x.1) : Ebbs s (resolveUnused i x).1 := by
  unfold resolveUnused
  split
  · exact h
  · dsimp only
    split
    · exact h.then_removePresence.then_writeJournal
    · exact h.then_setPresenceState.then_writeJournal
    · exact h
    · exact h

theorem then_resolve {one : PoolIx → State × List Nat → State × List Nat} {who : List PoolIx}
    (ho : ∀ i x, Ebbs s x.1 → Ebbs s (one i x).1) (h : Ebbs s t) : Ebbs s (resolve one who t) :=
  then_foldl (fun _ _ hu => (then_foldl_pair (fun x i => ho i x) _ hu).then_reexamine) _ h.then_uncarry

theorem then_applyEffect {e : PresenceEffect} (h : Ebbs s t) : Ebbs s (applyEffect e t) := by
  cases e with
  | tie r who => exact h.then_uncarry.then_setDoor
  | opened who => exact h.then_resolve fun _ _ => then_resolveOpened
  | unused who => exact h.then_resolve fun _ _ => then_resolveUnused
  | drop who => exact h.then_uncarry

theorem then_reportEffect {e : PresenceEffect} (h : Ebbs s t) : Ebbs s (reportEffect e t) := by
  unfold reportEffect
  split
  · exact h
  · split
    · exact h.then_aside
    · exact h.then_applyEffect

theorem then_handOver {f : List PoolIx → PresenceEffect} {r : RoomNo} (h : Ebbs s t) : Ebbs s (handOver f r t) := by
  unfold handOver
  dsimp only
  split
  · exact h
  · exact h.then_uncarry.then_reportEffect

theorem then_untie {r : RoomNo} (h : Ebbs s t) : Ebbs s (untie r t) := by
  unfold untie
  dsimp only
  split
  · exact h
  · exact h.then_uncarry

theorem then_effect {own : Bool} {e : PresenceEffect} (h : Ebbs s t) : Ebbs s (effect own e t) := by
  unfold effect
  split
  · exact h.then_applyEffect
  · exact h.then_reportEffect

theorem then_drainHeld {k : Nat} (h : Ebbs s t) : Ebbs s (drainHeld k t) := by
  induction k generalizing t with
  | zero => exact h
  | succ k ih =>
    unfold drainHeld
    split
    · exact h
    · exact ih (then_applyEffect h.then_aside)

/-! ### Turns -/

theorem then_grantNext (h : Ebbs s t) : Ebbs s (grantNext t) := by
  rw [grantNext_frame]
  exact h.then_aside

theorem then_endTurn (h : Ebbs s t) : Ebbs s (endTurn t) := then_grantNext h.then_aside

/-! ### Loop and doors -/

theorem then_loseCarried {a : LoopAddr} {c : Carried} (h : Ebbs s t) : Ebbs s (loseCarried a c t) := by
  rw [loseCarried_frame]
  exact h.then_aside

theorem then_loseCommand {own : Bool} {c : Option DecisionCommand} (h : Ebbs s t) : Ebbs s (loseCommand own c t) := by
  unfold loseCommand
  split
  · exact h.then_effect
  · exact h

theorem then_queueDecision {own : Bool} {a : LoopAddr} {c : DecisionCommand} (h : Ebbs s t) : Ebbs s (queueDecision own a c t) :=
  h.then_setStation.then_loseCarried.then_loseCommand

theorem then_clearRead {a : LoopAddr} (h : Ebbs s t) : Ebbs s (clearRead a t) := by
  rw [clearRead_frame]
  exact h.then_aside

theorem then_discardDecision {own : Bool} {a : LoopAddr} (h : Ebbs s t) : Ebbs s (discardDecision own a t) :=
  h.then_setStation.then_loseCarried.then_loseCommand

theorem then_queueMode {own : Bool} {m : ModeCommand} {a : LoopAddr} (h : Ebbs s t) : Ebbs s (queueMode own m a t) := by
  unfold queueMode
  dsimp only
  split
  · exact h.then_setStation.then_loseCarried.then_discardDecision.then_clearRead
  · exact h.then_setStation.then_loseCarried

theorem then_queueModeEverywhere {own : Bool} {m : ModeCommand} (h : Ebbs s t) : Ebbs s (queueModeEverywhere own m t) :=
  then_foldl (fun _ _ => then_queueMode) _ h

theorem then_cancelHold {a : Option LoopAddr} {why : Option Reason} {r : RoomNo} (h : Ebbs s t) : Ebbs s (cancelHold a why t r) := by
  unfold cancelHold
  split
  · exact h
  · exact h.then_noHold.then_writeJournal

theorem then_refuseAtEntry {own : Bool} {r : RoomNo} {why : Reason} (h : Ebbs s t) : Ebbs s (refuseAtEntry own r why t) := by
  unfold refuseAtEntry
  split
  · exact h.then_queueDecision
  · exact h

theorem then_retestHold {i : SlotNo} {badge : Nat} {r : RoomNo} (h : Ebbs s t) : Ebbs s (retestHold i badge t r) := by
  unfold retestHold
  split
  · exact h
  · split
    · split
      · exact h
      · exact h.then_noHold.then_refuseAtEntry.then_writeJournal.then_report
    · exact h

theorem then_retestHolds {i : SlotNo} {badge : Nat} (h : Ebbs s t) : Ebbs s (retestHolds i badge t) :=
  then_foldl (fun _ _ => then_retestHold) _ h

theorem then_loseDoor {r : RoomNo} (h : Ebbs s t) : Ebbs s (loseDoor r t) := by
  unfold loseDoor
  split
  · exact h
  · exact h.then_setDoor.then_handOver

theorem then_deliverRelease {r : RoomNo} {seconds : Nat} {carries : List PoolIx} (h : Ebbs s t) :
    Ebbs s (deliverRelease r seconds carries t) := by
  unfold deliverRelease
  dsimp only
  split
  · exact h.then_setDoor.then_reportEffect
  · exact h.then_setDoor.then_reportEffect
  all_goals exact h.then_reportEffect

theorem then_holdDoor {r : RoomNo} (h : Ebbs s t) : Ebbs s (holdDoor r t) :=
  h.then_setDoor.then_post.then_writeJournal.then_report

theorem then_contactReport {r : RoomNo} {isOpen : Bool} (h : Ebbs s t) : Ebbs s (contactReport r isOpen t) := by
  unfold contactReport
  dsimp only
  split
  case h_2 => exact h.then_setDoor.then_holdDoor
  case h_4 => exact h.then_setDoor.then_handOver
  all_goals exact h.then_setDoor

theorem then_judgeOpening {r : RoomNo} {bar : Bool} (h : Ebbs s t) : Ebbs s (judgeOpening r bar t) := by
  unfold judgeOpening
  dsimp only
  split
  · exact h
  · split
    · exact h.then_setDoor.then_setDoor.then_post.then_writeJournal.then_report.then_setRoomState le_rfl
    · exact h.then_setDoor.then_setDoor.then_post.then_writeJournal.then_report

theorem then_loseEntryStation {a : LoopAddr} {r : RoomNo} (h : Ebbs s t) : Ebbs s (loseEntryStation a r t) :=
  h.then_loseDoor.then_cancelHold

theorem then_goOffline {a : LoopAddr} (h : Ebbs s t) : Ebbs s (goOffline a t) := by
  unfold goOffline
  dsimp only
  repeat' split
  on_goal 1 => refine then_loseEntryStation ?_
  all_goals exact h.then_setStation.then_report.then_post.then_writeJournal.then_discardDecision.then_clearRead

theorem then_countMiss {a : LoopAddr} (h : Ebbs s t) : Ebbs s (countMiss a t) := by
  unfold countMiss
  dsimp only
  split
  · exact h
  · exact h
  all_goals
    split
    · exact h.then_setStation.then_report
    · exact h.then_goOffline

theorem then_comeOnline {a : LoopAddr} (h : Ebbs s t) : Ebbs s (comeOnline a t) := by
  have alarm : ∀ u, Ebbs s u →
      Ebbs s (if u.evacuating && (u.station a).mode != some .evacRelease then queueMode false .evacRelease a u else u) := by
    intro u hu
    split
    · exact hu.then_queueMode
    · exact hu
  unfold comeOnline
  dsimp only
  split
  · exact h
  · exact h.then_setStation
  · exact alarm _ h.then_setStation
  · exact alarm _ h.then_setStation.then_post.then_writeJournal

theorem then_tamperReport {a : LoopAddr} {isSet : Bool} (h : Ebbs s t) : Ebbs s (tamperReport a isSet t) := by
  unfold tamperReport
  dsimp only
  split
  · exact h.then_setStation.then_post
  · exact h.then_setStation

theorem then_offerRead {a : LoopAddr} {badge : Nat} (h : Ebbs s t) : Ebbs s (offerRead a badge t) := by
  unfold offerRead
  dsimp only
  split
  · exact h
  · exact then_grantNext (then_aside h)

theorem then_deliver {a : LoopAddr} {c : Carried} (h : Ebbs s t) : Ebbs s (deliver a c t) := by
  unfold deliver
  dsimp only
  split
  · exact h
  · exact h.then_setStation
  · split
    · exact h
    · split
      · exact h.then_setStation.then_clearRead.then_deliverRelease
      · exact h.then_setStation.then_clearRead

theorem then_judgeAt {a : LoopAddr} {bar : Bool} (h : Ebbs s t) : Ebbs s (judgeAt a bar t) := by
  unfold judgeAt
  split
  · split
    · exact h
    · exact h.then_judgeOpening
  · exact h

theorem then_doorReport {a : LoopAddr} {isSet judged : Bool} (h : Ebbs s t) : Ebbs s (doorReport a isSet judged t) := by
  unfold doorReport
  split
  · split
    · exact h.then_contactReport
    · exact h.then_setDoor
  · exact h

theorem then_takeReply {a : LoopAddr} {c : Carried} {r : StatusReport} (h : Ebbs s t) : Ebbs s (takeReply a c r t) :=
  h.then_judgeAt.then_deliver.then_comeOnline.then_tamperReport.then_doorReport.then_offerRead

theorem then_takeMiss {a : LoopAddr} (h : Ebbs s t) : Ebbs s (takeMiss a t) := h.then_judgeAt.then_countMiss

theorem then_closeHold {r : RoomNo} {k : Hold} (h : Ebbs s t) : Ebbs s (closeHold r k t) :=
  h.then_noHold.then_refuseAtEntry.then_writeJournal.then_report.then_report

end Ebbs

end Sys2Proof.Machine
end

section
/-! The clock's events, the requests and the resets that only let the books ebb (O59, O60). -/

namespace Sys2Proof.Machine

namespace Ebbs

variable {s t : State}

/-! ### The minute-boundary event -/

theorem then_sweepEvent {full : Bool} (h : Ebbs s t) : Ebbs s (sweepEvent full t) := by
  unfold sweepEvent
  dsimp only
  split
  · exact then_grantNext h.then_aside
  · exact h.then_aside
  · exact then_post h.then_aside

theorem then_raiseEvent (h : Ebbs s t) : Ebbs s (raiseEvent t) := by
  unfold raiseEvent
  split
  · unfold deliverEvent
    split
    · dsimp only
      split
      · exact then_sweepEvent (then_countOccupancyMinutes h.then_aside)
      · exact then_countOccupancyMinutes (then_sweepEvent h.then_aside)
    · exact h.then_sweepEvent.then_countOccupancyMinutes
  · exact h.then_aside

/-! ### Decisions that let nobody in -/

theorem then_deny {a : LoopAddr} {room : Option RoomNo} {badge : Nat} {why : Reason} {permit : Option Nat} (h : Ebbs s t) :
    Ebbs s (deny a room badge why permit t) := h.then_queueDecision.then_writeJournal.then_report

theorem then_yieldPresence {i : PoolIx} {p : Presence} (h : Ebbs s t) : Ebbs s (yieldPresence i p t) :=
  h.then_removePresence.then_writeJournal.then_reexamine

theorem then_repeatArriving {a : LoopAddr} {r : RoomNo} {c : Chosen} (h : Ebbs s t) : Ebbs s (repeatArriving a r c t) := by
  unfold repeatArriving
  split
  · exact h.then_queueDecision
  · exact then_queueDecision h.then_aside

theorem then_unmatched {a : LoopAddr} {room : Option RoomNo} {badge : Nat} {why : Option Reason} (h : Ebbs s t) :
    Ebbs s (unmatched a room badge why t) := h.then_writeJournal.then_post

theorem then_leave {a : LoopAddr} {r : RoomNo} {i : PoolIx} (h : Ebbs s t) : Ebbs s (leave a r i t) :=
  h.then_uncarry.then_setPresenceState.then_queueDecision.then_reexamine

theorem then_mismatch {a : LoopAddr} {r : RoomNo} {i : PoolIx} {p : Presence} (h : Ebbs s t) : Ebbs s (mismatch a r i p t) :=
  h.then_removePresence.then_queueDecision.then_writeJournal.then_post.then_reexamine.then_reexamine

theorem then_decideExit {a : LoopAddr} {badge : Nat} (h : Ebbs s t) : Ebbs s (decideExit a badge t) := by
  unfold decideExit
  split
  · exact h
  · exact h.then_queueDecision.then_unmatched
  · exact h.then_queueDecision.then_unmatched
  · split
    · exact h.then_queueDecision.then_unmatched
    · split
      · exact h
      · split
        · exact h.then_leave
        · exact h.then_mismatch

theorem then_endRead {a : LoopAddr} {clearAfter : Bool} (h : Ebbs s t) : Ebbs s (endRead a clearAfter t) := by
  unfold endRead
  dsimp only
  split
  · exact h.then_setStation
  · exact h.then_setStation

/-! ### WRITE MAP and RECONCILE ROOM -/

theorem then_discardAll {a : LoopAddr} (h : Ebbs s t) : Ebbs s (discardAll a t) :=
  h.then_clearRead.then_discardDecision.then_setStation.then_loseCarried

theorem then_leaveOrder {a : LoopAddr} (h : Ebbs s t) : Ebbs s (leaveOrder a t) := by
  unfold leaveOrder
  split
  · exact h.then_aside
  · exact h

theorem then_addressChanges {before after : MapOutcome} {a : LoopAddr} (h : Ebbs s t) :
    Ebbs s (addressChanges before after a t) := by
  unfold addressChanges
  split
  · exact h
  · split
    · exact h.then_discardAll.then_setStation.then_leaveOrder
    · exact h.then_discardAll.then_setStation
    · exact h.then_setStation
    · exact h.then_setStation
    · split
      · exact h
      · exact h.then_loseCommand

theorem then_entryChanges {before after : MapOutcome} {a : LoopAddr} (h : Ebbs s t) :
    Ebbs s (entryChanges before after a t) := by
  unfold entryChanges
  split
  · split
    · exact h.then_loseEntryStation
    · exact h
  · exact h

theorem then_acceptWriteMap {l : Link} {b : MapBody} (h : Ebbs s t) : Ebbs s (acceptWriteMap l b t) :=
  .then_reply (then_foldl (fun _ _ hu => hu.then_addressChanges.then_entryChanges) _ (.then_writeJournal h.then_aside))

theorem then_reconcile {r : RoomNo} {who : List PoolIx} (h : Ebbs s t) : Ebbs s (reconcile r who t) := by
  refine then_reexamine (then_foldl_pair (fun x i hx => ?_) _ h)
  unfold reconcileOne
  split
  · exact hx
  · exact hx.then_removePresence.then_writeJournal

theorem then_serveReconcileRoom {l : Link} {n : Nat} {badge : Option Nat} (h : Ebbs s t) :
    Ebbs s (serveReconcileRoom l n badge t) := by
  refine h.then_checked ?_
  split
  · unfold reconcileBadge
    split
    · exact h.then_reply
    · exact h.then_reconcile.then_reply
  · unfold reconcileAll
    exact .then_reply (.then_setRoomState le_rfl h.then_reconcile)
  · exact h

/-! ### Presences all at once, and the line's level -/

theorem then_announceEvacuation (h : Ebbs s t) : Ebbs s (announceEvacuation t) := h.then_post.then_writeJournal

theorem then_sweepOne {become : PresenceState → Option PresenceState} {record : Bool} {x : State × List (RoomNo × Nat)} {i : PoolIx}
    (h : Ebbs s x.1) : Ebbs s (sweepOne become record x i).1 := by
  unfold sweepOne
  split
  · exact h
  · split
    · exact h.then_setPresenceState
    · dsimp only
      split
      · exact h.then_removePresence.then_writeJournal
      · exact h.then_removePresence

theorem then_changePresences {become : PresenceState → Option PresenceState} {record : Bool} (h : Ebbs s t) :
    Ebbs s (changePresences become record t).1 :=
  then_foldl_pair (fun _ _ => then_sweepOne) _ h.then_uncarry

theorem then_reexamineHeld {before : State} {one : RoomNo → State → State} (ho : ∀ r u, Ebbs s u → Ebbs s (one r u))
    (h : Ebbs s t) : Ebbs s (reexamineHeld before one t) := by
  refine then_foldl (fun u r hu => ?_) _ h
  split
  · exact hu
  · exact ho r u hu

theorem then_presencesAtReset {become : PresenceState → Option PresenceState} (h : Ebbs s t) : Ebbs s (presencesAtReset become t) :=
  then_reexamineHeld (fun _ _ => then_refreshRoom) h.then_changePresences

theorem then_acceptAllClear {l : Link} (h : Ebbs s t) : Ebbs s (acceptAllClear l t) :=
  have hmodes : Ebbs s (queueModeEverywhere true .resumeNormal { t with evacuating := false, edgeCount := 0 }) :=
    then_queueModeEverywhere h.then_aside
  have hdoors : Ebbs s { queueModeEverywhere true .resumeNormal { t with evacuating := false, edgeCount := 0 } with
    doors := mapAll settleDoor (queueModeEverywhere true .resumeNormal { t with evacuating := false, edgeCount := 0 }).doors } :=
    hmodes.then_aside
  (then_reexamineHeld (fun _ _ => then_reexamine) hdoors.then_changePresences).then_writeJournal.then_reply

theorem then_startEvacuation (h : Ebbs s t) : Ebbs s (startEvacuation t) := by
  have hstart : Ebbs s { t with evacuating := true, edgeCount := 1 } := h.then_aside
  exact then_foldl (fun _ _ hu => hu.then_cancelHold) _ (then_foldl (fun _ _ hu => hu.then_setDoor.then_untie) _
    hstart.then_announceEvacuation.then_queueModeEverywhere)

theorem then_furtherEdge (h : Ebbs s t) : Ebbs s (furtherEdge t) :=
  have hedge : Ebbs s { t with edgeCount := min 255 (t.edgeCount + 1) } := h.then_aside
  hedge.then_announceEvacuation.then_queueModeEverywhere

theorem then_takeEvacuation (h : Ebbs s t) : Ebbs s (takeEvacuation t) := by
  have hline : Ebbs s (lineTaken t) := h.then_aside
  rw [takeEvacuation_eq]
  split
  · exact .then_announceEvacuation hline.then_queueModeEverywhere.then_aside
  · exact hline.then_queueModeEverywhere

/-! ### The sweep's presences, its end, and the walk's start -/

theorem then_presenceStep {i : PoolIx} {m : Nat} (h : Ebbs s t) : Ebbs s (presenceStep i m t) := by
  have hlone : ∀ p u, Ebbs s u → Ebbs s (loneStep i p m u) := fun p u hu => by
    unfold loneStep
    dsimp only
    split
    · exact hu
    · split
      · exact hu.then_post.then_writeJournal.then_setRoomState le_rfl
      · exact hu
  unfold presenceStep
  split
  · exact h
  · next p hp =>
    refine hlone p _ ?_
    have hmark : ∀ b, Ebbs s (t.setPresence i (some { p with overstay := b })) := fun b => h.then_setPresence hp rfl rfl
    unfold overstayStep
    split
    · exact h
    · exact h
    all_goals
      split
      · exact (hmark true).then_post.then_writeJournal.then_report
      · exact h
      · exact hmark false
      · exact h

theorem then_advanceSweep {run : SweepRun} (h : Ebbs s t) : Ebbs s (advanceSweep run t) := by
  have hdone : ∀ u, Ebbs s u → Ebbs s (completeSweep run.full u) := fun u hu => by
    have hreview : Ebbs s (if run.full then postReview u else u) := by
      split
      · exact hu.then_post
      · exact hu
    unfold completeSweep
    generalize (if run.full = true then postReview u else u) = v at hreview
    dsimp only
    split <;> exact hreview.then_aside
  unfold advanceSweep
  split
  · exact h.then_aside
  · split
    · exact h.then_aside
    · exact hdone t h

theorem then_startWalk {l : Link} {kind : WalkKind} {firm : Nat} (h : Ebbs s t) : Ebbs s (startWalk l kind firm t) := by
  refine then_grantNext (then_aside (h.then_setPort fun f hf => ?_))
  obtain ⟨g, hg, rfl⟩ := Option.map_eq_some_iff.mp hf
  exact ⟨g, hg, rfl⟩

/-! ### Ports -/

theorem then_setReception {l : Link} {x : Reception} (h : Ebbs s t) : Ebbs s (setReception l x t) :=
  h.then_setPort fun f hf => ⟨f, hf, rfl⟩

theorem then_refuse {l : Link} {code : Nat} {st : Status} (h : Ebbs s t) : Ebbs s (refuse l code st t) := by
  obtain ⟨q, hq⟩ := refuse_frame l code st t
  rw [hq]
  exact h.then_setPort fun f hf => ⟨f, hf, rfl⟩

theorem then_sendReply {l : Link} {r : Reply} {rest : List Reply} (h : Ebbs s t) : Ebbs s (sendReply l r rest t) := by
  refine h.then_setPort fun f hf => ⟨f, ?_, rfl⟩
  split at hf
  · cases hf
  · exact hf

theorem then_changeMode {l : Link} {m : AttentionMode} (h : Ebbs s t) : Ebbs s (changeMode l m t) := by
  obtain ⟨k, a, hk⟩ := changeMode_frame l m t
  rw [hk]
  exact h.then_setPort fun f hf => ⟨f, hf, rfl⟩

/-- R55, R98, R173: everything under way is dropped. -/
theorem then_quiesce (h : Ebbs s t) : Ebbs s (quiesce t) :=
  h.trans { Ebbs.refl t with
    hold := fun r k hk => by simp [quiesce, State.hold] at hk
    inFlight := fun l f hf => by cases l <;> cases hf }

end Ebbs

end Sys2Proof.Machine
end

section
/-! The laws on the books (O59, O60): what an ebb, a permit replaced and a presence or a hold added leave of them. -/

namespace Sys2Proof.Machine

/-- R49, R80, R86, R91, R99: badges and slots stand apart as O60 says. -/
def BadgesApart (s : State) : Prop := BadgeOnce s ∧ SlotsReferred s

/-- The laws on the books that hold before hold after. -/
structure KeepsBooks (s t : State) : Prop where
  numbers : NumbersDistinct s → NumbersDistinct t
  badges : BadgesBounded s → BadgesBounded t
  rooms : RoomsWithinMaximum s → RoomsWithinMaximum t
  owned : RequestsOwned s → RequestsOwned t
  apart : BadgesApart s → BadgesApart t

theorem KeepsBooks.refl (s : State) : KeepsBooks s s := ⟨id, id, id, id, id⟩

theorem KeepsBooks.trans {s t u : State} (h : KeepsBooks s t) (k : KeepsBooks t u) : KeepsBooks s u :=
  ⟨k.numbers ∘ h.numbers, k.badges ∘ h.badges, k.rooms ∘ h.rooms, k.owned ∘ h.owned, k.apart ∘ h.apart⟩

/-! ### Permits untouched -/

theorem permit_of_permits {s t : State} (h : t.permits = s.permits) (i : SlotNo) : t.permit i = s.permit i := by
  simp only [State.permit, h]

theorem numbersDistinct_of_permits {s t : State} (h : t.permits = s.permits) (hs : NumbersDistinct s) : NumbersDistinct t := by
  simpa only [NumbersDistinct, permit_of_permits h] using hs

theorem badgesBounded_of_permits {s t : State} (h : t.permits = s.permits) (hs : BadgesBounded s) : BadgesBounded t := by
  simpa only [BadgesBounded, liveOrHeldOf, h] using hs

/-! ### An ebb -/

theorem Ebbs.roomsWithinMaximum {s t : State} (h : Ebbs s t) (hs : RoomsWithinMaximum s) : RoomsWithinMaximum t := fun r c hc =>
  (h.count r).trans (hs r c (by simpa only [State.room, h.rooms] using hc))

theorem Ebbs.requestsOwned {s t : State} (h : Ebbs s t) (hs : RequestsOwned s) : RequestsOwned t := fun l f hf => by
  obtain ⟨g, hg, he⟩ := h.inFlight l f hf
  exact he ▸ hs l g hg

theorem Ebbs.badgeOnce {s t : State} (h : Ebbs s t) (hs : BadgeOnce s) : BadgeOnce t where
  presences i j p q hp hq he := by
    obtain ⟨p', hp', hb, -⟩ := h.presence i p hp
    obtain ⟨q', hq', hb', -⟩ := h.presence j q hq
    exact hs.presences i j p' q' hp' hq' (hb.trans (he.trans hb'.symm))
  holds r q x y hx hy he := by
    obtain ⟨x', hx', hb, -⟩ := h.hold r x hx
    obtain ⟨y', hy', hb', -⟩ := h.hold q y hy
    exact hs.holds r q x' y' hx' hy' (hb.trans (he.trans hb'.symm))
  apart r x i p hx hp := by
    obtain ⟨x', hx', hb, -⟩ := h.hold r x hx
    obtain ⟨p', hp', hb', -⟩ := h.presence i p hp
    exact fun he => hs.apart r x' i p' hx' hp' (hb.trans (he.trans hb'.symm))

theorem Ebbs.slotsReferred {s t : State} (h : Ebbs s t) (hs : SlotsReferred s) : SlotsReferred t where
  presences i p hp := by
    obtain ⟨q, hq, -, hslot⟩ := h.presence i p hp
    rw [permit_of_permits h.permits, ← hslot]
    exact hs.presences i q hq
  holds r x hx := by
    obtain ⟨y, hy, hb, hslot⟩ := h.hold r x hx
    rw [permit_of_permits h.permits, ← hslot, ← hb]
    exact hs.holds r y hy

theorem Ebbs.badgesApart {s t : State} (h : Ebbs s t) (hs : BadgesApart s) : BadgesApart t :=
  ⟨h.badgeOnce hs.1, h.slotsReferred hs.2⟩

theorem Ebbs.keepsBooks {s t : State} (h : Ebbs s t) : KeepsBooks s t :=
  ⟨numbersDistinct_of_permits h.permits, badgesBounded_of_permits h.permits, h.roomsWithinMaximum, h.requestsOwned, h.badgesApart⟩

theorem KeepsBooks.then_ebbs {s t u : State} (h : KeepsBooks s t) (k : Ebbs t u) : KeepsBooks s u := h.trans k.keepsBooks

/-! ### A slot replaced -/

/-- R33: how many permits of a badge are live-or-held, as a set of slots. -/
theorem liveOrHeldOf_card (s : State) (badge : Nat) : liveOrHeldOf s badge =
    (Finset.univ.filter fun i => (s.permit i).any (fun p => p.badge == badge && p.standing.liveOrHeld) = true).card := by
  rw [liveOrHeldOf_eq, Claims.heldByBadge, ← List.toFinset_card_of_nodup ((List.nodup_finRange 256).filter _), List.toFinset_filter]
  simp [liveOrHeld_eq]

/-- R33: a slot replaced by a permit no more live-or-held than the one it held leaves no badge more. -/
theorem liveOrHeldOf_setPermit_le {s : State} {i : SlotNo} {p : Permit} {x : Option Permit} (hp : s.permit i = some p)
    (hx : ∀ q, x = some q → q.badge = p.badge ∧ (q.standing.liveOrHeld = true → p.standing.liveOrHeld = true)) (badge : Nat) :
    liveOrHeldOf (s.setPermit i x) badge ≤ liveOrHeldOf s badge := by
  rw [liveOrHeldOf_card, liveOrHeldOf_card]
  refine Finset.card_le_card fun j hj => ?_
  simp only [Finset.mem_filter, Finset.mem_univ, true_and] at hj ⊢
  by_cases e : i = j
  · subst e
    rw [State.setPermit_permit_same] at hj
    cases x with
    | none => cases hj
    | some q =>
      obtain ⟨hb, hl⟩ := hx q rfl
      simp only [Option.any_some, Bool.and_eq_true, beq_iff_eq] at hj
      simpa [hp, ← hb, hj.1] using hl hj.2
  · rwa [State.setPermit_permit_other _ _ _ e] at hj

/-- R33: a slot filled leaves a badge at most one more. -/
theorem liveOrHeldOf_setPermit_succ (s : State) (i : SlotNo) (x : Option Permit) (badge : Nat) :
    liveOrHeldOf (s.setPermit i x) badge ≤ liveOrHeldOf s badge + 1 := by
  rw [liveOrHeldOf_card, liveOrHeldOf_card]
  refine (Finset.card_le_card fun j hj => ?_).trans (Finset.card_insert_le i _)
  by_cases e : i = j
  · simp [e]
  · simpa [e, Ne.symm e] using hj

/-- R33: a slot filled for another badge leaves a badge what it had. -/
theorem liveOrHeldOf_setPermit_other {s : State} {i : SlotNo} {q : Permit} {badge : Nat} (hb : q.badge ≠ badge) :
    liveOrHeldOf (s.setPermit i (some q)) badge ≤ liveOrHeldOf s badge := by
  rw [liveOrHeldOf_card, liveOrHeldOf_card]
  refine Finset.card_le_card fun j hj => ?_
  by_cases e : i = j
  · subst e; simp [hb] at hj
  · simpa [e] using hj

/-- R49: no presence refers to a slot. -/
theorem slotReferred_false (s : State) (i : SlotNo) : slotReferred s i = false ↔ ∀ k x, s.presence k = some x → x.slot ≠ i := by
  have hone : ∀ k, (s.presence k).any (·.slot == i) = false ↔ ∀ x, s.presence k = some x → x.slot ≠ i := fun k => by
    cases s.presence k <;> simp
  simp only [slotReferred, findSlot, Option.isSome_eq_false_iff, Option.isNone_iff_eq_none, List.find?_eq_none, List.mem_finRange,
    true_implies, Bool.not_eq_true, hone]

/-- R91: what a re-test of the holds of a slot and a badge asks of a room's hold. -/
def Retested (i : SlotNo) (badge : Nat) (r : RoomNo) (t : State) : Prop :=
  ∀ k, t.hold r = some k → k.slot = i → k.badge = badge → ∃ q, t.permit i = some q ∧ q.standing.refusal = none

theorem Retested.ebbs {i : SlotNo} {badge : Nat} {r : RoomNo} {t u : State} (h : Retested i badge r t) (k : Ebbs t u) :
    Retested i badge r u := fun x hx hslot hbadge => by
  obtain ⟨y, hy, hb, hs⟩ := k.hold r x hx
  rw [permit_of_permits k.permits]
  exact h y hy (hs.trans hslot) (hb.trans hbadge)

theorem retestHold_retested (i : SlotNo) (badge : Nat) (s : State) (r : RoomNo) : Retested i badge r (retestHold i badge s r) := by
  intro k hk hslot hbadge
  rw [permit_of_permits (Ebbs.then_retestHold (.refl s)).permits]
  unfold retestHold at hk
  split at hk
  · next hnone => rw [hnone] at hk; cases hk
  · next h hh =>
    split at hk
    · split at hk
      · next hlive =>
        cases hp : s.permit i with
        | none => simp [hp] at hlive
        | some p => exact ⟨p, rfl, by simpa [hp] using hlive⟩
      · next why _ =>
        have hgone := (Ebbs.refl (s.setHold r none)).then_refuseAtEntry (own := true) (r := r) (why := why)
        obtain ⟨y, hy, -⟩ := (hgone.then_writeJournal.then_report).hold r k hk
        simp at hy
    · next hc =>
      obtain rfl : h = k := Option.some.inj (hh.symm.trans hk)
      exact absurd ⟨hslot, hbadge⟩ hc

/-- R91: after the holds of a slot and a badge have been re-tested, those left are on a live permit. -/
theorem retestHolds_retested (i : SlotNo) (badge : Nat) (s : State) (r : RoomNo) : Retested i badge r (retestHolds i badge s) := by
  unfold retestHolds
  have hr := List.mem_finRange r
  generalize List.finRange 64 = qs at hr ⊢
  induction qs generalizing s with
  | nil => cases hr
  | cons q qs ih =>
    rw [List.foldl_cons]
    rcases List.mem_cons.mp hr with rfl | hr
    · exact (retestHold_retested i badge s r).ebbs (Ebbs.then_foldl (fun _ _ => Ebbs.then_retestHold) qs (.refl _))
    · exact ih _ hr

/-- A slot replaced leaves every other field of the books. -/
theorem setPermit_badgeOnce {s : State} (i : SlotNo) (x : Option Permit) (hs : BadgeOnce s) : BadgeOnce (s.setPermit i x) :=
  ⟨hs.presences, hs.holds, hs.apart⟩

/-- R33, R35, R49, R91: a permit replaced by another of its number and badge, or a slot that nobody refers to made VACANT, keeps the
laws once the holds have been re-tested. -/
theorem permitChanged_keepsBooks {i : SlotNo} {p : Permit} {x : Option Permit} {s t : State} (hp : s.permit i = some p)
    (hx : ∀ q, x = some q → q.number = p.number ∧ q.badge = p.badge ∧
      (q.standing.liveOrHeld = true → p.standing.liveOrHeld = true))
    (hnone : x = none → slotReferred s i = false) (h : Ebbs (s.setPermit i x) t) :
    KeepsBooks s (retestHolds i p.badge t) := by
  have he : Ebbs (s.setPermit i x) (retestHolds i p.badge t) := h.then_retestHolds
  have hstay : ∀ j, i ≠ j → (retestHolds i p.badge t).permit j = s.permit j := fun j hj => by
    rw [permit_of_permits he.permits, State.setPermit_permit_other _ _ _ hj]
  have hnew : (retestHolds i p.badge t).permit i = x := by rw [permit_of_permits he.permits, State.setPermit_permit_same]
  refine ⟨fun hs => numbersDistinct_of_permits he.permits ?_, fun hs => badgesBounded_of_permits he.permits ?_,
    fun hs => he.roomsWithinMaximum hs, fun hs => he.requestsOwned hs, fun hs =>
      ⟨he.badgeOnce (setPermit_badgeOnce i x hs.1), ?_, ?_⟩⟩
  · have hfrom : ∀ j q, (s.setPermit i x).permit j = some q → ∃ q', s.permit j = some q' ∧ q'.number = q.number := fun j q hq => by
      by_cases e : i = j
      · subst e
        obtain ⟨hn, -⟩ := hx q (by simpa using hq)
        exact ⟨p, hp, hn.symm⟩
      · exact ⟨q, by simpa [e] using hq, rfl⟩
    intro j k q q' hq hq' hn
    obtain ⟨y, hy, hyn⟩ := hfrom j q hq
    obtain ⟨z, hz, hzn⟩ := hfrom k q' hq'
    exact hs j k y z hy hz (hyn.trans (hn.trans hzn.symm))
  · exact fun b => (liveOrHeldOf_setPermit_le hp (fun q hq => (hx q hq).2) b).trans (hs b)
  · intro k y hy
    obtain ⟨z, hz, -, hslot⟩ := he.presence k y hy
    by_cases e : i = y.slot
    · rw [← e, hnew]
      cases x with
      | some q => rfl
      | none => exact absurd (hslot.trans e.symm) ((slotReferred_false s i).mp (hnone rfl) k z hz)
    · rw [hstay _ e, ← hslot]
      exact hs.2.presences k z hz
  · intro r y hy
    obtain ⟨z, hz, hbadge, hslot⟩ := he.hold r y hy
    obtain ⟨q, hq, hqb, hql⟩ := hs.2.holds r z hz
    by_cases e : i = y.slot
    · obtain rfl : p = q := Option.some.inj (hp.symm.trans (e.trans hslot.symm ▸ hq))
      have hyb : y.badge = p.badge := (hqb.trans hbadge).symm
      obtain ⟨q', hq', hlive⟩ := retestHolds_retested i p.badge t r y hy e.symm hyb
      refine ⟨q', e ▸ hq', ?_, hlive⟩
      exact (hx q' (hnew.symm.trans hq')).2.1.trans hyb.symm
    · exact ⟨q, by rw [hstay _ e, ← hslot]; exact hq, hqb.trans hbadge, hql⟩

/-- R33, R39: a VACANT slot filled with a number that no slot holds, for a badge with a place left. -/
theorem permitDrafted_keepsBooks {i : SlotNo} {q : Permit} {s t : State} (hi : s.permit i = none)
    (hn : ∀ j p, s.permit j = some p → p.number ≠ q.number) (hb : liveOrHeldOf s q.badge < Config.badgeLimit)
    (h : Ebbs (s.setPermit i (some q)) t) : KeepsBooks s t := by
  have hother : ∀ j p, (s.setPermit i (some q)).permit j = some p → (i = j ∧ q = p) ∨ (i ≠ j ∧ s.permit j = some p) := fun j p hp => by
    by_cases e : i = j
    · subst e; exact .inl ⟨rfl, by simpa using hp⟩
    · exact .inr ⟨e, by simpa [e] using hp⟩
  refine ⟨fun hs => numbersDistinct_of_permits h.permits ?_, fun hs => badgesBounded_of_permits h.permits ?_,
    fun hs => h.roomsWithinMaximum hs, fun hs => h.requestsOwned hs, fun hs => h.badgesApart
      ⟨setPermit_badgeOnce i _ hs.1, ?_, ?_⟩⟩
  · intro j k x y hx hy he
    rcases hother j x hx with ⟨rfl, rfl⟩ | ⟨-, hx⟩ <;> rcases hother k y hy with ⟨rfl, rfl⟩ | ⟨-, hy⟩
    · rfl
    · exact absurd he.symm (hn k y hy)
    · exact absurd he (hn j x hx)
    · exact hs j k x y hx hy he
  · intro b
    by_cases e : q.badge = b
    · subst e
      exact (liveOrHeldOf_setPermit_succ s i (some q) q.badge).trans hb
    · exact (liveOrHeldOf_setPermit_other e).trans (hs b)
  · intro k x hx
    by_cases e : i = x.slot
    · rw [← e, State.setPermit_permit_same]; rfl
    · rw [State.setPermit_permit_other _ _ _ e]
      exact hs.2.presences k x hx
  · intro r x hx
    obtain ⟨p, hp, hrest⟩ := hs.2.holds r x hx
    have e : i ≠ x.slot := fun e => by rw [← e, hi] at hp; cases hp
    exact ⟨p, by rw [State.setPermit_permit_other _ _ _ e]; exact hp, hrest⟩

end Sys2Proof.Machine
end

section
/-! What a decision makes of the books (O59, O60): who is admitted or held is a stranger to the register and the holds, with a live permit
of the badge, at a room that has the places. -/

namespace Sys2Proof.Machine

/-! ### Presences and holds added -/

/-- R80: a badge has no presence and is the first badge of no hold. -/
structure Stranger (badge : Nat) (s : State) : Prop where
  presence : ∀ i p, s.presence i = some p → p.badge ≠ badge
  hold : ∀ r h, s.hold r = some h → h.badge ≠ badge

theorem Ebbs.stranger {badge : Nat} {s t : State} (h : Ebbs s t) (hs : Stranger badge s) : Stranger badge t where
  presence i p hp := by
    obtain ⟨q, hq, hb, -⟩ := h.presence i p hp
    exact hb ▸ hs.presence i q hq
  hold r x hx := by
    obtain ⟨y, hy, hb, -⟩ := h.hold r x hx
    exact hb ▸ hs.hold r y hy

/-- R78: a slot holds a live permit of a badge. -/
def LiveSlot (i : SlotNo) (badge : Nat) (s : State) : Prop :=
  ∃ p, s.permit i = some p ∧ p.badge = badge ∧ p.standing.refusal = none

theorem Ebbs.liveSlot {i : SlotNo} {badge : Nat} {s t : State} (h : Ebbs s t) (hs : LiveSlot i badge s) : LiveSlot i badge t := by
  obtain ⟨p, hp, hrest⟩ := hs
  exact ⟨p, by rw [permit_of_permits h.permits]; exact hp, hrest⟩

/-- R83: a room has places for so many more. -/
def HasPlaces (r : RoomNo) (n : Nat) (s : State) : Prop := ∀ c, s.room r = some c → roomCount s r + n ≤ c.maximum

theorem Ebbs.hasPlaces {r : RoomNo} {n : Nat} {s t : State} (h : Ebbs s t) (hs : HasPlaces r n s) : HasPlaces r n t := fun c hc =>
  (Nat.add_le_add_right (h.count r) n).trans (hs c (by simpa only [State.room, h.rooms] using hc))

theorem fullness_none {s : State} {r : RoomNo} {n : Nat} (h : fullness s r n = none) : HasPlaces r n s := fun c hc => by
  unfold fullness at h
  split at h
  · cases h
  · next hn => simpa [hc] using hn

/-- R84: a presence added takes a free record and lengthens its room's list by one. -/
theorem addPresence_cases (p : Presence) (s : State) : (addPresence p s).1 = s ∨ ∃ i, s.presence i = none ∧
    (addPresence p s).1 = (s.setPresence i (some p)).setRoomState p.room
      { s.roomState p.room with list := (s.roomState p.room).list ++ [i] } := by
  unfold addPresence
  split
  · exact .inl rfl
  · next i hi =>
    exact .inr ⟨i, by simpa using List.find?_some hi, rfl⟩

theorem setRoomState_roomCount (s : State) (r q : RoomNo) (o : RoomOccupancy) :
    roomCount (s.setRoomState r o) q = if r = q then o.list.length else roomCount s q := by
  unfold roomCount
  split
  · next e => subst e; simp
  · next e => simp [e]

theorem addPresence_roomCount (p : Presence) (s : State) (r : RoomNo) :
    roomCount (addPresence p s).1 r ≤ roomCount s r + if p.room = r then 1 else 0 := by
  rcases addPresence_cases p s with h | ⟨i, -, h⟩
  · rw [h]; exact Nat.le_add_right ..
  · rw [h, setRoomState_roomCount]
    split
    · next e => subst e; simp [roomCount]
    · exact le_rfl

theorem addPresence_hold (p : Presence) (s : State) (r : RoomNo) : (addPresence p s).1.hold r = s.hold r := by
  rcases addPresence_cases p s with h | ⟨i, -, h⟩ <;> rw [h]
  simp

theorem addPresence_port (p : Presence) (s : State) (l : Link) : (addPresence p s).1.port l = s.port l := by
  rcases addPresence_cases p s with h | ⟨i, -, h⟩ <;> rw [h]
  simp

theorem addPresence_presence {p : Presence} {s : State} {i : PoolIx} {q : Presence} (h : (addPresence p s).1.presence i = some q) :
    q = p ∨ s.presence i = some q := by
  rcases addPresence_cases p s with e | ⟨k, -, e⟩
  · rw [e] at h; exact .inr h
  · rw [e] at h
    by_cases hk : k = i
    · subst hk; exact .inl (by simpa using h.symm)
    · exact .inr (by simpa [hk] using h)

/-- R80, R84, R99: a stranger's presence on a live slot of its badge keeps badges apart. -/
theorem addPresence_apart {p : Presence} {s : State} (hs : BadgesApart s) (hn : Stranger p.badge s)
    (hl : ∃ b, LiveSlot p.slot b s) : BadgesApart (addPresence p s).1 := by
  rcases addPresence_cases p s with e | ⟨k, -, e⟩
  · rwa [e]
  obtain ⟨hone, href⟩ := hs
  have hold : ∀ r, (addPresence p s).1.hold r = s.hold r := addPresence_hold p s
  have hpermit : ∀ i, (addPresence p s).1.permit i = s.permit i := permit_of_permits (addPresence_kept p s).permits
  have hcase : ∀ i q, (addPresence p s).1.presence i = some q → (i = k ∧ q = p) ∨ s.presence i = some q := fun i q hq => by
    rw [e] at hq
    by_cases hk : k = i
    · subst hk; exact .inl ⟨rfl, by simpa using hq.symm⟩
    · exact .inr (by simpa [hk] using hq)
  refine ⟨⟨fun i j x y hx hy hb => ?_, fun r q x y hx hy hb => ?_, fun r x i y hx hy => ?_⟩, fun i y hy => ?_, fun r x hx => ?_⟩
  · rcases hcase i x hx with ⟨rfl, rfl⟩ | hx' <;> rcases hcase j y hy with ⟨rfl, rfl⟩ | hy'
    · rfl
    · exact absurd hb.symm (hn.presence j y hy')
    · exact absurd hb (hn.presence i x hx')
    · exact hone.presences i j x y hx' hy' hb
  · exact hone.holds r q x y (hold r ▸ hx) (hold q ▸ hy) hb
  · rcases hcase i y hy with ⟨rfl, rfl⟩ | hy
    · exact hn.hold r x (hold r ▸ hx)
    · exact hone.apart r x i y (hold r ▸ hx) hy
  · rw [hpermit]
    rcases hcase i y hy with ⟨rfl, rfl⟩ | hy
    · obtain ⟨b, q, hq, -⟩ := hl
      simp [hq]
    · exact href.presences i y hy
  · rw [hpermit]
    exact href.holds r x (hold r ▸ hx)

theorem addPresence_rooms {p : Presence} {s : State} (hs : RoomsWithinMaximum s) (hp : HasPlaces p.room 1 s) :
    RoomsWithinMaximum (addPresence p s).1 := fun r c hc => by
  have hc' : s.room r = some c := by simpa only [State.room, (addPresence_kept p s).rooms] using hc
  refine (addPresence_roomCount p s r).trans ?_
  split
  · next e => subst e; exact hp c hc'
  · exact hs r c hc'

/-- Permits and requests in flight stay: the laws on the rooms and on badges are what is left to see. -/
theorem keepsBooks_of_permits {s t : State} (hp : t.permits = s.permits) (ho : RequestsOwned s → RequestsOwned t)
    (hr : RoomsWithinMaximum s → RoomsWithinMaximum t) (ha : BadgesApart s → BadgesApart t) : KeepsBooks s t :=
  ⟨numbersDistinct_of_permits hp, badgesBounded_of_permits hp, hr, ho, ha⟩

theorem addPresence_requestsOwned {p : Presence} {s : State} (hs : RequestsOwned s) : RequestsOwned (addPresence p s).1 := fun l => by
  rw [addPresence_port]; exact hs l

/-- R84: one person let in. -/
theorem addPresence_keepsBooks {p : Presence} {s u : State} (h : Ebbs s u) (hn : BadgesApart s → Stranger p.badge u)
    (hl : ∃ b, LiveSlot p.slot b s) (hp : HasPlaces p.room 1 u) : KeepsBooks s (addPresence p u).1 :=
  keepsBooks_of_permits ((addPresence_kept p u).permits.trans h.permits)
    (fun hs => addPresence_requestsOwned (h.requestsOwned hs)) (fun hs => addPresence_rooms (h.roomsWithinMaximum hs) hp)
    fun hs => addPresence_apart (h.badgesApart hs) (hn hs) (hl.imp fun _ => h.liveSlot)

/-- R86: a hold opened for a stranger on a live slot of its badge. -/
theorem setHold_keepsBooks {r : RoomNo} {x : Hold} {s u : State} (h : Ebbs s u) (hn : BadgesApart s → Stranger x.badge u)
    (hl : LiveSlot x.slot x.badge s) : KeepsBooks s (u.setHold r (some x)) := by
  refine keepsBooks_of_permits h.permits h.requestsOwned h.roomsWithinMaximum fun hs => ?_
  obtain ⟨hone, href⟩ := h.badgesApart hs
  have hnew := hn hs
  have hcase : ∀ q y, (u.setHold r (some x)).hold q = some y → (q = r ∧ y = x) ∨ u.hold q = some y := fun q y hy => by
    by_cases e : r = q
    · subst e; exact .inl ⟨rfl, by simpa using hy.symm⟩
    · exact .inr (by simpa [e] using hy)
  refine ⟨⟨hone.presences, fun q k y z hy hz hb => ?_, fun q y i p hy hp => ?_⟩, href.presences, fun q y hy => ?_⟩
  · rcases hcase q y hy with ⟨rfl, rfl⟩ | hy' <;> rcases hcase k z hz with ⟨rfl, rfl⟩ | hz'
    · rfl
    · exact absurd hb.symm (hnew.hold k z hz')
    · exact absurd hb (hnew.hold q y hy')
    · exact hone.holds q k y z hy' hz' hb
  · rcases hcase q y hy with ⟨rfl, rfl⟩ | hy
    · exact fun e => hnew.presence i p hp e.symm
    · exact hone.apart q y i p hy hp
  · rcases hcase q y hy with ⟨rfl, rfl⟩ | hy
    · exact h.liveSlot hl
    · exact href.holds q y hy

/-- R81: a presence put on another slot that is not VACANT. -/
theorem setPresence_keepsBooks {i : PoolIx} {p q : Presence} {s : State} (hp : s.presence i = some p) (hb : q.badge = p.badge)
    (hl : ∃ b, LiveSlot q.slot b s) : KeepsBooks s (s.setPresence i (some q)) := by
  refine keepsBooks_of_permits rfl id id fun ⟨hone, href⟩ => ?_
  have hcase : ∀ k x, (s.setPresence i (some q)).presence k = some x → ∃ y, s.presence k = some y ∧ y.badge = x.badge := fun k x hx => by
    by_cases e : i = k
    · subst e
      obtain rfl : q = x := by simpa using hx
      exact ⟨p, hp, hb.symm⟩
    · exact ⟨x, by simpa [e] using hx, rfl⟩
  refine ⟨⟨fun j k x y hx hy he => ?_, hone.holds, fun r x k y hx hy => ?_⟩, fun k x hx => ?_, href.holds⟩
  · obtain ⟨x', hx', hxb⟩ := hcase j x hx
    obtain ⟨y', hy', hyb⟩ := hcase k y hy
    exact hone.presences j k x' y' hx' hy' (hxb.trans (he.trans hyb.symm))
  · obtain ⟨y', hy', hyb⟩ := hcase k y hy
    exact hyb ▸ hone.apart r x k y' hx hy'
  · by_cases e : i = k
    · subst e
      obtain rfl : q = x := by simpa using hx
      obtain ⟨b, x, hx, -⟩ := hl
      simp [hx]
    · exact href.presences k x (by simpa [e] using hx)

/-! ### Step 4 and step 5 -/

/-- R64: a permit that passes is live. -/
theorem evaluate_live {s : State} {p : Permit} {r : RoomNo} {n e m : Nat} {u : Purpose} (h : evaluate s p r n u = .passes e m) :
    p.standing.refusal = none := by
  cases hr : p.standing.refusal with
  | none => rfl
  | some why => simp [evaluate, hr] at h

theorem candidates_badge {s : State} {badge : Nat} {i : SlotNo} {p : Permit} (h : (i, p) ∈ candidates s badge) :
    s.permit i = some p ∧ p.badge = badge := by
  simp only [candidates, List.mem_filterMap, List.mem_finRange, true_and, Option.map_eq_some_iff, Option.filter_eq_some_iff,
    Prod.mk.injEq, beq_iff_eq] at h
  obtain ⟨j, q, ⟨hq, hb⟩, rfl, rfl⟩ := h
  exact ⟨hq, hb⟩

/-- R78: the permit chosen is a live one of the badge. -/
theorem choose_live {s : State} {r : RoomNo} {n badge : Nat} (cs : List (SlotNo × Permit))
    (hcs : ∀ i p, (i, p) ∈ cs → s.permit i = some p ∧ p.badge = badge) {best : Option Chosen}
    (hbest : ∀ c, best = some c → LiveSlot c.slot badge s) (c : Chosen) (h : choose s r n cs best = some c) :
    LiveSlot c.slot badge s := by
  induction cs generalizing best with
  | nil => exact hbest c h
  | cons x cs ih =>
    obtain ⟨i, p⟩ := x
    have hrest := fun j q hq => hcs j q (List.mem_cons_of_mem _ hq)
    unfold choose at h
    split at h
    · exact ih hrest hbest h
    · next e m hpass =>
      split at h
      · exact ih hrest hbest h
      · refine ih hrest (fun c hc => ?_) h
        obtain rfl := Option.some.inj hc
        obtain ⟨hp, hb⟩ := hcs i p List.mem_cons_self
        exact ⟨p, hp, hb, evaluate_live hpass⟩

theorem withPermit_keepsBooks {a : LoopAddr} {r : RoomNo} {badge : Nat} {go : Chosen → State → State} {s : State}
    (hgo : ∀ c, LiveSlot c.slot badge s → KeepsBooks s (go c s)) : KeepsBooks s (withPermit a r badge go s) := by
  unfold withPermit
  dsimp only
  split
  · next c hc => exact hgo c (choose_live _ (fun _ _ => candidates_badge) (fun _ h => by cases h) c hc)
  · split
    · exact (Ebbs.refl s).then_deny.keepsBooks
    · exact (Ebbs.refl s).then_deny.keepsBooks

theorem findBadge_some {s : State} {badge : Nat} {i : PoolIx} (h : findBadge s badge = some i) :
    ∃ p, s.presence i = some p ∧ p.badge = badge := by
  have hi := List.find?_some h
  cases hp : s.presence i with
  | none => simp [hp] at hi
  | some p => exact ⟨p, rfl, by simpa [hp] using hi⟩

theorem findBadge_none {s : State} {badge : Nat} (h : findBadge s badge = none) (i : PoolIx) (p : Presence)
    (hp : s.presence i = some p) : p.badge ≠ badge := by
  have hi := List.find?_eq_none.mp h i (List.mem_finRange i)
  simpa [hp] using hi

theorem holdsElsewhere_false {s : State} {r : RoomNo} {badge : Nat} (h : holdsElsewhere s r badge = false) {q : RoomNo} (hq : q ≠ r)
    (x : Hold) (hx : s.hold q = some x) : x.badge ≠ badge := by
  have hall := List.any_eq_false.mp h q (List.mem_finRange q)
  simpa [hq, hx] using hall

theorem removePresence_hold (i : PoolIx) (s : State) (r : RoomNo) : (removePresence i s).hold r = s.hold r := by
  unfold removePresence
  split <;> rfl

/-- R80: after an UNVERIFIED presence has yielded to the read, the badge has none and is on no hold. -/
theorem yieldPresence_stranger {i : PoolIx} {p : Presence} {s : State} (hs : BadgesApart s) (hp : s.presence i = some p) :
    Stranger p.badge (yieldPresence i p s) := by
  have hgone : Stranger p.badge (removePresence i s) := by
    constructor
    · intro k x hx
      rw [removePresence_presence] at hx
      split at hx
      · cases hx
      · next e => exact fun hb => e (hs.1.presences k i x p hx hp hb)
    · intro r x hx
      rw [removePresence_hold] at hx
      exact hs.1.apart r x i p hx hp
  exact ((Ebbs.refl _).then_writeJournal.then_reexamine).stranger hgone

/-- R80, R81: step 5 goes on only with a badge that is a stranger, once the presence that yields is gone. -/
theorem passback_keepsBooks {a : LoopAddr} {r : RoomNo} {badge : Nat} {here : PoolIx → Presence → State → State} {go : State → State}
    {s : State} (hr : ∀ x, s.hold r = some x → x.badge ≠ badge)
    (hhere : ∀ i p, s.presence i = some p → KeepsBooks s (here i p s))
    (hgo : ∀ u, Ebbs s u → (BadgesApart s → Stranger badge u) → KeepsBooks s (go u)) :
    KeepsBooks s (passback a r badge here go s) := by
  unfold passback
  split
  · next hnone =>
    split
    · exact (Ebbs.refl s).then_deny.keepsBooks
    · next helse =>
      refine hgo s (.refl s) fun _ => ⟨findBadge_none hnone, fun q x hx => ?_⟩
      by_cases e : q = r
      · subst e; exact hr x hx
      · exact holdsElsewhere_false (by simpa using helse) e x hx
  · next i hi =>
    obtain ⟨p, hp, rfl⟩ := findBadge_some hi
    simp only [hp]
    split
    · exact hhere i p hp
    · split
      · exact hgo _ (Ebbs.refl s).then_yieldPresence fun hs => yieldPresence_stranger hs hp
      · exact (Ebbs.refl s).then_deny.keepsBooks

/-! ### Grants and holds -/

theorem reEnter_keepsBooks {a : LoopAddr} {r : RoomNo} {badge : Nat} {c : Chosen} {i : PoolIx} {p : Presence} {s : State}
    (hp : s.presence i = some p) (hc : LiveSlot c.slot badge s) : KeepsBooks s (reEnter a r badge c i p s) := by
  have huncarried := (Ebbs.refl s).then_uncarry (who := [i])
  have hput := setPresence_keepsBooks (s := uncarry [i] s) (q := { p with state := .inside, slot := c.slot }) hp rfl
    ⟨badge, huncarried.liveSlot hc⟩
  exact (huncarried.keepsBooks.trans hput).then_ebbs
    (Ebbs.refl _).then_queueDecision.then_writeJournal.then_report.then_reexamine

theorem admitOrHold_keepsBooks {a : LoopAddr} {r : RoomNo} {badge : Nat} {c : Chosen} {s u : State} (h : Ebbs s u)
    (hn : BadgesApart s → Stranger badge u) (hc : LiveSlot c.slot badge s) : KeepsBooks s (admitOrHold a r badge c u) := by
  unfold admitOrHold
  split
  · split
    · exact h.then_deny.keepsBooks
    · next hfull =>
      exact (addPresence_keepsBooks (p := arrival r badge c.slot u) h hn ⟨badge, hc⟩ (fullness_none hfull)).then_ebbs
        (Ebbs.refl _).then_queueDecision.then_writeJournal.then_report.then_reexamine
  · split
    · exact h.then_deny.keepsBooks
    · exact (setHold_keepsBooks (r := r) h hn hc).then_ebbs (Ebbs.refl _).then_queueDecision.then_writeJournal

theorem decideOpen_keepsBooks {a : LoopAddr} {r : RoomNo} {badge : Nat} {s : State} (hr : s.hold r = none) :
    KeepsBooks s (decideOpen a r badge s) := by
  refine withPermit_keepsBooks fun c hc => passback_keepsBooks (fun x hx => by simp [hr] at hx) (fun i p hp => ?_)
    fun u h hn => admitOrHold_keepsBooks h hn hc
  split
  · exact (Ebbs.refl s).then_repeatArriving.keepsBooks
  · exact reEnter_keepsBooks hp hc

/-- R89: two strangers let in at a room that has places for both. -/
theorem addPresences_keepsBooks {p q : Presence} {r : RoomNo} {s u : State} (h : Ebbs s u) (hpr : p.room = r) (hqr : q.room = r)
    (hplaces : HasPlaces r 2 u) (hne : p.badge ≠ q.badge)
    (hn : BadgesApart s → Stranger p.badge u ∧ Stranger q.badge u)
    (hl : BadgesApart s → (∃ b, LiveSlot p.slot b u) ∧ ∃ b, LiveSlot q.slot b u) :
    KeepsBooks s (addPresence q (addPresence p u).1).1 := by
  have hpermits : (addPresence p u).1.permits = u.permits := (addPresence_kept p u).permits
  have hrooms : ∀ k, (addPresence p u).1.room k = u.room k := fun k => by simp only [State.room, (addPresence_kept p u).rooms]
  have hcount : roomCount (addPresence p u).1 r ≤ roomCount u r + 1 := by
    simpa [hpr] using addPresence_roomCount p u r
  refine keepsBooks_of_permits ((addPresence_kept q _).permits.trans (hpermits.trans h.permits))
    (fun hs => addPresence_requestsOwned (addPresence_requestsOwned (h.requestsOwned hs)))
    (fun hs => addPresence_rooms (addPresence_rooms (h.roomsWithinMaximum hs) fun c hc => ?_) fun c hc => ?_) fun hs => ?_
  · subst hpr
    exact (Nat.add_le_add_left one_le_two _).trans (hplaces c hc)
  · rw [hqr] at hc ⊢
    exact (Nat.add_le_add_right hcount 1).trans (hplaces c (hrooms r ▸ hc))
  · obtain ⟨hp, hq⟩ := hn hs
    obtain ⟨hpl, b, x, hx, hrest⟩ := hl hs
    refine addPresence_apart (addPresence_apart (h.badgesApart hs) hp hpl) ⟨fun i y hy => ?_, fun k y hy => ?_⟩
      ⟨b, x, by rw [permit_of_permits hpermits]; exact hx, hrest⟩
    · rcases addPresence_presence hy with rfl | hy
      · exact hne
      · exact hq.presence i y hy
    · rw [addPresence_hold] at hy
      exact hq.hold k y hy

/-- R89: the pair let in on one release, the first from its hold. -/
theorem admitPair_keepsBooks {a : LoopAddr} {r : RoomNo} {x : Hold} {badge : Nat} {c : Chosen} {s u : State} (h : Ebbs s u)
    (hx : s.hold r = some x) (hne : x.badge ≠ badge) (hn : BadgesApart s → Stranger badge u) (hc : LiveSlot c.slot badge s)
    (hp : HasPlaces r 2 u) : KeepsBooks s (admitPair a r x badge c u) := by
  have hfree : Ebbs s (u.setHold r none) := h.then_noHold
  have hfirst : BadgesApart s → Stranger x.badge (u.setHold r none) := fun hs => by
    refine ⟨fun i p hp e => ?_, fun k y hy e => ?_⟩
    · obtain ⟨p', hp', hb, -⟩ := hfree.presence i p hp
      exact hs.1.apart r x i p' hx hp' (e.symm.trans hb.symm)
    · obtain ⟨z, hz, hb, -⟩ := hfree.hold k y hy
      obtain rfl : k = r := hs.1.holds k r z x hz hx (hb.trans e)
      simp at hy
  have hpair := addPresences_keepsBooks (p := arrival r x.badge x.slot u) (q := arrival r badge c.slot u) hfree rfl rfl
    ((Ebbs.refl u).then_noHold.hasPlaces hp) hne (fun hs => ⟨hfirst hs, (Ebbs.refl u).then_noHold.stranger (hn hs)⟩)
    fun hs => ⟨⟨x.badge, hfree.liveSlot (hs.2.holds r x hx)⟩, badge, hfree.liveSlot hc⟩
  exact hpair.then_ebbs (Ebbs.refl _).then_queueDecision.then_writeJournal.then_writeJournal.then_report.then_reexamine

theorem decidePartner_keepsBooks {a : LoopAddr} {r : RoomNo} {x : Hold} {badge : Nat} {s : State} (hx : s.hold r = some x) :
    KeepsBooks s (decidePartner a r x badge s) := by
  unfold decidePartner
  split
  · exact (Ebbs.refl s).then_queueDecision.keepsBooks
  · next hne =>
    split
    · exact withPermit_keepsBooks fun c _ => (Ebbs.refl s).then_repeatArriving.keepsBooks
    · exact (Ebbs.refl s).then_deny.keepsBooks
    · refine withPermit_keepsBooks fun c hc => passback_keepsBooks (fun y hy => ?_)
        (fun _ _ _ => (Ebbs.refl s).then_deny.keepsBooks) fun u h hn => ?_
      · obtain rfl := Option.some.inj (hx.symm.trans hy)
        exact hne
      · unfold testPair
        split
        · exact h.then_deny.keepsBooks
        · split
          · exact h.then_deny.keepsBooks
          · next hfull => exact admitPair_keepsBooks h hx hne hn hc (fullness_none hfull)

theorem decideEntry_keepsBooks (a : LoopAddr) (badge : Nat) (s : State) : KeepsBooks s (decideEntry a badge s) := by
  have hdeny : ∀ room why permit, KeepsBooks s (deny a room badge why permit s) := fun _ _ _ => (Ebbs.refl s).then_deny.keepsBooks
  unfold decideEntry
  split
  · exact .refl s
  · exact hdeny ..
  · exact hdeny ..
  · split
    · exact hdeny ..
    · split
      · exact hdeny ..
      · split
        · next x hx => exact decidePartner_keepsBooks hx
        · next hnone => exact decideOpen_keepsBooks hnone

/-- R74, R75: a decision keeps the laws on the books. -/
theorem serveDecision_keepsBooks (rd : Read) (clearAfter : Bool) (s : State) : KeepsBooks s (serveDecision rd clearAfter s) := by
  unfold serveDecision
  split
  · exact (decideEntry_keepsBooks ..).then_ebbs (Ebbs.refl _).then_endRead
  · exact (Ebbs.refl s).then_decideExit.then_endRead.keepsBooks

end Sys2Proof.Machine
end

section
/-! The requests on permits, the sweep and the walks, and every command: the laws on the books (O59, O60). -/

namespace Sys2Proof.Machine

theorem badgesApart_of_same {s t : State} (hp : t.permits = s.permits) (hq : t.pool = s.pool) (hh : t.holds = s.holds)
    (hs : BadgesApart s) : BadgesApart t :=
  let ⟨hone, href⟩ := hs
  have presence : ∀ i, t.presence i = s.presence i := fun i => by simp only [State.presence, hq]
  have hold : ∀ r, t.hold r = s.hold r := fun r => by simp only [State.hold, hh]
  ⟨⟨by simpa only [presence] using hone.presences, by simpa only [hold] using hone.holds,
      by simpa only [presence, hold] using hone.apart⟩,
      by simpa only [presence, permit_of_permits hp] using href.presences,
      by simpa only [hold, permit_of_permits hp] using href.holds⟩

/-! ### Permits replaced -/

/-- R34: what a change of a permit never does: give it another number or badge, or make a terminal one live or held again. -/
structure SamePermit (p q : Permit) : Prop where
  number : q.number = p.number := by rfl
  badge : q.badge = p.badge := by rfl
  liveOrHeld : q.standing.liveOrHeld = true → p.standing.liveOrHeld = true

/-- R38, R91: a permit's change journalled, whatever is posted before the holds are re-tested. -/
theorem changePermit_keepsBooks {i : SlotNo} {p q : Permit} {old : PermitState} {source : Source} {s t : State}
    (hp : s.permit i = some p) (hq : SamePermit p q) (h : Ebbs (changePermit i old q source s) t) :
    KeepsBooks s (retestHolds i p.badge t) := by
  have hchange : Ebbs (s.setPermit i (some q)) (changePermit i old q source s) := (Ebbs.refl _).then_writeJournal
  refine permitChanged_keepsBooks hp (fun x hx => ?_) (fun hx => by cases hx) (hchange.trans h)
  obtain rfl := Option.some.inj hx
  exact ⟨hq.number, hq.badge, hq.liveOrHeld⟩

/-- R38, R49, R91: a slot that no presence refers to made VACANT. -/
theorem vacate_keepsBooks {i : SlotNo} {p : Permit} {source : Source} {s : State} (hp : s.permit i = some p)
    (hn : slotReferred s i = false) : KeepsBooks s (retestHolds i p.badge (vacate i p source s)) :=
  permitChanged_keepsBooks hp (fun _ h => by cases h) (fun _ => hn) (Ebbs.refl (s.setPermit i none)).then_writeJournal

theorem lookup_keepsBooks {l : Link} {n : Nat} {found : SlotNo → Permit → State → State} {s : State}
    (hf : ∀ i p, s.permit i = some p → KeepsBooks s (found i p s)) : KeepsBooks s (lookup l n found s) := by
  unfold lookup
  split
  · exact (Ebbs.refl s).then_reply.keepsBooks
  · split
    · exact (Ebbs.refl s).then_reply.keepsBooks
    · next hp => exact hf _ _ hp

/-- R36: a request that fails a check is answered, and one that passes them all is accepted. -/
theorem checked_keepsBooks {l : Link} {checks : List (Bool × Status)} {f : State → State} {s : State}
    (hf : firstFailing checks = none → KeepsBooks s (f s)) : KeepsBooks s (checked l checks f s) := by
  unfold checked
  split
  · exact (Ebbs.refl s).then_reply.keepsBooks
  · next h => exact hf h

/-- R36: every check passes. -/
theorem firstFailing_cons_none (b : Bool) (st : Status) (rest : List (Bool × Status)) :
    firstFailing ((b, st) :: rest) = none ↔ b = false ∧ firstFailing rest = none := by
  cases b <;> simp

/-! ### The requests on permits -/

theorem vacantSlot_vacant {s : State} {i : SlotNo} (h : vacantSlot s = some i) : s.permit i = none := by
  simpa using List.find?_some h

/-- R37: a number that no slot holds. -/
theorem findPermit_none {s : State} {n : Nat} (h : findPermit s n = none) (j : SlotNo) (p : Permit) (hp : s.permit j = some p) :
    p.number ≠ n := by
  have hj := List.find?_eq_none.mp h j (List.mem_finRange j)
  simpa [hp] using hj

/-- R33, R39: a draft that passes its checks finds its slot VACANT, its number unused and a place for its badge. -/
theorem draft_accepted {b : DraftBody} {s : State} (h : firstFailing (draftChecks b s) = none) :
    (∃ i, draftSlot b s = some i ∧ s.permit i = none) ∧ findPermit s b.permit = none ∧ liveOrHeldOf s b.badge < Config.badgeLimit := by
  simp only [draftChecks, firstFailing_cons_none] at h
  obtain ⟨-, -, hnumber, hfull, hslot, -, -, -, hlimit, -⟩ := h
  refine ⟨?_, by simpa using hnumber, by simpa using hlimit⟩
  unfold draftSlot
  split
  · obtain ⟨i, hi⟩ := Option.isSome_iff_exists.mp (by simpa using hfull)
    exact ⟨i, hi, vacantSlot_vacant hi⟩
  · next hf =>
    rw [Bool.not_eq_true] at hf
    exact ⟨b.slot, rfl, by
      simpa only [hf, Bool.not_false, Bool.true_and, Option.isSome_eq_false_iff, Option.isNone_iff_eq_none] using hslot⟩

theorem acceptDraft_keepsBooks {l : Link} {b : DraftBody} {s : State} (h : firstFailing (draftChecks b s) = none) :
    KeepsBooks s (acceptDraft l b s) := by
  obtain ⟨⟨i, hi, hvacant⟩, hnumber, hlimit⟩ := draft_accepted h
  have hchange : Ebbs (s.setPermit i (some (draftedPermit b s))) (changePermit i .vacant (draftedPermit b s) .works s) :=
    (Ebbs.refl _).then_writeJournal
  unfold acceptDraft
  simp only [hi]
  refine permitDrafted_keepsBooks (q := draftedPermit b s) hvacant (findPermit_none hnumber) hlimit
    (.then_reply (.then_retestHolds ?_))
  split
  · exact hchange.then_post
  · exact hchange

theorem amendedPermit_same (p : Permit) (c : PermitContent) : SamePermit p (amendedPermit p c) := by
  unfold amendedPermit
  dsimp only
  split
  · exact ⟨rfl, rfl, id⟩
  · split
    · exact ⟨rfl, rfl, id⟩
    · exact ⟨rfl, rfl, id⟩
    · exact ⟨rfl, rfl, id⟩
    · next hx => exact ⟨rfl, rfl, fun _ => by rw [hx]; rfl⟩
    · next hx => exact ⟨rfl, rfl, fun _ => by rw [hx]; rfl⟩
    · next hx => exact ⟨rfl, rfl, fun _ => by rw [hx]; rfl⟩

theorem acceptAmend_keepsBooks {l : Link} {b : AmendBody} {i : SlotNo} {p : Permit} {s : State} (hp : s.permit i = some p) :
    KeepsBooks s (acceptAmend l b i p s) := by
  have hsame := amendedPermit_same p (amendContent b)
  unfold acceptAmend
  dsimp only
  rw [hsame.badge]
  exact (changePermit_keepsBooks hp hsame (.refl _)).then_ebbs (Ebbs.refl _).then_reply

theorem countersignFound_keepsBooks {l : Link} {v : Nat} {i : SlotNo} {p : Permit} {s : State} (hp : s.permit i = some p) :
    KeepsBooks s (countersignFound l v i p s) := by
  have hreply : ∀ st c, KeepsBooks s (reply l st c s) := fun _ _ => (Ebbs.refl s).then_reply.keepsBooks
  have hsign : p.standing.liveOrHeld = true → KeepsBooks s (reply l .done (.countersigned .active p.revision)
      (retestHolds i p.badge (changePermit i p.standing.state (p.countersignedAt (turnMinute s)) .security s))) := fun hl =>
    have hsame : SamePermit p (p.countersignedAt (turnMinute s)) := ⟨rfl, rfl, fun _ => hl⟩
    (changePermit_keepsBooks hp hsame (.refl _)).then_ebbs (Ebbs.refl _).then_reply
  unfold countersignFound
  split
  · exact hreply ..
  · split
    · next hx => exact hsign (by rw [hx]; rfl)
    · next hx => exact hsign (by rw [hx]; rfl)
    · exact hreply ..
    · exact hreply ..
    · exact hreply ..

theorem suspendedStanding_liveOrHeld {x y : Standing} {reason : Nat} {held : Bool} (h : suspendedStanding x reason held = some y) :
    x.liveOrHeld = true := by
  cases x with
  | ended => cases h
  | _ => rfl

theorem suspendFound_keepsBooks {l : Link} {reason : Nat} {i : SlotNo} {p : Permit} {s : State} (hp : s.permit i = some p) :
    KeepsBooks s (suspendFound l reason i p s) := by
  unfold suspendFound
  split
  · exact (Ebbs.refl s).then_reply.keepsBooks
  · next x hx =>
    have hsame : SamePermit p { p with standing := x } := ⟨rfl, rfl, fun _ => suspendedStanding_liveOrHeld hx⟩
    exact (changePermit_keepsBooks hp hsame (.refl _)).then_ebbs (Ebbs.refl _).then_reply

theorem resumedPermit_same {p q : Permit} {m : Nat} (h : resumedPermit p m = some q) : SamePermit p q := by
  unfold resumedPermit at h
  split at h
  · next hx => obtain rfl := Option.some.inj h; exact ⟨rfl, rfl, fun _ => by rw [hx]; rfl⟩
  · next hx => obtain rfl := Option.some.inj h; exact ⟨rfl, rfl, fun _ => by rw [hx]; rfl⟩
  · next hx =>
    split at h <;> obtain rfl := Option.some.inj h <;> exact ⟨rfl, rfl, fun _ => by rw [hx]; rfl⟩
  · cases h

theorem settleResumed_keepsBooks {i : SlotNo} {p q : Permit} {m : Nat} {s : State} (hp : s.permit i = some p)
    (hq : resumedPermit p m = some q) : KeepsBooks s (settleResumed i q s) := by
  have hsame := resumedPermit_same hq
  unfold settleResumed
  dsimp only
  rw [hsame.badge]
  refine changePermit_keepsBooks (old := .suspended) (source := .security) hp hsame ?_
  split
  · exact (Ebbs.refl _).then_post
  · exact .refl _

theorem resumeFound_keepsBooks {l : Link} {i : SlotNo} {p : Permit} {s : State} (hp : s.permit i = some p) :
    KeepsBooks s (resumeFound l i p s) := by
  unfold resumeFound
  split
  · exact (Ebbs.refl s).then_reply.keepsBooks
  · next q hq => exact (settleResumed_keepsBooks hp hq).then_ebbs (Ebbs.refl _).then_reply

theorem finished_same (p : Permit) (how : Ending) (m : Nat) : SamePermit p (p.finished how m) := ⟨rfl, rfl, fun h => by cases h⟩

theorem finishFound_keepsBooks {l : Link} {how : Ending} {source : Source} {i : SlotNo} {p : Permit} {s : State}
    (hp : s.permit i = some p) : KeepsBooks s (finishFound l how source i p s) := by
  unfold finishFound
  split
  · exact (changePermit_keepsBooks hp (finished_same ..) (.refl _)).then_ebbs (Ebbs.refl _).then_reply
  · exact (Ebbs.refl s).then_reply.keepsBooks

theorem purgeFound_keepsBooks {l : Link} {i : SlotNo} {p : Permit} {s : State} (hp : s.permit i = some p) :
    KeepsBooks s (purgeFound l i p s) := by
  unfold purgeFound
  split
  · exact (Ebbs.refl s).then_reply.keepsBooks
  · split
    · exact (Ebbs.refl s).then_reply.keepsBooks
    · next hn => exact (vacate_keepsBooks hp (by simpa using hn)).then_ebbs (Ebbs.refl _).then_reply

/-! ### The sweep and the walks -/

theorem permitStep_keepsBooks (i : SlotNo) (m : Nat) (full : Bool) (s : State) : KeepsBooks s (permitStep i m full s) := by
  unfold permitStep
  split
  · exact .refl s
  · next p hp =>
    split
    · exact changePermit_keepsBooks hp (finished_same ..) (.refl _)
    · split
      · exact changePermit_keepsBooks hp (finished_same ..) (Ebbs.refl _).then_post
      · split
        · next hpurge =>
          simp only [Bool.and_eq_true, Bool.not_eq_true'] at hpurge
          exact vacate_keepsBooks hp hpurge.2
        · exact .refl s

theorem serveSweepStep_keepsBooks (s : State) : KeepsBooks s (serveSweepStep s) := by
  unfold serveSweepStep
  split
  · exact .refl s
  · refine KeepsBooks.then_ebbs ?_ (Ebbs.refl _).then_advanceSweep
    split
    · exact permitStep_keepsBooks ..
    · exact (Ebbs.refl s).then_presenceStep.keepsBooks

theorem suspendStep_keepsBooks {reason : Nat} {i : SlotNo} {p : Permit} {s : State} (hp : s.permit i = some p) :
    KeepsBooks s (suspendStep reason i p s).1 := by
  unfold suspendStep
  split
  · exact .refl s
  · next x hx =>
    have hlive : p.standing.liveOrHeld = true := by
      unfold firmSuspended at hx
      split at hx
      · cases hx
      · exact suspendedStanding_liveOrHeld hx
    have hsame : SamePermit p { p with standing := x } := ⟨rfl, rfl, fun _ => hlive⟩
    dsimp only
    exact changePermit_keepsBooks hp hsame (.refl _)

theorem resumeStep_keepsBooks {i : SlotNo} {p : Permit} {s : State} (hp : s.permit i = some p) :
    KeepsBooks s (resumeStep i p s).1 := by
  unfold resumeStep
  split
  · split
    · next q hq => dsimp only; exact settleResumed_keepsBooks hp hq
    · exact .refl s
  · exact .refl s

theorem walkAt_keepsBooks (w : Walk) (s : State) : KeepsBooks s (walkAt w s).1 := by
  unfold walkAt
  split
  · exact .refl s
  · next p hp =>
    split
    · split
      · exact suspendStep_keepsBooks hp
      · exact resumeStep_keepsBooks hp
    · exact .refl s

theorem serveWalkStep_keepsBooks (s : State) : KeepsBooks s (serveWalkStep s) := by
  unfold serveWalkStep
  split
  · exact .refl s
  · next w hw =>
    have h := walkAt_keepsBooks w s
    generalize walkAt w s = x at h ⊢
    have hturn : ∀ k : Option Walk, KeepsBooks s { x.1 with walk := k } := fun _ => h.then_ebbs (Ebbs.refl _).then_aside
    dsimp only
    split
    · exact hturn _
    · exact (hturn none).then_ebbs (Ebbs.refl _).then_reply

/-! ### The service of a request -/

/-- R17, R83: WRITE ROOM changes the record of a room that holds nobody. -/
theorem acceptWriteRoom_keepsBooks {l : Link} {b : RoomBody} {s : State} (h : roomOccupied s b.room = false) :
    KeepsBooks s (acceptWriteRoom l b s) := by
  unfold acceptWriteRoom
  split
  · exact .refl s
  · next r hr =>
    refine KeepsBooks.then_ebbs (t := { s with rooms := put s.rooms r (RoomBody.record b) }) ?_
      (Ebbs.refl _).then_writeJournal.then_reply
    refine keepsBooks_of_permits rfl id (fun hs q c hc => ?_) (badgesApart_of_same rfl rfl rfl)
    simp only [roomOccupied, hr, Bool.or_eq_false_iff, Bool.not_eq_false', List.isEmpty_iff] at h
    by_cases e : r = q
    · subst e
      simp [roomCount, State.roomState] at h ⊢
      simp [h.1]
    · exact hs q c (by simpa [State.room, e] using hc)

/-- R17, R38, R49: the requests that change a slot of the permit table or a room's record. -/
def changesBooks : Request → Bool
  | .writeRoom _ | .draftPermit _ | .amendPermit _ | .countersign _ _ | .suspendPermit _ _ | .resumePermit _ | .revokePermit _
  | .closePermit _ | .purgePermit _ => true
  | _ => false

/-- R177: every other request only lets the books ebb. -/
theorem serveRequest_ebbs (l : Link) {r : Request} (hr : changesBooks r = false) (s : State) : Ebbs s (serveRequest l r s) := by
  have h := Ebbs.refl s
  have hreply : ∀ st c, Ebbs s (reply l st c s) := fun _ _ => h.then_reply
  have hchecked : ∀ {checks : List (Bool × Status)} {f : State → State}, Ebbs s (f s) → Ebbs s (checked l checks f s) :=
    fun hf => h.then_checked hf
  cases r with
  | readClock | readMap | readFreeze | readTimings | readSweep | readJournal | restart => exact hreply ..
  | setClock => exact hchecked (.then_reply (.then_writeJournal (.then_post (.then_raiseEvent h.then_aside))))
  | alignClock =>
    refine hchecked (.then_reply ?_)
    split
    · exact h
    · split
      · exact .then_writeJournal h.then_aside
      · exact .then_writeJournal (.then_raiseEvent h.then_aside)
  | setMark m => exact hchecked (f := fun s => reply l .done (.mark m) { s with mark := m }) (.then_reply h.then_aside)
  | writeMap => exact hchecked h.then_acceptWriteMap
  | setFreeze b =>
    refine hchecked ?_
    unfold acceptSetFreeze
    split
    · exact h
    · exact .then_reply (.then_writeJournal h.then_aside)
  | clearFreeze e =>
    refine hchecked ?_
    unfold acceptClearFreeze
    split
    · exact h
    · exact .then_reply (.then_writeJournal h.then_aside)
  | writeTimings => exact hchecked (.then_reply (.then_writeJournal h.then_aside))
  | lockConfiguration =>
    refine .then_reply ?_
    split
    · exact h
    · exact .then_writeJournal h.then_aside
  | readRoom n => unfold serveRequest serveReadRoom; dsimp only; split <;> exact hreply ..
  | readPermit p =>
    cases p with
    | number =>
      unfold serveRequest serveReadPermit lookup
      dsimp only
      split
      · exact hreply ..
      · split <;> exact hreply ..
    | slot => unfold serveRequest serveReadPermit; dsimp only; split <;> exact hreply ..
  | listPermits => exact hchecked (hreply ..)
  | readOccupancy o =>
    cases o with
    | badge => exact hchecked (hreply ..)
    | room => unfold serveRequest serveReadOccupancy; dsimp only; split <;> exact hreply ..
  | reconcileRoom => exact h.then_serveReconcileRoom
  | readStation => unfold serveRequest serveReadStation; dsimp only; split <;> exact hreply ..
  | readDoor => unfold serveRequest serveReadDoor; dsimp only; split <;> exact hreply ..
  | allClear => exact hchecked h.then_acceptAllClear
  | suspendFirm => exact hchecked h.then_startWalk
  | resumeFirm => exact hchecked h.then_startWalk
  | takeNotice =>
    have ht : Ebbs s (judgeAttention l (s.setQueue l (s.queue l).taken)) := .then_judgeAttention h.then_aside
    unfold serveRequest serveTakeNotice
    dsimp only
    split <;> exact ht.then_reply
  | setNoticeMask k =>
    have hmask : Ebbs s (s.setPort l { s.port l with mask := min 6 k }) := h.then_setPort fun f hf => ⟨f, hf, rfl⟩
    exact hmask.then_judgeAttention.then_reply
  | setAttentionMode =>
    unfold serveRequest serveSetAttentionMode
    dsimp only
    split
    · exact hreply ..
    · exact h.then_changeMode.then_reply
  | setCounter b =>
    refine hchecked ?_
    unfold acceptSetCounter
    split
    · exact .then_reply h.then_aside
    · exact h
  | readCounter =>
    unfold serveRequest serveReadCounter
    dsimp only
    split
    · exact hreply ..
    · exact hchecked (hreply ..)
  | _ => cases hr

theorem serveRequest_keepsBooks (l : Link) (r : Request) (s : State) : KeepsBooks s (serveRequest l r s) := by
  cases hr : changesBooks r with
  | false => exact (serveRequest_ebbs l hr s).keepsBooks
  | true =>
    cases r with
    | writeRoom b =>
      refine checked_keepsBooks fun hc => acceptWriteRoom_keepsBooks ?_
      simp only [firstFailing_cons_none] at hc
      obtain ⟨-, -, -, hfree, -⟩ := hc
      exact hfree
    | draftPermit => exact checked_keepsBooks acceptDraft_keepsBooks
    | amendPermit =>
      exact checked_keepsBooks fun _ => lookup_keepsBooks fun i p hp => checked_keepsBooks fun _ => acceptAmend_keepsBooks hp
    | countersign => exact lookup_keepsBooks fun _ _ => countersignFound_keepsBooks
    | suspendPermit => exact checked_keepsBooks fun _ => lookup_keepsBooks fun _ _ => suspendFound_keepsBooks
    | resumePermit => exact lookup_keepsBooks fun _ _ => resumeFound_keepsBooks
    | revokePermit => exact lookup_keepsBooks fun _ _ => finishFound_keepsBooks
    | closePermit => exact lookup_keepsBooks fun _ _ => finishFound_keepsBooks
    | purgePermit => exact lookup_keepsBooks fun _ _ => purgeFound_keepsBooks
    | _ => cases hr

/-! ### A request handed over -/

/-- R36, R175: a request of the link handed over. -/
theorem hand_keepsBooks {l : Link} {r : Request} (hr : r.allowedOn l = true) (s : State) : KeepsBooks s (hand l r s) := by
  have hport : KeepsBooks s (s.setPort l { s.port l with inFlight := some ⟨r, .handed⟩ }) :=
    keepsBooks_of_permits rfl (fun hs m f hf => by
      by_cases e : l = m
      · subst e
        obtain rfl : _ = f := by simpa using hf
        exact hr
      · exact hs m f (by simpa [e] using hf)) id (badgesApart_of_same rfl rfl rfl)
  unfold hand
  dsimp only
  split
  · exact hport.then_ebbs (Ebbs.refl _).then_grantNext
  · exact hport

theorem present_keepsBooks (l : Link) (r : Request) (s : State) : KeepsBooks s (present l r s) := by
  unfold present takeRequest
  split
  · exact .refl s
  · split
    · exact (Ebbs.refl s).then_refuse.keepsBooks
    · split
      · exact (Ebbs.refl s).then_refuse.keepsBooks
      · next hr => exact hand_keepsBooks (by simpa using hr) s

/-- R177: a code and a body spell a request of that code. -/
theorem decodeRequest_code {code : Nat} {body : List Byte} {r : Request} (h : decodeRequest code body = some r) : r.code = code := by
  unfold decodeRequest at h
  split at h
  all_goals
    repeat' split at h
    all_goals first
      | cases h; rfl
      | cases h
      | (obtain ⟨x, -, rfl⟩ := Option.map_eq_some_iff.mp h; rfl)

theorem judgeFrame_keepsBooks (l : Link) (os : List Byte) (s : State) : KeepsBooks s (judgeFrame l os s) := by
  have h : Ebbs s (setReception l .awaitingStart s) := (Ebbs.refl s).then_setReception
  unfold judgeFrame
  dsimp only
  split
  · split
    · next len code rest =>
      unfold takeFrame
      split
      · exact h.then_refuse.keepsBooks
      · split
        · exact h.then_refuse.keepsBooks
        · next o ho =>
          split
          · next hallow =>
            split
            · exact h.then_refuse.keepsBooks
            · next r hr =>
              refine h.keepsBooks.trans (hand_keepsBooks ?_ _)
              rw [Request.allowedOn, decodeRequest_code hr, ho]
              exact hallow
          · exact h.then_refuse.keepsBooks
    · exact h.keepsBooks
  · exact h.keepsBooks

theorem startOctet_ebbs (l : Link) (o : Byte) (s : State) : Ebbs s (startOctet l o s) := by
  unfold startOctet
  split <;> exact (Ebbs.refl s).then_setReception

theorem takeOctet_keepsBooks (l : Link) (o : Byte) (s : State) : KeepsBooks s (takeOctet l o s) := by
  unfold takeOctet
  split
  · exact (startOctet_ebbs ..).keepsBooks
  · exact (Ebbs.refl s).then_setReception.keepsBooks
  · split
    · exact (judgeFrame_keepsBooks ..).then_ebbs (startOctet_ebbs ..)
    · exact (Ebbs.refl s).then_setReception.keepsBooks

theorem requestRow_keepsBooks (l : Link) (r : Request) (s : State) : KeepsBooks s (requestRow l r s) := by
  have hp := present_keepsBooks l r s
  have hserve := hp.trans (serveRequest_keepsBooks l r (present l r s))
  rcases requestRow_cases l r s with h | h | ⟨-, h | h⟩ <;> rw [h]
  · exact .refl s
  · exact hp
  · exact hserve
  · exact hserve.then_ebbs (Ebbs.refl _).then_endTurn

/-! ### Falls, returns, restarts and the cold start -/

theorem serveTurn_keepsBooks (s : State) : KeepsBooks s (serveTurn s) := by
  unfold serveTurn
  rcases s.turn with _ | ⟨user, began⟩
  · exact .refl s
  · cases user with
    | decision rd clearAfter => exact serveDecision_keepsBooks ..
    | request l =>
      dsimp only
      split
      · exact serveRequest_keepsBooks ..
      · exact .refl s
    | walkStep => exact serveWalkStep_keepsBooks s
    | sweepStep => exact serveSweepStep_keepsBooks s

theorem finishTurn_keepsBooks (s : State) : KeepsBooks s (finishTurn s) :=
  (serveTurn_keepsBooks s).then_ebbs (.then_drainHeld (Ebbs.refl _).then_aside)

theorem serveHanded_keepsBooks (l : Link) (s : State) : KeepsBooks s (serveHanded l s) := by
  unfold serveHanded
  split
  · split
    · exact .refl s
    · exact serveRequest_keepsBooks ..
  · exact .refl s

theorem fallToBackup_keepsBooks (s : State) : KeepsBooks s (fallToBackup s) := by
  have hsettle : KeepsBooks s (settle s) :=
    (serveHanded_keepsBooks .works s).trans ((serveHanded_keepsBooks .security _).trans (finishTurn_keepsBooks _))
  exact hsettle.then_ebbs (.then_presencesAtReset (Ebbs.refl _).then_quiesce.then_aside)

theorem returnFromBackup_ebbs (s : State) : Ebbs s (returnFromBackup s) := by
  have hquiet : Ebbs s { quiesce s with supply := .normal, backupMinutes := 0 } := (Ebbs.refl s).then_quiesce.then_aside
  have hdue := hquiet.then_writeJournal (b := { kind := .restart, value := some 0 })
  refine .then_takeEvacuation (.then_writeJournal (.then_post ?_))
  unfold journalDueRestart
  split
  · exact hdue.then_aside
  · exact hquiet

theorem takeRestart_keepsBooks (value : Nat) (s : State) : KeepsBooks s (takeRestart value s) := by
  have hempty : KeepsBooks s (presencesAtReset atRestart (emptyNotices (quiesce (finishTurn s)))) :=
    (finishTurn_keepsBooks s).then_ebbs (.then_presencesAtReset (Ebbs.refl _).then_quiesce.then_aside)
  unfold takeRestart recordRestart
  split
  · exact hempty.then_ebbs (Ebbs.refl _).then_aside
  · exact hempty.then_ebbs (Ebbs.refl _).then_writeJournal.then_takeEvacuation

/-- R15: a cold start leaves the books as the reset state has them. -/
theorem coldStart_keepsBooks (x y : Bool) (s : State) : KeepsBooks s (coldStart x y s) := by
  obtain ⟨-, hnumbers, hbadges, honce, hslots, hrooms, howned⟩ := resetMeetsEveryLaw
  have h : KeepsBooks State.reset (coldStart x y s) := Ebbs.keepsBooks (.then_takeEvacuation (Ebbs.refl State.reset).then_aside)
  exact ⟨fun _ => h.numbers hnumbers, fun _ => h.badges hbadges, fun _ => h.rooms hrooms, fun _ => h.owned howned,
    fun _ => h.apart ⟨honce, hslots⟩⟩

/-! ### Every command -/

theorem execTick_keepsBooks (s : State) : KeepsBooks s
    (if s.clock.second < 59 then
      { s with clock := s.clock.tick, holds := mapAll (Option.map Hold.tick) s.holds, doors := mapAll Door.tick s.doors }
    else raiseEvent
      { s with clock := s.clock.tick, holds := mapAll (Option.map Hold.tick) s.holds, doors := mapAll Door.tick s.doors }) := by
  have htick : Ebbs s
      { s with clock := s.clock.tick, holds := mapAll (Option.map Hold.tick) s.holds, doors := mapAll Door.tick s.doors } :=
    { Ebbs.refl s with
      hold := fun r k hk =>
        have ⟨x, hx, hk⟩ := Option.map_eq_some_iff.mp ((look_mapAll (Option.map Hold.tick) s.holds r).symm.trans hk)
        ⟨x, hx, hk ▸ rfl, hk ▸ rfl⟩ }
  split
  · exact htick.keepsBooks
  · exact htick.then_raiseEvent.keepsBooks

/-- The loop, the timers of doors and holds, and the held effects. -/
theorem exec_steady_ebbs (c : Instr) (s t : State) (h : exec c s = .next t) (hc : steady c = true)
    (hw : c ≠ .suspendFirmStep ∧ c ≠ .resumeFirmStep) (hd : c ≠ .entryDecision ∧ c ≠ .exitDecision) : Ebbs s t := by
  have hs := Ebbs.refl s
  cases c with
  | suspendFirmStep => exact absurd rfl hw.1
  | resumeFirmStep => exact absurd rfl hw.2
  | entryDecision => exact absurd rfl hd.1
  | exitDecision => exact absurd rfl hd.2
  | poll =>
    obtain rfl := Host.Outcome.next.inj h
    split
    · exact hs.then_aside
    · exact hs
  | statusReply r =>
    obtain rfl := Host.Outcome.next.inj h
    split
    · dsimp only
      split
      · exact .then_takeReply hs.then_aside
      · exact .then_takeMiss hs.then_aside
    · exact hs
  | stationMiss =>
    obtain rfl := Host.Outcome.next.inj h
    split
    · exact .then_takeMiss hs.then_aside
    · exact hs
  | holdDeadline r =>
    obtain rfl := Host.Outcome.next.inj h
    split
    · split
      · exact hs.then_closeHold
      · exact hs
    · exact hs
  | releaseEnd r =>
    obtain rfl := Host.Outcome.next.inj h
    split
    · exact hs
    · exact hs
    · exact hs.then_setDoor.then_handOver
    · exact hs
  | heldOpenLimit r =>
    obtain rfl := Host.Outcome.next.inj h
    split
    · exact hs
    · exact hs.then_holdDoor
    · exact hs
  | heldResolution =>
    obtain rfl := Host.Outcome.next.inj h
    split
    · exact .then_grantNext (.then_applyEffect hs.then_aside)
    · exact hs
  | _ => cases hc

theorem exec_keepsBooks (c : Instr) (s t : State) (h : exec c s = .next t) : KeepsBooks s t := by
  have hturn : ∀ u, KeepsBooks s u → KeepsBooks s (endTurn u) := fun u hu => hu.then_ebbs (Ebbs.refl _).then_endTurn
  cases hreq : c.request with
  | some x =>
    obtain ⟨l, r⟩ := x
    rw [exec_requestRow c l r hreq] at h
    obtain rfl := Host.Outcome.next.inj h
    exact requestRow_keepsBooks l r s
  | none =>
    cases c with
    | powerUp x y => obtain rfl := Host.Outcome.next.inj h; exact coldStart_keepsBooks x y s
    | tick => obtain rfl := Host.Outcome.next.inj h; exact execTick_keepsBooks s
    | suspendFirmStep | resumeFirmStep =>
      obtain rfl := Host.Outcome.next.inj h
      split
      · split
        · exact hturn _ (serveWalkStep_keepsBooks s)
        · exact .refl s
      · exact .refl s
    | frameReceived l =>
      obtain rfl := Host.Outcome.next.inj h
      split
      · split
        · exact judgeFrame_keepsBooks ..
        · exact .refl s
      · exact .refl s
    | interOctetTimeout l =>
      obtain rfl := Host.Outcome.next.inj h
      split
      · exact .refl s
      · split
        · exact .refl s
        · exact (Ebbs.refl s).then_setReception.keepsBooks
    | octetReceived l o =>
      obtain rfl := Host.Outcome.next.inj h
      split
      · exact .refl s
      · exact takeOctet_keepsBooks ..
    | replySent l =>
      obtain rfl := Host.Outcome.next.inj h
      split
      · dsimp only
        split
        · exact (Ebbs.refl s).then_sendReply.keepsBooks.trans (takeRestart_keepsBooks ..)
        · exact (Ebbs.refl s).then_sendReply.keepsBooks
      · exact .refl s
    | entryDecision =>
      obtain rfl := Host.Outcome.next.inj h
      split
      · split
        · exact hturn _ (serveDecision_keepsBooks ..)
        · exact .refl s
      · exact .refl s
    | exitDecision =>
      obtain rfl := Host.Outcome.next.inj h
      split
      · split
        · exact .refl s
        · exact hturn _ (serveDecision_keepsBooks ..)
      · exact .refl s
    | sweepPermitStep | sweepPresenceStep =>
      obtain rfl := Host.Outcome.next.inj h
      split
      · split
        · exact hturn _ (serveSweepStep_keepsBooks s)
        · exact .refl s
      · exact .refl s
    | pulseEnd l =>
      obtain rfl := Host.Outcome.next.inj h
      split
      · exact Ebbs.keepsBooks ((Ebbs.refl s).then_setPort fun f hf => ⟨f, hf, rfl⟩)
      · exact .refl s
    | supplyFall =>
      obtain rfl := Host.Outcome.next.inj h
      split
      · exact Ebbs.keepsBooks (Ebbs.refl s).then_aside
      · exact (fallToBackup_keepsBooks s).then_ebbs (Ebbs.refl _).then_aside
    | warmReturn =>
      obtain rfl := Host.Outcome.next.inj h
      split
      · exact Ebbs.keepsBooks (Ebbs.refl s).then_aside
      · exact (returnFromBackup_ebbs s).then_aside.keepsBooks
    | evacuateRise =>
      obtain rfl := Host.Outcome.next.inj h
      split
      · exact .refl s
      · split
        · exact Ebbs.keepsBooks (Ebbs.refl s).then_aside
        · exact Ebbs.keepsBooks (.then_startEvacuation (Ebbs.refl s).then_aside)
        · exact Ebbs.keepsBooks (.then_furtherEdge (Ebbs.refl s).then_aside)
    | evacuateFall =>
      obtain rfl := Host.Outcome.next.inj h
      split <;> exact Ebbs.keepsBooks (Ebbs.refl s).then_aside
    | resetLine =>
      obtain rfl := Host.Outcome.next.inj h
      exact (takeRestart_keepsBooks 0 s).then_ebbs (Ebbs.refl _).then_aside
    | poll | statusReply | stationMiss | holdDeadline | releaseEnd | heldOpenLimit | heldResolution =>
      exact (exec_steady_ebbs _ s t h rfl ⟨nofun, nofun⟩ ⟨nofun, nofun⟩).keepsBooks
    | _ => cases hreq

end Sys2Proof.Machine

open Sys2Proof Sys2Proof.Machine in
/-- Settles O59: every command either lets the books ebb, or changes one slot, one record or one list by the rules that bound them. -/
theorem everyCommandKeepsTablesWithinBounds : Obligations.EveryCommandKeepsTablesWithinBounds := by
  intro c s t h
  have hk := exec_keepsBooks c s t h
  exact ⟨hk.numbers, hk.badges, hk.rooms, hk.owned⟩

open Sys2Proof Sys2Proof.Machine in
/-- Settles O60: presences and holds are only added for strangers on live permits, and a permit's change re-tests the holds on it. -/
theorem everyCommandKeepsBadgesApart : Obligations.EveryCommandKeepsBadgesApart := by
  intro c s t honce hslots h
  exact (exec_keepsBooks c s t h).apart ⟨honce, hslots⟩
end

section
/-! A port's framing (R173, R175, R176): its reception, the request in flight and the frames. Whatever the Permit Table, the Occupancy
Register, the Notice Unit, the Access Journal and the Event Counters do, they do it whatever a port's framing is, and leave it. -/

namespace Sys2Proof.Machine

/-! ### The framing replaced -/

/-- R173, R175, R176: the state with a link's reception, request in flight and frames those of another port. -/
def reframe (l : Link) (x : Port) (s : State) : State :=
  s.setPort l { s.port l with reception := x.reception, inFlight := x.inFlight, transmit := x.transmit, sent := x.sent }

theorem reframe_self (l : Link) (s : State) : reframe l (s.port l) s = s := by
  show { s with ports := withSide s.ports l (side s.ports l) } = s
  rw [withSide_side]

/-- A link's attention line driven or released. -/
def lineDriven (k : Link) (a : Bool) (s : State) : State := s.setPort k { s.port k with attention := a }

@[simp] theorem reframe_port_same (l : Link) (x : Port) (s : State) : (reframe l x s).port l =
    { s.port l with reception := x.reception, inFlight := x.inFlight, transmit := x.transmit, sent := x.sent } :=
  State.setPort_port_same ..

@[simp] theorem reframe_port_other {l m : Link} (h : l ≠ m) (x : Port) (s : State) : (reframe l x s).port m = s.port m :=
  State.setPort_port_other _ _ _ h

section
variable (l : Link) (x : Port) (s : State)

@[simp] theorem reframe_mask (k : Link) : ((reframe l x s).port k).mask = (s.port k).mask := by
  by_cases e : l = k
  · subst e; simp
  · simp [e]

@[simp] theorem reframe_mode (k : Link) : ((reframe l x s).port k).mode = (s.port k).mode := by
  by_cases e : l = k
  · subst e; simp
  · simp [e]

@[simp] theorem reframe_clock : (reframe l x s).clock = s.clock := rfl
@[simp] theorem reframe_clockUnset : (reframe l x s).clockUnset = s.clockUnset := rfl
@[simp] theorem reframe_mark : (reframe l x s).mark = s.mark := rfl
@[simp] theorem reframe_supply : (reframe l x s).supply = s.supply := rfl
@[simp] theorem reframe_rooms : (reframe l x s).rooms = s.rooms := rfl
@[simp] theorem reframe_timings : (reframe l x s).timings = s.timings := rfl
@[simp] theorem reframe_locked : (reframe l x s).locked = s.locked := rfl
@[simp] theorem reframe_stationMap : (reframe l x s).stationMap = s.stationMap := rfl
@[simp] theorem reframe_turn : (reframe l x s).turn = s.turn := rfl
@[simp] theorem reframe_readQueue : (reframe l x s).readQueue = s.readQueue := rfl
@[simp] theorem reframe_heldEffects : (reframe l x s).heldEffects = s.heldEffects := rfl
@[simp] theorem reframe_polling : (reframe l x s).polling = s.polling := rfl
@[simp] theorem reframe_evacuating : (reframe l x s).evacuating = s.evacuating := rfl
@[simp] theorem reframe_sweep : (reframe l x s).sweep = s.sweep := rfl
@[simp] theorem reframe_walk : (reframe l x s).walk = s.walk := rfl
@[simp] theorem reframe_counters : (reframe l x s).counters = s.counters := rfl
@[simp] theorem reframe_freeUsed : (reframe l x s).freeUsed = s.freeUsed := rfl
@[simp] theorem reframe_queue (k : Link) : (reframe l x s).queue k = s.queue k := rfl
@[simp] theorem reframe_station (a : LoopAddr) : (reframe l x s).station a = s.station a := rfl
@[simp] theorem reframe_door (r : RoomNo) : (reframe l x s).door r = s.door r := rfl
@[simp] theorem reframe_permit (i : SlotNo) : (reframe l x s).permit i = s.permit i := rfl
@[simp] theorem reframe_presence (i : PoolIx) : (reframe l x s).presence i = s.presence i := rfl
@[simp] theorem reframe_roomState (r : RoomNo) : (reframe l x s).roomState r = s.roomState r := rfl
@[simp] theorem reframe_hold (r : RoomNo) : (reframe l x s).hold r = s.hold r := rfl

@[simp] theorem setQueue_reframe (k : Link) (q : NoticeQueue) : (reframe l x s).setQueue k q = reframe l x (s.setQueue k q) := rfl
@[simp] theorem setStation_reframe (a : LoopAddr) (y : Station) : (reframe l x s).setStation a y = reframe l x (s.setStation a y) := rfl
@[simp] theorem setDoor_reframe (r : RoomNo) (y : Door) : (reframe l x s).setDoor r y = reframe l x (s.setDoor r y) := rfl
@[simp] theorem setPresence_reframe (i : PoolIx) (y : Option Presence) :
    (reframe l x s).setPresence i y = reframe l x (s.setPresence i y) := rfl
@[simp] theorem setRoomState_reframe (r : RoomNo) (y : RoomOccupancy) :
    (reframe l x s).setRoomState r y = reframe l x (s.setRoomState r y) := rfl
@[simp] theorem setHold_reframe (r : RoomNo) (y : Option Hold) : (reframe l x s).setHold r y = reframe l x (s.setHold r y) := rfl

/-- A line driven or released and a port's framing replaced, in either order. -/
@[simp] theorem lineDriven_reframe (k : Link) (a : Bool) : lineDriven k a (reframe l x s) = reframe l x (lineDriven k a s) := by
  by_cases e : l = k
  · subst e; simp [lineDriven, reframe]
  · cases l <;> cases k <;> first | exact absurd rfl e | rfl

end

/-! ### Notices, records and counters -/

section
variable (l : Link) (x : Port)

theorem foldl_reframe {α : Type} {f : State → α → State} (hf : ∀ s a, f (reframe l x s) a = reframe l x (f s a)) (as : List α)
    (s : State) : as.foldl f (reframe l x s) = reframe l x (as.foldl f s) :=
  List.foldl_hom (reframe l x) fun t a => hf t a

/-- A pass that gathers a list besides the state, whatever the framing. -/
theorem foldl_pair_reframe {α β : Type} {f : State × β → α → State × β}
    (hf : ∀ y a, f (reframe l x y.1, y.2) a = (reframe l x (f y a).1, (f y a).2)) (as : List α) (s : State) (b : β) :
    as.foldl f (reframe l x s, b) = (reframe l x (as.foldl f (s, b)).1, (as.foldl f (s, b)).2) :=
  List.foldl_hom (init := (s, b)) (fun y : State × β => (reframe l x y.1, y.2)) fun y a => hf y a

@[simp] theorem judgeAttention_reframe (k : Link) (s : State) :
    judgeAttention k (reframe l x s) = reframe l x (judgeAttention k s) := by
  have hjudge : ∀ t, judgeAttention k t = match t.supply, (t.port k).mode with
      | .backup, _ => lineDriven k false t
      | .normal, .level => lineDriven k ((t.queue k).above (t.port k).mask) t
      | .normal, .pulse => t := fun _ => rfl
  simp only [hjudge, reframe_supply, reframe_mode, reframe_queue, reframe_mask, lineDriven_reframe]
  split <;> rfl

@[simp] theorem pulseFor_reframe (k : Link) (v : Nat) (s : State) : pulseFor k v (reframe l x s) = reframe l x (pulseFor k v s) := by
  have hpulse : ∀ t, pulseFor k v t = match (t.port k).mode with
      | .pulse => if (t.port k).mask < v then lineDriven k true t else t
      | .level => t := fun _ => rfl
  simp only [hpulse, reframe_mode, reframe_mask, lineDriven_reframe]
  cases (s.port k).mode with
  | pulse => exact (apply_ite (reframe l x) ((s.port k).mask < v) _ _).symm
  | level => rfl

@[simp] theorem postTo_reframe (k : Link) (n : Notice) (s : State) : postTo k n (reframe l x s) = reframe l x (postTo k n s) := by
  simp only [postTo, reframe_queue, setQueue_reframe, judgeAttention_reframe, pulseFor_reframe, apply_ite (reframe l x)]

@[simp] theorem post_reframe (b : NoticeBody) (s : State) : post b (reframe l x s) = reframe l x (post b s) := by
  unfold post
  rw [reframe_supply]
  cases s.supply with
  | backup => rfl
  | normal => exact foldl_reframe l x (fun s k => postTo_reframe l x k _ s) _ s

@[simp] theorem writeJournal_reframe (b : JournalBody) (s : State) :
    writeJournal b (reframe l x s) = reframe l x (writeJournal b s) := by
  unfold writeJournal
  rw [reframe_supply]
  cases s.supply <;> rfl

@[simp] theorem addToCounter_reframe (c : CounterNo) (n : Nat) (s : State) :
    addToCounter c n (reframe l x s) = reframe l x (addToCounter c n s) := by
  have hput : ∀ k, { reframe l x s with counters := k } = reframe l x { s with counters := k } := fun _ => rfl
  simp only [addToCounter, reframe_counters, hput, post_reframe, apply_ite (reframe l x)]

@[simp] theorem report_reframe (e : CountEvent) (room : Option RoomNo) (n : Nat) (s : State) :
    report e room n (reframe l x s) = reframe l x (report e room n s) := by
  unfold report
  rw [reframe_supply]
  cases s.supply with
  | backup => rfl
  | normal =>
    refine foldl_reframe l x (fun s c => ?_) _ s
    simp only [reframe_counters, addToCounter_reframe, apply_ite (reframe l x)]

/-! ### Presences -/

@[simp] theorem uncarry_reframe (who : List PoolIx) (s : State) : uncarry who (reframe l x s) = reframe l x (uncarry who s) := rfl

@[simp] theorem addPresence_reframe (p : Presence) (s : State) :
    addPresence p (reframe l x s) = ((reframe l x (addPresence p s).1), (addPresence p s).2) := by
  unfold addPresence
  simp only [reframe_presence]
  cases (List.finRange 128).find? fun i => (s.presence i).isNone <;> rfl

@[simp] theorem removePresence_reframe (i : PoolIx) (s : State) :
    removePresence i (reframe l x s) = reframe l x (removePresence i s) := by
  unfold removePresence
  rw [reframe_presence]
  cases s.presence i <;> rfl

@[simp] theorem setPresenceState_reframe (i : PoolIx) (y : PresenceState) (s : State) :
    setPresenceState i y (reframe l x s) = reframe l x (setPresenceState i y s) := by
  unfold setPresenceState
  rw [reframe_presence]
  cases s.presence i <;> rfl

@[simp] theorem reexamine_reframe (r : RoomNo) (gone : List Nat) (s : State) :
    reexamine r gone (reframe l x s) = reframe l x (reexamine r gone s) := by
  have hcheck : ∀ t, escortCheck r gone (reframe l x t) = reframe l x (escortCheck r gone t) := fun t => by
    have hhere : roomPresences (reframe l x t) r = roomPresences t r := rfl
    have hleads : isSupervisor (reframe l x t) = isSupervisor t := rfl
    have hneeds : needsEscort (reframe l x t) = needsEscort t := rfl
    have hused : ∀ k, { reframe l x t with freeUsed := k } = reframe l x { t with freeUsed := k } := fun _ => rfl
    simp only [escortCheck, hhere, hleads, hneeds, hused, reframe_freeUsed, apply_ite (reframe l x), ← post_reframe,
      ← writeJournal_reframe]
  exact hcheck (refreshRoom r s)

/-- R102, R103: a presence resolved in the register's state, whatever the framing. -/
theorem resolveOpened_reframe (i : PoolIx) (y : State × List Nat) :
    resolveOpened i (reframe l x y.1, y.2) = (reframe l x (resolveOpened i y).1, (resolveOpened i y).2) := by
  have hentry : ∀ r, entryStation (reframe l x y.1) r = entryStation y.1 r := fun _ => rfl
  have hexit : ∀ r, exitStation (reframe l x y.1) r = exitStation y.1 r := fun _ => rfl
  have hbadge : supervisorBadge (reframe l x y.1) i = supervisorBadge y.1 i := rfl
  have hnumber : ∀ t k, permitNumber (reframe l x t) k = permitNumber t k := fun _ _ => rfl
  unfold resolveOpened
  simp only [reframe_presence, hentry, hexit, hbadge, hnumber, setPresenceState_reframe, removePresence_reframe, writeJournal_reframe,
    report_reframe]
  cases y.1.presence i with
  | none => rfl
  | some p => cases h : p.state <;> simp only [h]

theorem resolveUnused_reframe (i : PoolIx) (y : State × List Nat) :
    resolveUnused i (reframe l x y.1, y.2) = (reframe l x (resolveUnused i y).1, (resolveUnused i y).2) := by
  have hbadge : supervisorBadge (reframe l x y.1) i = supervisorBadge y.1 i := rfl
  have hnumber : ∀ t k, permitNumber (reframe l x t) k = permitNumber t k := fun _ _ => rfl
  unfold resolveUnused
  simp only [reframe_presence, hbadge, hnumber, setPresenceState_reframe, removePresence_reframe, writeJournal_reframe]
  cases y.1.presence i with
  | none => rfl
  | some p => cases h : p.state <;> simp only [h]

theorem resolve_reframe {one : PoolIx → State × List Nat → State × List Nat}
    (h : ∀ i y, one i (reframe l x y.1, y.2) = (reframe l x (one i y).1, (one i y).2)) (who : List PoolIx) (s : State) :
    resolve one who (reframe l x s) = reframe l x (resolve one who s) := by
  refine foldl_reframe l x (fun t r => ?_) (roomsOfPresences s who) (uncarry who s)
  have hall : ∀ (is : List PoolIx) (t : State), is.foldl (fun y i => one i y) (reframe l x t, []) =
      (reframe l x (is.foldl (fun y i => one i y) (t, [])).1, (is.foldl (fun y i => one i y) (t, [])).2) := fun is t =>
    foldl_pair_reframe l x (f := fun y i => one i y) (fun y i => h i y) is t []
  simp only [resolveRoom, reframe_roomState, hall, reexamine_reframe]

@[simp] theorem applyEffect_reframe (e : PresenceEffect) (s : State) :
    applyEffect e (reframe l x s) = reframe l x (applyEffect e s) := by
  cases e with
  | tie | drop => rfl
  | opened who => exact resolve_reframe l x (resolveOpened_reframe l x) who s
  | unused who => exact resolve_reframe l x (resolveUnused_reframe l x) who s

@[simp] theorem reportEffect_reframe (e : PresenceEffect) (s : State) :
    reportEffect e (reframe l x s) = reframe l x (reportEffect e s) := by
  simp only [reportEffect, reframe_turn, reframe_heldEffects, applyEffect_reframe, apply_ite (reframe l x)]
  rfl

@[simp] theorem effect_reframe (own : Bool) (e : PresenceEffect) (s : State) :
    effect own e (reframe l x s) = reframe l x (effect own e s) := by
  simp only [effect, applyEffect_reframe, reportEffect_reframe, apply_ite (reframe l x)]

/-! ### Commands and holds -/

@[simp] theorem loseCarried_reframe (a : LoopAddr) (c : Carried) (s : State) :
    loseCarried a c (reframe l x s) = reframe l x (loseCarried a c s) := by
  unfold loseCarried
  rw [reframe_polling]
  cases s.polling with
  | none => rfl
  | some p =>
    dsimp only
    split_ifs <;> rfl

@[simp] theorem loseCommand_reframe (own : Bool) (c : Option DecisionCommand) (s : State) :
    loseCommand own c (reframe l x s) = reframe l x (loseCommand own c s) := by
  unfold loseCommand
  split
  · exact effect_reframe ..
  · rfl

@[simp] theorem queueDecision_reframe (own : Bool) (a : LoopAddr) (c : DecisionCommand) (s : State) :
    queueDecision own a c (reframe l x s) = reframe l x (queueDecision own a c s) := by
  simp only [queueDecision, reframe_station, setStation_reframe, loseCarried_reframe, loseCommand_reframe]

@[simp] theorem discardDecision_reframe (own : Bool) (a : LoopAddr) (s : State) :
    discardDecision own a (reframe l x s) = reframe l x (discardDecision own a s) := by
  simp only [discardDecision, reframe_station, setStation_reframe, loseCarried_reframe, loseCommand_reframe]

@[simp] theorem clearRead_reframe (a : LoopAddr) (s : State) : clearRead a (reframe l x s) = reframe l x (clearRead a s) := by
  unfold clearRead
  simp only [reframe_station, reframe_turn]
  rcases (s.station a).read with _ | ⟨_, _ | _⟩
  · rfl
  · rcases s.turn with _ | ⟨_ | _ | _ | _, _⟩
    · rfl
    · dsimp only
      split_ifs <;> rfl
    · rfl
    · rfl
    · rfl
  · rfl

@[simp] theorem queueMode_reframe (own : Bool) (m : ModeCommand) (a : LoopAddr) (s : State) :
    queueMode own m a (reframe l x s) = reframe l x (queueMode own m a s) := by
  unfold queueMode
  simp only [reframe_station, setStation_reframe, loseCarried_reframe, discardDecision_reframe, clearRead_reframe]
  split <;> rfl

@[simp] theorem queueModeEverywhere_reframe (own : Bool) (m : ModeCommand) (s : State) :
    queueModeEverywhere own m (reframe l x s) = reframe l x (queueModeEverywhere own m s) :=
  foldl_reframe l x (fun s a => queueMode_reframe l x own m a s) (polledAddresses s) s

@[simp] theorem cancelHold_reframe (a : Option LoopAddr) (why : Option Reason) (s : State) (r : RoomNo) :
    cancelHold a why (reframe l x s) r = reframe l x (cancelHold a why s r) := by
  unfold cancelHold
  rw [reframe_hold]
  cases s.hold r with
  | none => rfl
  | some h => exact writeJournal_reframe l x _ (s.setHold r none)

@[simp] theorem refuseAtEntry_reframe (own : Bool) (r : RoomNo) (why : Reason) (s : State) :
    refuseAtEntry own r why (reframe l x s) = reframe l x (refuseAtEntry own r why s) := by
  have hentry : entryStation (reframe l x s) r = entryStation s r := rfl
  unfold refuseAtEntry
  rw [hentry]
  cases entryStation s r with
  | none => rfl
  | some a => exact queueDecision_reframe ..

@[simp] theorem retestHold_reframe (i : SlotNo) (badge : Nat) (s : State) (r : RoomNo) :
    retestHold i badge (reframe l x s) r = reframe l x (retestHold i badge s r) := by
  have hentry : entryStation (reframe l x s) r = entryStation s r := rfl
  have hnumber : ∀ t k, permitNumber (reframe l x t) k = permitNumber t k := fun _ _ => rfl
  unfold retestHold
  simp only [reframe_hold, reframe_permit, hentry, holdRecord, hnumber, setHold_reframe, refuseAtEntry_reframe, writeJournal_reframe,
    report_reframe]
  cases s.hold r with
  | none => rfl
  | some h =>
    dsimp only
    rw [apply_ite (reframe l x)]
    refine congrArg (fun t => ite _ t _) ?_
    split <;> rfl

@[simp] theorem retestHolds_reframe (i : SlotNo) (badge : Nat) (s : State) :
    retestHolds i badge (reframe l x s) = reframe l x (retestHolds i badge s) :=
  foldl_reframe l x (fun s r => retestHold_reframe l x i badge s r) _ s

end

/-- R175, R176: what is done whatever a port's framing is leaves that framing. -/
theorem framing_of_hom {f : State → State} {l : Link} (hf : ∀ x s, f (reframe l x s) = reframe l x (f s)) (s : State) :
    f s = reframe l (s.port l) (f s) := by
  rw [← hf, reframe_self]

theorem inFlight_of_hom {f : State → State} {l : Link} (hf : ∀ x s, f (reframe l x s) = reframe l x (f s)) (s : State) :
    ((f s).port l).inFlight = (s.port l).inFlight := by
  rw [framing_of_hom hf s, reframe_port_same]

/-- R91, R175: the holds re-tested leave the requests in flight. -/
@[simp] theorem retestHolds_inFlight (l : Link) (i : SlotNo) (badge : Nat) (s : State) :
    ((retestHolds i badge s).port l).inFlight = (s.port l).inFlight :=
  inFlight_of_hom (fun x s => retestHolds_reframe l x i badge s) s

end Sys2Proof.Machine
end

section
/-! The turn that follows another (O10), and the requests on permits, each served in its turn (O23, O24, O26, O27, O28). -/

namespace Sys2Proof.Machine

open Claims

/-! ### The next turn -/

/-- R53: the one link that waits is served next, or of two the one not served last. -/
theorem nextLink_of_waits {l m : Link} {s : State} (hlm : l ≠ m) (hl : Waits l s) (hm : Waits m s → s.lastServed = m) :
    nextLink s = some l := by
  have hwl : linkWaits s l = true := (linkWaits_iff s l).mpr hl
  cases hwm : linkWaits s m with
  | true =>
    have hlast := hm ((linkWaits_iff s m).mp hwm)
    cases l <;> cases m <;> first | exact absurd rfl hlm | simp [nextLink, hwl, hwm, hlast]
  | false => cases l <;> cases m <;> first | exact absurd rfl hlm | simp [nextLink, hwl, hwm]

theorem nextLink_none {s : State} (h : ∀ l, ¬ Waits l s) : nextLink s = none := by
  have hno : ∀ l, linkWaits s l = false := fun l => Bool.eq_false_iff.mpr ((linkWaits_iff s l).not.mpr (h l))
  simp [nextLink, hno]

/-- R53: a turn granted to a link is a walk's or its request's. -/
theorem linkUser_eq (s : State) (l : Link) : linkUser s l = linkTurn l s := by
  simp only [linkUser, linkTurn, Option.isSome_iff_ne_none]

/-- R52, R104: with no effect held the turn that ends is followed by the Decision Unit's, a link's or the sweep's. -/
theorem endTurn_free {s : State} (hs : s.supply = .normal) (he : s.heldEffects = []) : endTurn s =
    match s.readQueue with
    | rd :: rest => { s with turn := some ⟨.decision rd false, s.clock⟩, readQueue := rest }
    | [] =>
      match nextLink s with
      | some l => { s with turn := some ⟨linkUser s l, s.clock⟩, lastServed := l }
      | none => if s.sweep.run.isSome then { s with turn := some ⟨.sweepStep, s.clock⟩ } else { s with turn := none } := by
  have hfree : ((none : Option Turn).isSome || !s.heldEffects.isEmpty || s.supply == .backup) = false := by simp [hs, he]
  exact if_neg (Bool.eq_false_iff.mp hfree)

end Sys2Proof.Machine

open Sys2Proof Sys2Proof.Machine Sys2Proof.Claims in
/-- Settles O10: the grant's three users in their order, and no grant while an effect is held. -/
theorem turnsAreGrantedInOrder : Obligations.TurnsAreGrantedInOrder := by
  refine fun s hs => ⟨fun he => grantNext_busy { s with turn := none } (.inr he), fun he => ⟨fun rd rest hq => ?_, fun hq =>
    ⟨fun l m hlm hl hm => ?_, fun hno => ?_⟩⟩⟩
  · rw [endTurn_free hs he, hq]
  · rw [endTurn_free hs he, hq, nextLink_of_waits hlm hl hm, ← linkUser_eq]
  · rw [endTurn_free hs he, hq, nextLink_none hno]
    cases s.sweep.run <;> rfl

namespace Sys2Proof.Machine

open Claims

/-! ### The permit named, and its change -/

/-- R33, R37: the lookup finds the one slot that holds the number. -/
theorem findPermit_named {n : Nat} {i : SlotNo} {p : Permit} {s : State} (h : Named n i p s) : findPermit s n = some i := by
  obtain ⟨hp, hn, hone⟩ := h
  have hfound : (findPermit s n).isSome = true := List.find?_isSome.mpr ⟨i, List.mem_finRange i, by simp [hp, hn]⟩
  obtain ⟨j, hj⟩ := Option.isSome_iff_exists.mp hfound
  have hmatch : (s.permit j).any (·.number == n) = true := List.find?_some (p := fun i => (s.permit i).any _) hj
  cases hq : s.permit j with
  | none => simp [hq] at hmatch
  | some q => rw [hj, hone j q hq (by simpa [hq] using hmatch)]

theorem lookup_named {n : Nat} {i : SlotNo} {p : Permit} {s : State} (h : Named n i p s) (l : Link)
    (f : SlotNo → Permit → State → State) : lookup l n f s = f i p s := by
  simp only [lookup, findPermit_named h, h.1]

theorem named_of_named {n : Nat} {i : SlotNo} {p : Permit} {s : State} (h : Named n i p s) : named n s = some p := by
  have hslot : namedSlot n s = some i := findPermit_named h
  rw [named_eq, hslot]
  exact h.1

theorem named_none {n : Nat} {s : State} (h : ∀ i p, s.permit i = some p → p.number ≠ n) : named n s = none := by
  simp only [named, List.findSome?_eq_none_iff]
  intro i _
  cases hp : s.permit i with
  | none => rfl
  | some p => simp [Option.filter, h i p hp]

/-- R35, R38, R91: a permit changed and the holds re-tested. -/
theorem retestHolds_changePermit (i : SlotNo) (old : PermitState) (q : Permit) (source : Source) (s : State) :
    retestHolds i q.badge (changePermit i old q source s) = replaced i old q source s := rfl

theorem retestHolds_restanding (i : SlotNo) (old : PermitState) (p : Permit) (x : Standing) (source : Source) (s : State) :
    retestHolds i p.badge (changePermit i old { p with standing := x } source s) =
      replaced i old { p with standing := x } source s := rfl

/-- R38, R91: a change journalled and the holds re-tested leave the requests in flight. -/
@[simp] theorem replaced_inFlight (l : Link) (i : SlotNo) (before : PermitState) (q : Permit) (source : Source) (s : State) :
    ((replaced i before q source s).port l).inFlight = (s.port l).inFlight := by
  rw [replaced, retestHolds_inFlight, writeJournal_port]
  rfl

theorem reply_replaced {l : Link} {r : Request} {s : State} (h : InTurn l r s) (st : Status) (c : ReplyContent) (i : SlotNo)
    (before : PermitState) (q : Permit) (source : Source) :
    reply l st c (replaced i before q source s) = answered l r st c (replaced i before q source s) :=
  reply_handed (by rw [replaced_inFlight]; exact h.1.2) st c

/-! ### DRAFT PERMIT -/

theorem heldPattern_eq (pattern : Option PatternBody) : heldPattern pattern = patternHeld pattern := by cases pattern <;> rfl

/-- R40: the reply to a draft or an amend tells of its clamps. -/
theorem contentOf_status (flags : Byte) (start stop : CivilMinute) (pattern : Option PatternBody) (rooms : List Nat) :
    (contentOf flags start stop pattern rooms).status = clampStatus start stop pattern := by
  rw [clampStatus, ← heldPattern_eq]
  show (if (decide (absMinute start + 44640 < absMinute stop) || (pattern.isSome && (heldPattern pattern).isNone)) = true then
    Status.clamped else .done) = _
  simp only [Bool.or_eq_true, Bool.and_eq_true, decide_eq_true_eq, Option.isSome_iff_ne_none, Option.isNone_iff_eq_none]

theorem draftedPermit_eq (b : DraftBody) (s : State) : draftedPermit b s = drafted b (turnMinute s) s.timings.grace := by
  simp only [draftedPermit, draftContent, contentOf, drafted, heldPattern_eq]
  rfl

/-- R37, R39: the model's checks of a draft are its owner's. -/
theorem draftChecks_eq (l : Link) (b : DraftBody) (s : State) : draftChecks b s = ownersChecks l s (.draftPermit b) := by
  have hform : (badTail b.flags b.pattern b.count b.rooms || b.flags &&& 0xE0 != 0 || b.permit == 0 || b.firm == 0 ||
      decide (999 < b.firm) || b.badge == 0) = (tailAmiss b.flags b.pattern b.count b.rooms ||
        decide (32 ≤ b.flags.toNat ∨ b.permit = 0 ∨ b.firm = 0 ∨ 999 < b.firm ∨ b.badge = 0)) := by
    rw [flags_above_five, badTail_eq]
    simp [beq_eq_decide, Bool.or_assoc]
  have hfound : (findPermit s b.permit).isSome = (named b.permit s).isSome := namedSlot_isSome b.permit s
  rw [draftChecks, hform, hfound, vacantSlot_isNone, badRooms_eq, badSpan_eq, liveOrHeldOf_eq]
  rfl

/-- R40: the slot chosen is VACANT, and the lowest that is where any would do. -/
theorem draftSlot_chosen {b : DraftBody} {i : SlotNo} {s : State} (h : draftSlot b s = some i) :
    (b.flags.getLsbD 3 = false → i = b.slot) ∧ (b.flags.getLsbD 3 = true → ∀ j < i, s.permit j ≠ none) := by
  unfold draftSlot at h
  split at h
  · next hany =>
    rw [vacantSlot, ← List.head?_filter] at h
    obtain ⟨-, hleast⟩ := (head?_filter_finRange _ _).mp h
    refine ⟨fun hf => absurd (hf.symm.trans hany) nofun, fun _ j hj hvacant => ?_⟩
    exact absurd (hleast j (by simp [hvacant])) (not_le.mpr hj)
  · next hnamed => exact ⟨fun _ => (Option.some.inj h).symm, fun hany => absurd hany hnamed⟩

/-- R41: an accepted draft in its slot. -/
theorem acceptDraft_eq {l : Link} {b : DraftBody} {i : SlotNo} {s : State} (hi : draftSlot b s = some i)
    (h : InTurn l (.draftPermit b) s) :
    let p := drafted b (turnMinute s) s.timings.grace
    let t := writeJournal (changeRecord i .vacant p.standing.state p .works) (s.setPermit i (some p))
    let u := if p.urgent then
        post { kind := .provisionalIssued, badge := some p.badge, permit := some p.number, figures := .value s.timings.grace } t
      else t
    acceptDraft l b s = answered l (.draftPermit b) (clampStatus b.start b.stop b.pattern)
      (.drafted i 0 p.standing.state p.graceEnd) (retestHolds i p.badge u) := by
  intro p t u
  have hhanded : ((retestHolds i p.badge u).port l).inFlight = some ⟨.draftPermit b, .handed⟩ := by
    have hchange : (t.port l).inFlight = some ⟨.draftPermit b, .handed⟩ := by
      rw [writeJournal_port]
      exact h.1.2
    rw [retestHolds_inFlight]
    show (State.port (if p.urgent then _ else t) l).inFlight = _
    split
    · rw [post_inFlight, hchange]
    · exact hchange
  have haccept : acceptDraft l b s = reply l (clampStatus b.start b.stop b.pattern) (.drafted i 0 p.standing.state p.graceEnd)
      (retestHolds i p.badge u) := by
    simp only [acceptDraft, hi, draftedPermit_eq, draftContent, contentOf_status]
    rfl
  rw [haccept]
  exact reply_handed hhanded _ _

end Sys2Proof.Machine

open Sys2Proof Sys2Proof.Machine Sys2Proof.Claims in
/-- Settles O23: the checks pass, the slot is found, and the draft is accepted in it. -/
theorem draftFillsASlot : Obligations.DraftFillsASlot := by
  intro l b s h hchecks
  have hpass : firstFailing (draftChecks b s) = none := (congrArg _ (draftChecks_eq l b s)).trans hchecks
  obtain ⟨⟨i, hi, hvacant⟩, -, -⟩ := draft_accepted hpass
  obtain ⟨hslot, hlowest⟩ := draftSlot_chosen hi
  have hserve : serveRequest l (.draftPermit b) s = acceptDraft l b s := checked_passes l _ _ s hpass
  refine ⟨i, hvacant, hslot, hlowest, ?_⟩
  rw [exec_inTurn rfl rfl h, hserve, acceptDraft_eq hi h]

namespace Sys2Proof.Machine

open Claims

/-! ### AMEND PERMIT -/

theorem replaceContent_eq (b : AmendBody) (p : Permit) : replaceContent p (amendContent b) = rewritten b p := by
  simp only [replaceContent, amendContent, contentOf, rewritten, heldPattern_eq]
  rfl

/-- R43: the model's test of an amend is the rule's. -/
theorem narrows_iff (b : AmendBody) (p : Permit) : narrows p (amendContent b) = true ↔ Narrows p (rewritten b p) := by
  rw [← replaceContent_eq]
  generalize amendContent b = c
  have hescort : (c.escort || !p.escort) = true ↔ (p.escort = true → c.escort = true) := by
    cases c.escort <;> cases p.escort <;> simp
  have hrole : (c.role == .worker || p.role == .supervisor) = true ↔ (c.role = p.role ∨ c.role = .worker) := by
    cases c.role <;> cases p.role <;> decide
  simp only [narrows, Bool.and_eq_true, List.all_eq_true, decide_eq_true_eq, hescort, hrole, and_assoc, replaceContent, Narrows]

/-- R44: the permit after an amend, by the state held. -/
theorem amendedPermit_eq {b : AmendBody} {p q : Permit} (h : amended p (rewritten b p) = some q) :
    amendedPermit p (amendContent b) = q := by
  have hn := narrows_iff b p
  unfold amendedPermit
  dsimp only
  rw [replaceContent_eq]
  unfold amended at h
  by_cases hnarrows : Narrows p (rewritten b p)
  · simp only [if_pos hnarrows] at h
    rw [if_pos (hn.mpr hnarrows)]
    split at h <;> first | exact Option.some.inj h | cases h
  · simp only [if_neg hnarrows] at h
    rw [if_neg (hn.not.mpr hnarrows)]
    split at h
    · next hx => rw [hx]; exact Option.some.inj h
    · next hx => rw [hx]; exact Option.some.inj h
    · next hx => rw [hx]; exact Option.some.inj h
    · next hx => rw [hx]; exact Option.some.inj h
    · next back reason held hback hx =>
      rw [hx]
      cases back with
      | pending => exact (hback rfl).elim
      | active | provisional => exact Option.some.inj h
    · cases h

/-- R42: the checks of an amend on the permit it names. -/
theorem amendPermit_accepted {l : Link} {b : AmendBody} {i : SlotNo} {p : Permit} {s : State} (hp : Named b.permit i p s)
    (hchecks : firstFailing (ownersChecks l s (.amendPermit b)) = none) :
    serveRequest l (.amendPermit b) s = acceptAmend l b i p s := by
  change firstFailing ((_, _) :: (_, _) :: _) = none at hchecks
  rw [firstFailing_cons_none, firstFailing_cons_none] at hchecks
  obtain ⟨hform, -, hrest⟩ := hchecks
  have hform' : (badTail b.flags b.pattern b.count b.rooms || b.flags &&& 0xEA != 0) = false := by
    rw [flags_amended, badTail_eq]
    simpa only [Bool.or_assoc] using hform
  have hrest' : firstFailing (amendChecks b p s) = none := by
    rw [amendChecks, badRooms_eq, badSpan_eq, liveOrHeld_eq, Bool.not_not]
    rw [named_of_named hp] at hrest
    exact hrest
  show serveAmendPermit l b s = _
  rw [serveAmendPermit, checked_passes _ _ _ _ (by rw [hform']; rfl), lookup_named hp, checked_passes _ _ _ _ hrest']

end Sys2Proof.Machine

open Sys2Proof Sys2Proof.Machine Sys2Proof.Claims in
/-- Settles O24: the checks pass, and the permit left is that of R44's table. -/
theorem amendLeavesTheStateOfItsTable : Obligations.AmendLeavesTheStateOfItsTable := by
  intro l b i p q s h hchecks hp hq
  have hpermit := amendedPermit_eq hq
  have hrevision : q.revision = p.revision + 1 := by
    rw [← hpermit]
    unfold amendedPermit
    dsimp only
    split
    · rfl
    · split <;> rfl
  rw [exec_inTurn rfl rfl h, amendPermit_accepted hp hchecks, acceptAmend, hpermit, amendContent, contentOf_status, hrevision]
  exact congrArg (fun t => Host.Outcome.next (endTurn t)) (reply_replaced h ..)

open Sys2Proof Sys2Proof.Machine Sys2Proof.Claims in
/-- Settles O26: the lookup, the revision, and the permit's state. -/
theorem countersignFollowsItsTable : Obligations.CountersignFollowsItsTable := by
  refine ⟨fun n v => ⟨rfl, rfl⟩, fun n v s h hno => ?_, fun n v i p s h hp => ?_⟩
  · have hserve : serveRequest .security (.countersign n v) s = reply .security .noSuchPermit .nothing s :=
      lookup_absent (named_none hno) ..
    rw [exec_inTurn rfl rfl h, hserve, reply_handed h.1.2]
  · have hserve : serveRequest .security (.countersign n v) s = countersignFound .security v i p s := lookup_named hp ..
    rw [exec_inTurn rfl rfl h, hserve]
    refine ⟨fun hv => ?stale, fun hv hlive => ?signed, fun hv hactive => ?active, fun hv hother => ?other⟩
    case stale => rw [countersignFound, if_pos hv, reply_handed h.1.2]
    case signed =>
      have hfound : countersignFound .security v i p s = reply .security .done (.countersigned .active p.revision)
          (replaced i p.standing.state (p.countersignedAt (turnMinute s)) .security s) := by
        rw [countersignFound, if_neg (not_not_intro hv)]
        rcases hlive with hx | hx <;> simp only [hx, retestHolds_changePermit] <;> rfl
      rw [hfound, reply_replaced h]
      rfl
    case active => simp only [countersignFound, if_neg (not_not_intro hv), hactive, reply_handed h.1.2]
    case other =>
      have hfound : countersignFound .security v i p s = reply .security .wrongState .nothing s := by
        rw [countersignFound, if_neg (not_not_intro hv)]
        cases hx : p.standing with
        | pending | active | provisional => simp [hx, Held, Terminal] at hother
        | suspended | ended => rfl
      rw [hfound, reply_handed h.1.2]

namespace Sys2Proof.Machine

open Claims

/-! ### SUSPEND and RESUME PERMIT -/

/-- R46: the former state is the return state, and that of a SUSPENDED permit stays. -/
theorem suspendedStanding_eq {x : Standing} {back : ReturnState} (reason : Nat) (held : Bool)
    (h : (x = .pending ∧ back = .pending) ∨ (x = .active ∧ back = .active) ∨ (x = .provisional ∧ back = .provisional) ∨
      ∃ old was, x = .suspended back old was) :
    suspendedStanding x reason held = some (.suspended back reason held) := by
  rcases h with ⟨rfl, rfl⟩ | ⟨rfl, rfl⟩ | ⟨rfl, rfl⟩ | ⟨old, was, rfl⟩ <;> rfl

/-- R47, R147: a resumed permit that did not lapse. -/
theorem settleResumed_live {i : SlotNo} {q : Permit} {s : State} (h : q.standing.state ≠ .lapsed) :
    settleResumed i q s = replaced i .suspended q .security s := by
  have hlapsed : (q.standing.state == .lapsed) = false := beq_eq_false_iff_ne.mpr h
  simp only [settleResumed, hlapsed, Bool.false_eq_true, if_false]
  rfl

/-- R47, R147: a resumed permit that lapsed. -/
theorem settleResumed_lapsed (i : SlotNo) (p : Permit) (m : Nat) (s : State) :
    let q := { p with standing := .ended .lapsed m }
    settleResumed i q s = retestHolds i p.badge
      (post { kind := .lapsed, badge := some p.badge, permit := some p.number }
        (writeJournal (changeRecord i .suspended .lapsed q .security) (s.setPermit i (some q)))) := rfl

/-- R47, R147: the permit after a resume, by its return state. -/
theorem resumedPermit_eq {p : Permit} {back : ReturnState} {reason : Nat} {held : Bool} (h : p.standing = .suspended back reason held)
    (m : Nat) :
    (back = .pending → resumedPermit p m = some { p with standing := .pending }) ∧
    (back = .active → resumedPermit p m = some { p with standing := .active }) ∧
    (∀ g, back = .provisional → p.graceEnd = some g →
      (m < g → resumedPermit p m = some { p with standing := .provisional }) ∧
      (g ≤ m → resumedPermit p m = some { p with standing := .ended .lapsed m })) := by
  refine ⟨?_, ?_, fun g => ?_⟩
  · rintro rfl; simp only [resumedPermit, h]
  · rintro rfl; simp only [resumedPermit, h]
  · rintro rfl hg
    refine ⟨fun hm => ?_, fun hm => ?_⟩
    · simp [resumedPermit, h, hg, hm]
    · simp [resumedPermit, h, hg, not_lt.mpr hm, Permit.finished]

end Sys2Proof.Machine

open Sys2Proof Sys2Proof.Machine Sys2Proof.Claims in
/-- Settles O27: the lookup, then the permit by its state, or by its return state. -/
theorem permitsAreSuspendedAndResumed : Obligations.PermitsAreSuspendedAndResumed := by
  refine ⟨fun l n reason i p back s h hreason hp hback => ?_, fun l n i p back reason held s h hp hx => ?_⟩
  · have hserve : serveRequest l (.suspendPermit n reason) s = suspendFound l reason i p s := by
      show checked l [(reason == 0, .badLength)] _ s = _
      rw [checked_passes _ _ _ _ (by simp [hreason]), lookup_named hp]
    rw [exec_inTurn rfl rfl h, hserve, suspendFound, suspendedStanding_eq reason false hback]
    dsimp only
    rw [retestHolds_restanding, reply_replaced h]
  · have hserve : serveRequest l (.resumePermit n) s = resumeFound l i p s := lookup_named hp ..
    obtain ⟨hpending, hactive, hprovisional⟩ := resumedPermit_eq hx (turnMinute s)
    have hlive : ∀ y : Standing, y.state ≠ .lapsed → resumedPermit p (turnMinute s) = some { p with standing := y } →
        exec (.resumePermit l n) s = .next (endTurn (answered l (.resumePermit n) .done (.resumed y.state)
          (replaced i .suspended { p with standing := y } .security s))) := fun y hy hq => by
      rw [exec_inTurn rfl rfl h, hserve, resumeFound, hq]
      dsimp only
      rw [settleResumed_live hy, reply_replaced h]
    refine ⟨fun hb => hlive _ nofun (hpending hb), fun hb => hlive _ nofun (hactive hb),
      fun g hb hg hm => hlive _ nofun ((hprovisional g hb hg).1 hm), fun g hb hg hm => ?_⟩
    rw [exec_inTurn rfl rfl h, hserve, resumeFound, (hprovisional g hb hg).2 hm]
    dsimp only
    rw [settleResumed_lapsed, reply_handed (r := .resumePermit n)]
    · rfl
    · rw [retestHolds_inFlight, post_inFlight, writeJournal_port]
      exact h.1.2

namespace Sys2Proof.Machine

open Claims

/-! ### REVOKE, CLOSE and PURGE PERMIT -/

/-- R34, R48: a live-or-held permit ended. -/
theorem finishFound_live {l : Link} {r : Request} {how : Ending} {source : Source} {i : SlotNo} {p : Permit} {s : State}
    (h : InTurn l r s) (hp : Terminal p.standing = false) : finishFound l how source i p s = answered l r .done .nothing
      (replaced i p.standing.state { p with standing := .ended how (turnMinute s) } source s) := by
  rw [finishFound, liveOrHeld_eq, hp, Permit.finished, retestHolds_restanding, reply_replaced h]
  rfl

/-- R38, R49: a slot made VACANT is journalled as its state and VACANT. -/
theorem vacate_eq (i : SlotNo) (p : Permit) (source : Source) (s : State) :
    vacate i p source s = writeJournal (changeRecord i p.standing.state .vacant p source) (s.setPermit i none) := rfl

/-- R49: a terminal permit that no presence refers to is purged. -/
theorem purgeFound_free {l : Link} {r : Request} {i : SlotNo} {p : Permit} {s : State} (h : InTurn l r s)
    (hp : Terminal p.standing = true) (hfree : ∀ k x, s.presence k = some x → x.slot ≠ i) :
    purgeFound l i p s = answered l r .done .nothing
      (retestHolds i p.badge (writeJournal (changeRecord i p.standing.state .vacant p .works) (s.setPermit i none))) := by
  have hhanded : ((retestHolds i p.badge (vacate i p .works s)).port l).inFlight = some ⟨r, .handed⟩ := by
    rw [retestHolds_inFlight, vacate_eq, writeJournal_port]
    exact h.1.2
  rw [purgeFound, liveOrHeld_eq, hp, (slotReferred_false s i).mpr hfree, ← vacate_eq, ← reply_handed hhanded]
  rfl

end Sys2Proof.Machine

open Sys2Proof Sys2Proof.Machine Sys2Proof.Claims in
/-- Settles O28: the lookup, then the permit ended, or its slot made VACANT. -/
theorem permitsAreEndedAndPurged : Obligations.PermitsAreEndedAndPurged := by
  refine ⟨fun l n i p s h hp hlive => ?_, fun l n i p s h hp hlive => ?_, fun l n i p s h hp hended hfree => ?_⟩
  · have hserve : serveRequest l (.revokePermit n) s = finishFound l .revoked .security i p s := lookup_named hp ..
    rw [exec_inTurn rfl rfl h, hserve, finishFound_live h hlive]
  · have hserve : serveRequest l (.closePermit n) s = finishFound l .closed .works i p s := lookup_named hp ..
    rw [exec_inTurn rfl rfl h, hserve, finishFound_live h hlive]
  · have hserve : serveRequest l (.purgePermit n) s = purgeFound l i p s := lookup_named hp ..
    rw [exec_inTurn rfl rfl h, hserve, purgeFound_free h hended hfree]
end

section
/-! READ PERMIT and LIST PERMITS (O29): the presence on a slot, the octets of a permit, and the slots that match a filter. -/

namespace Sys2Proof.Machine

open Claims

/-! ### READ PERMIT -/

/-- The record at the first place that holds a record of the kind sought. -/
theorem bind_find?_any {α β : Type} (f : α → Option β) (p : β → Bool) (as : List α) :
    (as.find? fun a => (f a).any p).bind f = as.findSome? fun a => (f a).filter p := by
  induction as with
  | nil => rfl
  | cons a as ih =>
    rw [List.findSome?_cons, List.find?_cons]
    cases hf : f a with
    | none => exact ih
    | some b => cases hp : p b <;> simp [Option.filter, hp, hf, ih]

theorem readFound_eq {l : Link} {r : Request} {i : SlotNo} {p : Permit} {s : State} (h : InTurn l r s) : readFound l i p s =
    answered l r .done (.permit i p
      (((List.finRange 128).findSome? fun k => (s.presence k).filter (·.slot == i)).map fun x => (x.room, x.state))) s := by
  rw [readFound, reply_handed h.1.2, ← bind_find?_any]
  rfl

/-! ### The octets of a permit (section 11.3) -/

theorem octets_one (v : Nat) : octets 1 v = be1 v := by simp [octets, be1]
theorem octets_two (v : Nat) : octets 2 v = be2 v := by simp [octets, be2, be1]
theorem octets_three (v : Nat) : octets 3 v = be3 v := by simp [octets, be3, be2, be1]

theorem timeOf_eq (m : Nat) : timeOf m = time5 (civilOf m) := by
  simp only [timeOf, minuteOctets, time5, octets_one]

theorem timeOr_eq (m : Option Nat) : timeOr m = timeHeld m := by
  cases m with
  | none => rfl
  | some m => exact timeOf_eq m

theorem permitState_code (x : PermitState) : x.code = permitStates.idxOf x := by cases x <;> rfl

theorem presenceState_code (x : PresenceState) : x.code = presenceStates.idxOf x := by cases x <;> rfl

/-- Section 11.3: the flags of a permit, of which bit 3 is 0. -/
theorem permitFlags_eq : ∀ supervisor urgent escort pattern held : Bool,
    flagSet [supervisor, urgent, escort, false, pattern, held] =
      bitAt 0 supervisor + bitAt 1 urgent + bitAt 2 escort + bitAt 4 pattern + bitAt 5 held := by decide

/-- Section 11.3: the octets of a slot pattern in a permit's body. -/
def patternField (k : Option Pattern) : List Byte :=
  match k with | some k => be1 k.weekdays.toNat ++ be2 k.starts ++ be2 k.ends | none => [0, 0, 0, 0, 0]

/-- Section 11.3: the octet of a return state in a permit's body. -/
def backField (x : Standing) : Nat :=
  match x with
  | .suspended .pending _ _ => 1 | .suspended .active _ _ => 2 | .suspended .provisional _ _ => 3 | _ => 255

/-- Section 11.3: the octets of the presence that refers to a permit's slot. -/
def presenceField (presence : Option (RoomNo × PresenceState)) : List Byte :=
  match presence with | some (r, x) => be1 r.val ++ be1 (presenceStates.idxOf x) | none => [0xFF, 0xFF]

/-- Section 11.3: a permit's body, field by field. -/
theorem permitBody_fields (i : SlotNo) (p : Permit) (presence : Option (RoomNo × PresenceState)) : permitBody i p presence =
    be1 i.val ++ be2 p.number ++ be1 p.revision.toNat ++ be1 (permitStates.idxOf p.standing.state) ++ be2 p.firm ++ be3 p.badge ++
      be1 (bitAt 0 (p.role == .supervisor) + bitAt 1 p.urgent + bitAt 2 p.escort + bitAt 4 p.pattern.isSome +
        bitAt 5 p.standing.firmHeld) ++
      time5 (civilOf p.drafted) ++ time5 (civilOf p.spanStart) ++ time5 (civilOf p.spanEnd) ++ patternField p.pattern ++
      timeHeld p.graceEnd ++ timeHeld p.countersigned ++ timeHeld p.standing.terminal ++ be1 (backField p.standing) ++
      be1 p.standing.reason ++ presenceField presence ++ be1 p.rooms.length ++ p.rooms.flatMap fun r => be1 r.val := rfl

theorem patternOctets_eq (k : Option Pattern) : patternOctets k = patternField k := by
  cases k with
  | none => rfl
  | some k => simp only [patternOctets, patternField, octet, octets_one, octets_two]

theorem presenceOctets_eq (presence : Option (RoomNo × PresenceState)) (rest : List Byte) :
    octetOr (presence.map (·.1.val)) ++ (octetOr (presence.map (·.2.code)) ++ rest) = presenceField presence ++ rest := by
  cases presence with
  | none => rfl
  | some x =>
    simp only [octetOr, octet, octets_one, Option.map_some, Option.getD_some, presenceState_code, presenceField, List.append_assoc]

theorem backOctet_eq (x : Standing) : octetOr x.backCode = be1 (backField x) := by
  rcases x with _ | _ | _ | ⟨_ | _ | _, _, _⟩ | _ <;> exact octets_one _

theorem permitOctets_eq (i : SlotNo) (p : Permit) (presence : Option (RoomNo × PresenceState)) :
    permitOctets i p presence = permitBody i p presence := by
  rw [permitBody_fields]
  delta permitOctets
  simp only [patternOctets_eq, backOctet_eq, octet, octets_one, octets_two, octets_three, timeOf_eq, timeOr_eq,
    permitState_code, permitFlags_eq, List.append_assoc, presenceOctets_eq]

@[simp] theorem length_time5 (t : CivilMinute) : (time5 t).length = 5 := rfl

@[simp] theorem length_timeHeld (m : Option Nat) : (timeHeld m).length = 5 := by cases m <;> rfl

/-- Section 11.3: with its code and status the body of a permit makes a length of 53 and the rooms. -/
theorem length_permitBody (i : SlotNo) (p : Permit) (presence : Option (RoomNo × PresenceState)) :
    (permitBody i p presence).length + 2 = 53 + p.rooms.length := by
  have hpattern : (patternField p.pattern).length = 5 := by cases p.pattern <;> rfl
  have hpresence : (presenceField presence).length = 2 := by cases presence <;> rfl
  have hrooms : (p.rooms.flatMap fun r => be1 r.val).length = p.rooms.length := by simp [be1]
  rw [permitBody_fields]
  simp only [List.length_append, length_time5, length_timeHeld, hpattern, hpresence, hrooms]
  simp only [be1, be2, be3, List.length_append, List.length_cons, List.length_nil]
  omega

/-! ### LIST PERMITS -/

/-- Section 11.3: the codes of the permit states. -/
theorem permitStateOfCode?_iff (c : Nat) (x : PermitState) : permitStateOfCode? c = some x ↔ x.code = c := by
  constructor
  · unfold permitStateOfCode?
    split <;> rintro h <;> cases h <;> rfl
  · rintro rfl
    cases x <;> rfl

theorem filterMatches_eq (s : State) (f : ListFilter) : filterMatches s f = Matches f s := by
  funext i
  cases f with
  | all | badge | firm | undefined => rfl
  | state c =>
    rw [Bool.eq_iff_iff]
    simp only [filterMatches, Matches, beq_iff_eq, permitStateOfCode?_iff]

theorem badFilter_defined {f : ListFilter} (hf : f ≠ .undefined) (hc : ∀ c, f = .state c → c ≤ 8) : badFilter f = false := by
  cases f with
  | all | badge | firm => rfl
  | undefined => exact absurd rfl hf
  | state c =>
    have hle := hc c rfl
    show (permitStateOfCode? c).isNone = false
    interval_cases c <;> rfl

/-- R51: the slot after the last one examined. -/
def slotAfter (last : Option SlotNo) : Nat :=
  match last with
  | some i => i.val + 1
  | none => 256

/-- R51: the slots found are the first that match, and the next slot is the one after the last of them. -/
theorem listFrom_eq (hit : SlotNo → Bool) {k : Nat} (hk : 1 ≤ k) (is : List SlotNo) : listFrom hit k is =
    ((is.filter hit).take k, slotAfter (is.filter hit)[k - 1]?) := by
  induction is generalizing k with
  | nil => simp [listFrom, slotAfter]
  | cons i is ih =>
    unfold listFrom
    cases hi : hit i with
    | false => simp only [Bool.false_eq_true, if_false, List.filter_cons, hi, ih hk]
    | true =>
      simp only [if_true, List.filter_cons, hi]
      obtain rfl | ⟨m, rfl⟩ : k = 1 ∨ ∃ m, k = m + 2 := by
        rcases Nat.eq_or_lt_of_le hk with h | h
        · exact .inl h.symm
        · exact .inr ⟨k - 2, by omega⟩
      · simp [slotAfter]
      · rw [if_neg (by omega), ih (show 1 ≤ m + 2 - 1 by omega)]
        simp

/-- The numbers from one on are those that are not below it. -/
theorem drop_finRange {n : Nat} (start : Fin n) :
    (List.finRange n).drop start.val = (List.finRange n).filter fun i => decide (start ≤ i) := by
  have hbelow : ((List.finRange n).take start.val).filter (fun i => decide (start ≤ i)) = [] := by
    rw [List.filter_eq_nil_iff]
    intro i hi
    obtain ⟨j, hj, rfl⟩ := List.mem_take_iff_getElem.mp hi
    simp only [List.getElem_finRange, decide_eq_true_eq, Fin.le_def]
    simp
    omega
  have habove : ((List.finRange n).drop start.val).filter (fun i => decide (start ≤ i)) = (List.finRange n).drop start.val := by
    rw [List.filter_eq_self]
    intro i hi
    obtain ⟨j, hj, rfl⟩ := List.mem_drop_iff_getElem.mp hi
    simp [Fin.le_def]
  conv_rhs => rw [← List.take_append_drop start.val (List.finRange n), List.filter_append, hbelow, habove, List.nil_append]

end Sys2Proof.Machine

open Sys2Proof Sys2Proof.Machine Sys2Proof.Claims in
/-- Settles O29: the permit found with its presence, the octets field by field, and the slots from the start on that match. -/
theorem permitsAreReadAndListed : Obligations.PermitsAreReadAndListed := by
  refine ⟨fun l i p s hp => ⟨fun h => ?slot, fun n h hn => ?number⟩,
    fun i p presence => ⟨permitOctets_eq i p presence, length_permitBody i p presence⟩, fun l start f count s h hf hc => ?list⟩
  case slot =>
    have hserve : serveRequest l (.readPermit (.slot i)) s = readFound l i p s := by
      simp only [serveRequest, serveReadPermit, hp]
    rw [exec_inTurn rfl rfl h, hserve, readFound_eq h]
  case number =>
    have hserve : serveRequest l (.readPermit (.number n)) s = readFound l i p s := lookup_named hn ..
    rw [exec_inTurn rfl rfl h, hserve, readFound_eq h]
  case list =>
    intro most hits
    have hlist : listFrom (filterMatches s f) most ((List.finRange 256).drop start.val) =
        (hits.take most, slotAfter hits[most - 1]?) := by
      have hhits : hits = ((List.finRange 256).drop start.val).filter (filterMatches s f) := by
        rw [drop_finRange, List.filter_filter, filterMatches_eq]
        simp only [hits, Bool.and_comm]
      rw [listFrom_eq _ (le_max_left 1 _), hhits]
    have hserve : serveRequest l (.listPermits start f count) s =
        reply l (if most = count then .done else .clamped) (.slots (hits.take most) (slotAfter hits[most - 1]?)) s := by
      show serveListPermits l start f count s = _
      rw [serveListPermits, badFilter_defined hf hc, checked_passes _ _ _ _ rfl, show listCount count = most from rfl, hlist]
    rw [exec_inTurn rfl rfl h, hserve, reply_handed h.1.2]
    rfl
end

section
/-! The sweep's step on a slot (O47), and the firm walks (O49). -/

namespace Sys2Proof.Machine

open Claims

/-! ### The sweep over the permits -/

/-- R138: a sweep's turn on a slot is the step, and the cursor goes on. -/
theorem exec_sweepPermitStep {i : SlotNo} {m : Nat} {full : Bool} {s : State} (h : Sweeping (.permits i) m full s) :
    exec .sweepPermitStep s =
      .next (endTurn (sweepAt (if i.val < 255 then .permits (i + 1) else .presences 0) m full (permitStep i m full s))) := by
  obtain ⟨hrun, hturn⟩ := h
  have hhas : sweepHasTurn s = true := beq_iff_eq.mpr hturn
  show execSweepPermitStep s = _
  simp only [execSweepPermitStep, serveSweepStep, advanceSweep, hrun, hhas, if_true]
  rfl

/-- R139: the sweep lapses the permits that are PROVISIONAL, or would be so on return, once their grace end has come. -/
theorem lapseMinute_iff (p : Permit) (m : Nat) : ((lapseMinute p).any fun g => decide (g ≤ m)) = true ↔ LapseDue p m := by
  have hdue : (p.graceEnd.any fun g => decide (g ≤ m)) = true ↔ ∃ g, p.graceEnd = some g ∧ g ≤ m := by
    cases p.graceEnd <;> simp
  unfold lapseMinute LapseDue
  rw [← hdue]
  rcases hx : p.standing with _ | _ | _ | ⟨_ | _ | _, reason, held⟩ | _ <;> simp

/-- R140: the sweep purges, if it is full, what has been terminal for a day and is referred to by no presence. -/
theorem purgeDue_iff (p : Permit) (i : SlotNo) (m : Nat) (full : Bool) (s : State) :
    (full && purgeDue p m && !slotReferred s i) = true ↔ PurgeDue p i m full s := by
  have hended : purgeDue p m = true ↔ ∃ how t, p.standing = .ended how t ∧ t + 1440 ≤ m := by
    unfold purgeDue
    cases p.standing with
    | ended how t => exact decide_eq_true_iff.trans ⟨fun h => ⟨how, t, rfl, h⟩, fun ⟨_, _, hx, h⟩ => by cases hx; exact h⟩
    | pending | active | provisional | suspended => simp
  rw [Bool.and_eq_true, Bool.and_eq_true, hended, Bool.not_eq_true', slotReferred_false, and_assoc]

theorem permitStep_vacant {i : SlotNo} {m : Nat} {full : Bool} {s : State} (h : s.permit i = none) : permitStep i m full s = s := by
  simp only [permitStep, h]

section
variable {i : SlotNo} {m : Nat} {full : Bool} {p : Permit} {s : State}

/-- R139: past its span end. -/
theorem permitStep_expired (hp : s.permit i = some p) (hlive : Terminal p.standing = false) (hm : p.spanEnd ≤ m) :
    permitStep i m full s = replaced i p.standing.state { p with standing := .ended .expired m } .sweep s := by
  have hover : (p.standing.liveOrHeld && decide (p.spanEnd ≤ m)) = true := by simp [liveOrHeld_eq, hlive, hm]
  simp only [permitStep, hp, if_pos hover]
  exact retestHolds_restanding ..

/-- R139: not past its span end but past its grace. -/
theorem permitStep_lapsed (hp : s.permit i = some p) (hover : ¬ (p.standing.liveOrHeld && decide (p.spanEnd ≤ m)) = true)
    (hdue : LapseDue p m) : permitStep i m full s =
      retestHolds i p.badge (post { kind := .lapsed, badge := some p.badge, permit := some p.number }
        (writeJournal (changeRecord i p.standing.state .lapsed { p with standing := .ended .lapsed m } .sweep)
          (s.setPermit i (some { p with standing := .ended .lapsed m })))) := by
  simp only [permitStep, hp, if_neg hover, if_pos ((lapseMinute_iff p m).mpr hdue)]
  rfl

/-- R140: purged. -/
theorem permitStep_purged (hp : s.permit i = some p) (hover : ¬ (p.standing.liveOrHeld && decide (p.spanEnd ≤ m)) = true)
    (hgrace : ¬ LapseDue p m) (hdue : PurgeDue p i m full s) : permitStep i m full s =
      retestHolds i p.badge (writeJournal (changeRecord i p.standing.state .vacant p .sweep) (s.setPermit i none)) := by
  simp only [permitStep, hp, if_neg hover, if_neg ((lapseMinute_iff p m).not.mpr hgrace),
    if_pos ((purgeDue_iff p i m full s).mpr hdue), vacate_eq]

/-- R139, R140: left as it is. -/
theorem permitStep_left (hp : s.permit i = some p) (hover : ¬ (p.standing.liveOrHeld && decide (p.spanEnd ≤ m)) = true)
    (hgrace : ¬ LapseDue p m) (hkeep : ¬ PurgeDue p i m full s) : permitStep i m full s = s := by
  simp only [permitStep, hp, if_neg hover, if_neg ((lapseMinute_iff p m).not.mpr hgrace),
    if_neg ((purgeDue_iff p i m full s).not.mpr hkeep)]

end

end Sys2Proof.Machine

open Sys2Proof Sys2Proof.Machine Sys2Proof.Claims in
/-- Settles O47: the step's three tests in their order. -/
theorem sweepStepsOverPermits : Obligations.SweepStepsOverPermits := by
  intro i m full s h goes
  have hgoes : ∀ t, permitStep i m full s = t → goes t := fun t ht => ht ▸ exec_sweepPermitStep h
  refine ⟨fun hp => hgoes _ (permitStep_vacant hp), fun p hp => ⟨fun hlive hm => hgoes _ (permitStep_expired hp hlive hm),
    fun hm hdue => hgoes _ (permitStep_lapsed hp ?_ hdue), fun hdue => hgoes _ (permitStep_purged hp ?_ ?_ hdue),
    fun hin hgrace hkeep => hgoes _ (permitStep_left hp ?_ hgrace hkeep)⟩⟩
  · simp [not_le.mpr hm]
  · obtain ⟨-, ⟨how, t, hx, -⟩, -⟩ := hdue
    simp [hx, Standing.liveOrHeld]
  · obtain ⟨-, ⟨how, t, hx, -⟩, -⟩ := hdue
    simp [hx]
  · rw [liveOrHeld_eq, Bool.and_eq_true, Bool.not_eq_true', decide_eq_true_eq]
    exact fun ⟨hlive, hm⟩ => absurd (hin hlive) (not_lt.mpr hm)

namespace Sys2Proof.Machine

open Claims

/-! ### The firm walks -/

/-- R145: a walk starts from a request that is handed over. -/
theorem startWalk_eq {l : Link} {r : Request} {s : State} (h : (s.port l).inFlight = some ⟨r, .handed⟩) (kind : WalkKind)
    (firm : Nat) : startWalk l kind firm s =
      grantNext { s.setPort l { s.port l with inFlight := some ⟨r, .walking⟩ } with walk := some ⟨kind, firm, 0, 0⟩ } := by
  simp only [startWalk, h, Option.map_some]

theorem badFirm_inRange {firm : Nat} (h1 : 1 ≤ firm) (h2 : firm ≤ 999) : badFirm firm = false := by
  have hzero : firm ≠ 0 := by omega
  simp [badFirm, hzero, h2]

/-- R148: a walk's turn goes on from what it leaves of its slot. -/
theorem serveWalkStep_goes {k : WalkKind} {firm n : Nat} {i : SlotNo} {r : Request} {s t : State} {counted : Bool}
    (h : s.walk = some ⟨k, firm, i, n⟩) (hstep : walkAt ⟨k, firm, i, n⟩ s = (t, counted))
    (ht : (t.port .security).inFlight = some ⟨r, .walking⟩) :
    serveWalkStep s = walkGoes k firm i (n + if counted then 1 else 0) r t := by
  have hreply : ∀ c, completeWalk c t = answered .security r .done (.walked c 255) { t with walk := none } := fun c =>
    reply_unanswered .security .done _ { t with walk := none } r .walking ht (by decide)
  simp only [serveWalkStep, h, hstep, hreply, walkGoes]

theorem exec_suspendFirmStep {firm reason n : Nat} {i : SlotNo} {s : State} (h : Walking (.suspend reason) firm i n s) :
    exec .suspendFirmStep s = .next (endTurn (serveWalkStep s)) := by
  have hhas : walkHasTurn s = true := beq_iff_eq.mpr h.2
  show execSuspendFirmStep s = _
  simp only [execSuspendFirmStep, h.1, hhas, if_true]

theorem exec_resumeFirmStep {firm n : Nat} {i : SlotNo} {s : State} (h : Walking .resume firm i n s) :
    exec .resumeFirmStep s = .next (endTurn (serveWalkStep s)) := by
  have hhas : walkHasTurn s = true := beq_iff_eq.mpr h.2
  show execResumeFirmStep s = _
  simp only [execResumeFirmStep, h.1, hhas, if_true]

/-- R146, R147: a walk passes over a slot that holds no permit of the firm. -/
theorem walkAt_other {w : Walk} {s : State} (h : ∀ p, s.permit w.cursor = some p → p.firm ≠ w.firm) : walkAt w s = (s, false) := by
  unfold walkAt
  split
  · rfl
  · next p hp => rw [if_neg (h p hp)]

theorem walkAt_suspend {reason firm n : Nat} {i : SlotNo} {p : Permit} {s : State} (hp : s.permit i = some p) (hf : p.firm = firm) :
    walkAt ⟨.suspend reason, firm, i, n⟩ s = suspendStep reason i p s := by
  simp only [walkAt, hp, if_pos hf]

theorem walkAt_resume {firm n : Nat} {i : SlotNo} {p : Permit} {s : State} (hp : s.permit i = some p) (hf : p.firm = firm) :
    walkAt ⟨.resume, firm, i, n⟩ s = resumeStep i p s := by
  simp only [walkAt, hp, if_pos hf]

/-- R146: a permit that is not held but firm-held, or not held at all, is suspended and counted. -/
theorem suspendStep_counted {reason : Nat} {i : SlotNo} {p : Permit} {back : ReturnState} {s : State}
    (h : (p.standing = .pending ∧ back = .pending) ∨ (p.standing = .active ∧ back = .active) ∨
      (p.standing = .provisional ∧ back = .provisional) ∨ ∃ old, p.standing = .suspended back old true) :
    suspendStep reason i p s =
      (replaced i p.standing.state { p with standing := .suspended back reason true } .security s, true) := by
  have hfirm : firmSuspended p.standing reason = some (.suspended back reason true) := by
    rcases h with ⟨hx, rfl⟩ | ⟨hx, rfl⟩ | ⟨hx, rfl⟩ | ⟨old, hx⟩ <;> rw [hx] <;> rfl
  simp only [suspendStep, hfirm, retestHolds_restanding]

/-- R146: a permit held by SUSPEND PERMIT or terminal is passed over. -/
theorem suspendStep_passed {reason : Nat} {i : SlotNo} {p : Permit} {s : State}
    (h : (∃ back old, p.standing = .suspended back old false) ∨ Terminal p.standing = true) : suspendStep reason i p s = (s, false) := by
  have hfirm : firmSuspended p.standing reason = none := by
    rcases h with ⟨back, old, hx⟩ | hx
    · rw [hx]; rfl
    · cases hs : p.standing with
      | ended => rfl
      | pending | active | provisional | suspended => simp [hs, Terminal] at hx
  simp only [suspendStep, hfirm]

/-- R147: a firm-held permit is resumed and counted. -/
theorem resumeStep_counted {i : SlotNo} {p q : Permit} {back : ReturnState} {old : Nat} {s : State}
    (hx : p.standing = .suspended back old true) (hq : resumedPermit p (turnMinute s) = some q) :
    resumeStep i p s = (settleResumed i q s, true) := by
  simp only [resumeStep, hx, hq]

theorem resumeStep_passed {i : SlotNo} {p : Permit} {s : State} (h : ∀ back old, p.standing ≠ .suspended back old true) :
    resumeStep i p s = (s, false) := by
  unfold resumeStep
  split
  · next back old hx => exact absurd hx (h back old)
  · rfl

end Sys2Proof.Machine

open Sys2Proof Sys2Proof.Machine Sys2Proof.Claims in
/-- Settles O49: the walk's start, and each of its turns by the kind of walk and the permit in its slot. -/
theorem firmWalksStepThroughTheTable : Obligations.FirmWalksStepThroughTheTable := by
  refine ⟨fun l firm reason s h1 h2 => ⟨fun h hr => ?suspend, fun h => ?resume⟩, fun firm reason n i r s h hf => ?suspending,
    fun firm n i r s h hf => ?resuming⟩
  case suspend =>
    have hserve : serveRequest l (.suspendFirm firm reason) s = startWalk l (.suspend reason) firm s :=
      checked_passes l _ _ s (by simp [badFirm_inRange h1 h2, hr])
    rw [exec_atOnce rfl rfl h, hserve, startWalk_eq h.2]
  case resume =>
    have hserve : serveRequest l (.resumeFirm firm) s = startWalk l .resume firm s :=
      checked_passes l _ _ s (by simp [badFirm_inRange h1 h2])
    rw [exec_atOnce rfl rfl h, hserve, startWalk_eq h.2]
  case suspending =>
    intro goes
    have hpass : walkAt ⟨.suspend reason, firm, i, n⟩ s = (s, false) → goes 0 s := fun hstep => by
      show exec .suspendFirmStep s = _
      rw [exec_suspendFirmStep h, serveWalkStep_goes h.1 hstep hf]
      rfl
    refine ⟨fun hno => hpass (walkAt_other hno), fun p hp hfirm => ⟨fun back hback => ?_, fun hother => hpass ?_⟩⟩
    · have hstep := (walkAt_suspend (reason := reason) (n := n) hp hfirm).trans (suspendStep_counted hback)
      show exec .suspendFirmStep s = _
      rw [exec_suspendFirmStep h, serveWalkStep_goes h.1 hstep (by rw [replaced_inFlight]; exact hf)]
      rfl
    · exact (walkAt_suspend (reason := reason) (n := n) hp hfirm).trans (suspendStep_passed hother)
  case resuming =>
    intro goes
    have hpass : walkAt ⟨.resume, firm, i, n⟩ s = (s, false) → goes 0 s := fun hstep => by
      show exec .resumeFirmStep s = _
      rw [exec_resumeFirmStep h, serveWalkStep_goes h.1 hstep hf]
      rfl
    refine ⟨fun hno => hpass (walkAt_other hno), fun p hp hfirm => ?_⟩
    have hat := walkAt_resume (n := n) hp hfirm
    refine ⟨fun hother => hpass (hat.trans (resumeStep_passed hother)), fun back old hx => ?_⟩
    obtain ⟨hpending, hactive, hprovisional⟩ := resumedPermit_eq hx (turnMinute s)
    have hcount : ∀ q t, resumedPermit p (turnMinute s) = some q → settleResumed i q s = t →
        (t.port .security).inFlight = some ⟨r, .walking⟩ → goes 1 t := fun q t hq ht hflight => by
      show exec .resumeFirmStep s = _
      rw [exec_resumeFirmStep h, serveWalkStep_goes h.1 (hat.trans ((resumeStep_counted hx hq).trans (by rw [ht]))) hflight]
      rfl
    have hlive : ∀ y : Standing, y.state ≠ .lapsed → resumedPermit p (turnMinute s) = some { p with standing := y } →
        goes 1 (replaced i .suspended { p with standing := y } .security s) := fun y hy hq =>
      hcount _ _ hq (settleResumed_live hy) (by rw [replaced_inFlight]; exact hf)
    refine ⟨fun hb => hlive _ nofun (hpending hb), fun hb => hlive _ nofun (hactive hb),
      fun g hb hg hm => hlive _ nofun ((hprovisional g hb hg).1 hm),
      fun g hb hg hm => hcount _ _ ((hprovisional g hb hg).2 hm) (settleResumed_lapsed ..) ?_⟩
    rw [retestHolds_inFlight, post_inFlight, writeJournal_port]
    exact hf
end

section
/-! The law of R44 (O25): no Works Link request leaves an ACTIVE permit admitting more than it did. -/

namespace Sys2Proof.Machine

open Claims

/-! ### A permit that admits no more than another -/

/-- R44: `q`, if it is ACTIVE, admits no room at a minute at which `p` did not, and `p` was ACTIVE. -/
structure Within (p q : Permit) : Prop where
  active : q.standing = .active → p.standing = .active
  admits : q.standing = .active → ∀ (s t : State) (room : RoomNo) (n e m : Nat), evaluate t q room n .overstay = .passes e m →
    ∃ e' m', evaluate s p room n .overstay = .passes e' m'

/-- R65 to R69: an ACTIVE permit passes for the purpose OVERSTAY by its rooms, its span and its pattern, whatever the state. -/
theorem evaluate_overstay_active {p : Permit} (h : p.standing = .active) (s : State) (room : RoomNo) (n : Nat) :
    (∃ e m, evaluate s p room n .overstay = .passes e m) ↔
      room ∈ p.rooms ∧ p.spanStart ≤ n ∧ n < p.spanEnd ∧ p.pattern.map (·.slotEnd n) ≠ some none := by
  have hrefusal : p.standing.refusal = none := by rw [h]; rfl
  have hend : p.validityEnd = p.spanEnd := by simp only [Permit.validityEnd, h]
  simp only [evaluate, hrefusal, hend]
  by_cases hroom : room ∈ p.rooms
  · by_cases hstart : n < p.spanStart
    · simp [hroom, hstart]
    · by_cases hover : p.spanEnd ≤ n
      · simp [hroom, hstart, hover]
      · by_cases hslot : p.pattern.map (·.slotEnd n) = some none
        · simp [hroom, hstart, hover, hslot]
        · simp [hroom, hstart, hover, hslot, not_lt.mp hstart, not_le.mp hover]
  · simp [hroom]

theorem Within.refl (p : Permit) : Within p p where
  active := id
  admits h s t room n e m hpass := (evaluate_overstay_active h s room n).mpr
    ((evaluate_overstay_active h t room n).mp ⟨e, m, hpass⟩)

theorem within_of_inactive {p q : Permit} (h : q.standing ≠ .active) : Within p q :=
  ⟨fun hq => absurd hq h, fun hq => absurd hq h⟩

/-- R43, R44: new content that only takes away. -/
theorem within_of_narrows {p q : Permit} (hx : q.standing = p.standing) (h : Narrows p q) : Within p q := by
  obtain ⟨hrooms, hstart, hend, hpattern, -, -⟩ := h
  refine ⟨fun hq => hx ▸ hq, fun hq s t room n e m hpass => ?_⟩
  obtain ⟨hroom, hn, hm, hslot⟩ := (evaluate_overstay_active hq t room n).mp ⟨e, m, hpass⟩
  exact (evaluate_overstay_active (hx ▸ hq) s room n).mpr
    ⟨hrooms room hroom, hstart.trans hn, lt_of_lt_of_le hm hend, hpattern ▸ hslot⟩

/-- R44: an amend narrows an ACTIVE permit, or takes its state. -/
theorem amendedPermit_within (b : AmendBody) (p : Permit) : Within p (amendedPermit p (amendContent b)) := by
  unfold amendedPermit
  dsimp only
  rw [replaceContent_eq]
  split
  · next hn => exact within_of_narrows rfl ((narrows_iff b p).mp hn)
  · split
    · next hx => exact within_of_inactive (by rw [rewritten, hx]; nofun)
    · next hx => exact within_of_inactive (by rw [rewritten, hx]; nofun)
    · next hx => exact within_of_inactive (by rw [rewritten, hx]; nofun)
    · exact within_of_inactive nofun
    · exact within_of_inactive nofun
    · exact within_of_inactive nofun

/-! ### A table that admits no more than another -/

/-- R44: every slot that holds an ACTIVE permit held one that admitted as much. -/
def TableWithin (s t : State) : Prop :=
  ∀ i q, t.permit i = some q → q.standing = .active → ∃ p, s.permit i = some p ∧ Within p q

theorem tableWithin_of_permits {s t : State} (h : t.permits = s.permits) : TableWithin s t :=
  fun i q hq _ => ⟨q, by rwa [permit_of_permits h] at hq, .refl q⟩

theorem TableWithin.then_permits {s t u : State} (h : TableWithin s t) (hu : u.permits = t.permits) : TableWithin s u :=
  fun i q hq hx => h i q (by rwa [permit_of_permits hu] at hq) hx

theorem TableWithin.of_permits {s t u : State} (ht : t.permits = s.permits) (h : TableWithin t u) : TableWithin s u :=
  fun i q hq hx => have ⟨p, hp, hw⟩ := h i q hq hx; ⟨p, by rwa [permit_of_permits ht] at hp, hw⟩

/-- R32: one slot replaced by a permit that is not ACTIVE, by none, or by one within the permit it held. -/
theorem setPermit_within {s : State} {i : SlotNo} {x : Option Permit}
    (h : ∀ q, x = some q → q.standing = .active → ∃ p, s.permit i = some p ∧ Within p q) : TableWithin s (s.setPermit i x) := by
  intro j q hq hx
  by_cases e : i = j
  · subst e
    exact h q (by simpa using hq) hx
  · exact ⟨q, by simpa [e] using hq, .refl q⟩

/-- R35, R91: whatever follows a change of one slot leaves the table. -/
theorem changed_within {s t : State} {i : SlotNo} {x : Option Permit} {badge : Nat}
    (h : ∀ q, x = some q → q.standing = .active → ∃ p, s.permit i = some p ∧ Within p q) (ht : Ebbs (s.setPermit i x) t) :
    TableWithin s (retestHolds i badge t) :=
  (setPermit_within h).then_permits ((retestHolds_kept ..).permits.trans ht.permits)

theorem TableWithin.then_reply {s t : State} (h : TableWithin s t) {l : Link} {st : Status} {c : ReplyContent} :
    TableWithin s (reply l st c t) := h.then_permits (reply_kept ..).permits

theorem reply_within {l : Link} {st : Status} {c : ReplyContent} {s : State} : TableWithin s (reply l st c s) :=
  tableWithin_of_permits (reply_kept ..).permits

theorem checked_within {l : Link} {checks : List (Bool × Status)} {f : State → State} {s : State}
    (hf : firstFailing checks = none → TableWithin s (f s)) : TableWithin s (checked l checks f s) := by
  unfold checked
  split
  · exact reply_within
  · next h => exact hf h

theorem lookup_within {l : Link} {n : Nat} {found : SlotNo → Permit → State → State} {s : State}
    (hf : ∀ i p, s.permit i = some p → TableWithin s (found i p s)) : TableWithin s (lookup l n found s) := by
  unfold lookup
  split
  · exact reply_within
  · split
    · exact reply_within
    · next hp => exact hf _ _ hp

/-! ### The Works Link's requests on permits -/

theorem acceptDraft_within {l : Link} {b : DraftBody} {s : State} (h : firstFailing (draftChecks b s) = none) :
    TableWithin s (acceptDraft l b s) := by
  obtain ⟨⟨i, hi, -⟩, -, -⟩ := draft_accepted h
  have hinactive : (draftedPermit b s).standing ≠ .active := by
    unfold draftedPermit
    dsimp only
    split <;> nofun
  have hchange : Ebbs (s.setPermit i (some (draftedPermit b s))) (changePermit i .vacant (draftedPermit b s) .works s) :=
    (Ebbs.refl _).then_writeJournal
  unfold acceptDraft
  simp only [hi]
  refine (changed_within (x := some (draftedPermit b s)) (fun q hq hx => ?_) ?_).then_reply
  · obtain rfl := Option.some.inj hq
    exact absurd hx hinactive
  · split
    · exact hchange.then_post
    · exact hchange

theorem acceptAmend_within {l : Link} {b : AmendBody} {i : SlotNo} {p : Permit} {s : State} (hp : s.permit i = some p) :
    TableWithin s (acceptAmend l b i p s) := by
  have hchange : Ebbs (s.setPermit i (some (amendedPermit p (amendContent b))))
      (changePermit i p.standing.state (amendedPermit p (amendContent b)) .works s) := (Ebbs.refl _).then_writeJournal
  refine (changed_within (fun q hq _ => ⟨p, hp, ?_⟩) hchange).then_reply
  obtain rfl := Option.some.inj hq
  exact amendedPermit_within b p

theorem finishFound_within {l : Link} {how : Ending} {source : Source} {i : SlotNo} {p : Permit} {s : State} :
    TableWithin s (finishFound l how source i p s) := by
  have hchange : Ebbs (s.setPermit i (some (p.finished how (turnMinute s))))
      (changePermit i p.standing.state (p.finished how (turnMinute s)) source s) := (Ebbs.refl _).then_writeJournal
  unfold finishFound
  split
  · refine (changed_within (fun q hq hx => ?_) hchange).then_reply
    obtain rfl := Option.some.inj hq
    cases hx
  · exact reply_within

theorem purgeFound_within {l : Link} {i : SlotNo} {p : Permit} {s : State} : TableWithin s (purgeFound l i p s) := by
  have hchange : Ebbs (s.setPermit i none) (vacate i p .works s) := (Ebbs.refl _).then_writeJournal
  unfold purgeFound
  split
  · exact reply_within
  · split
    · exact reply_within
    · exact (changed_within (fun q hq => by cases hq) hchange).then_reply

/-- R36, R44: what the Works Link may ask for widens no ACTIVE permit. -/
theorem serveRequest_within {r : Request} (hr : r.allowedOn .works = true) (s : State) :
    TableWithin s (serveRequest .works r s) := by
  cases hc : changesBooks r with
  | false => exact tableWithin_of_permits (serveRequest_ebbs .works hc s).permits
  | true =>
    cases r with
    | draftPermit => exact checked_within acceptDraft_within
    | amendPermit => exact checked_within fun _ => lookup_within fun _ _ hp => checked_within fun _ => acceptAmend_within hp
    | closePermit => exact lookup_within fun _ _ _ => finishFound_within
    | purgePermit => exact lookup_within fun _ _ _ => purgeFound_within
    | writeRoom | countersign | suspendPermit | resumePermit | revokePermit => cases hr
    | _ => cases hc

theorem present_permits (l : Link) (r : Request) (s : State) : (present l r s).permits = s.permits := by
  unfold present takeRequest
  split
  · rfl
  · split
    · exact (refuse_kept ..).permits
    · split
      · exact (refuse_kept ..).permits
      · unfold hand
        dsimp only
        split
        · exact (grantNext_kept _).permits
        · rfl

end Sys2Proof.Machine

open Sys2Proof Sys2Proof.Machine Sys2Proof.Claims in
/-- Settles O25: the request in hand is one that the Works Link may ask for, and only four of those change a slot. -/
theorem noWorksRequestWidensAnActivePermit : Obligations.NoWorksRequestWidensAnActivePermit := by
  intro c r s t hc howned hexec i q hq hactive
  have hpresent := present_permits .works r s
  have hallowed : inHand .works r (present .works r s) = true → r.allowedOn .works = true := fun hh =>
    (present_keepsBooks .works r s).owned howned .works ⟨r, .handed⟩ ((inHand_iff ..).mp hh)
  have hwithin : TableWithin s (requestRow .works r s) := by
    rcases requestRow_cases .works r s with h | h | ⟨hh, h | h⟩ <;> rw [h]
    · exact tableWithin_of_permits rfl
    · exact tableWithin_of_permits hpresent
    · exact .of_permits hpresent (serveRequest_within (hallowed hh) _)
    · exact (TableWithin.of_permits hpresent (serveRequest_within (hallowed hh) _)).then_permits (endTurn_kept _).permits
  rw [exec_requestRow c .works r hc] at hexec
  obtain rfl := Host.Outcome.next.inj hexec
  obtain ⟨p, hp, hw⟩ := hwithin i q hq hactive
  exact ⟨p, hp, hw.active hactive, fun room n e m => hw.admits hactive s _ room n e m⟩
end

section
/-! What a decision, a sweep step and a walk step do, they do whatever a port's framing is (O56). -/

namespace Sys2Proof.Machine

section
variable (l : Link) (x : Port)

/-! ### Decisions -/

@[simp] theorem deny_reframe (a : LoopAddr) (room : Option RoomNo) (badge : Nat) (why : Reason) (permit : Option Nat) (s : State) :
    deny a room badge why permit (reframe l x s) = reframe l x (deny a room badge why permit s) := by
  simp only [deny, queueDecision_reframe, writeJournal_reframe, report_reframe]

@[simp] theorem journalEntry_reframe (kind : JournalKind) (a : LoopAddr) (r : RoomNo) (badge : Nat) (slot : SlotNo) (v : Nat)
    (s : State) : journalEntry kind a r badge slot v (reframe l x s) = reframe l x (journalEntry kind a r badge slot v s) :=
  writeJournal_reframe l x _ s

@[simp] theorem queueRelease_reframe (a : LoopAddr) (minutes : Nat) (carries : List PoolIx) (s : State) :
    queueRelease a minutes carries (reframe l x s) = reframe l x (queueRelease a minutes carries s) :=
  queueDecision_reframe l x true a _ s

/-- R78: the permit chosen is read off the permits, the rooms and the freezes. -/
theorem choose_reframe (s : State) (r : RoomNo) (n : Nat) (cs : List (SlotNo × Permit)) (best : Option Chosen) :
    choose (reframe l x s) r n cs best = choose s r n cs best := by
  have heval : ∀ p, evaluate (reframe l x s) p r n .entry = evaluate s p r n .entry := fun _ => rfl
  induction cs generalizing best with
  | nil => rfl
  | cons c cs ih => simp only [choose, heval, ih]

/-- R79: so is the furthest candidate. -/
theorem furthest_reframe (s : State) (r : RoomNo) (n : Nat) (cs : List (SlotNo × Permit)) (best : Option (Reason × Nat × Nat)) :
    furthest (reframe l x s) r n cs best = furthest s r n cs best := by
  have heval : ∀ p, evaluate (reframe l x s) p r n .entry = evaluate s p r n .entry := fun _ => rfl
  induction cs generalizing best with
  | nil => rfl
  | cons c cs ih => simp only [furthest, heval, ih]

theorem withPermit_reframe {go : Chosen → State → State} (hgo : ∀ c s, go c (reframe l x s) = reframe l x (go c s)) (a : LoopAddr)
    (r : RoomNo) (badge : Nat) (s : State) : withPermit a r badge go (reframe l x s) = reframe l x (withPermit a r badge go s) := by
  have hcandidates : candidates (reframe l x s) badge = candidates s badge := rfl
  have hminute : turnMinute (reframe l x s) = turnMinute s := rfl
  unfold withPermit
  simp only [hcandidates, hminute, choose_reframe, furthest_reframe, hgo, deny_reframe]
  split
  · rfl
  · split <;> rfl

@[simp] theorem repeatArriving_reframe (a : LoopAddr) (r : RoomNo) (c : Chosen) (s : State) :
    repeatArriving a r c (reframe l x s) = reframe l x (repeatArriving a r c s) := by
  have hseconds : secondsRemaining (reframe l x s) r = secondsRemaining s r := rfl
  have hused : ∀ k, { reframe l x s with freeUsed := k } = reframe l x { s with freeUsed := k } := fun _ => rfl
  unfold repeatArriving
  simp only [reframe_door, reframe_freeUsed, hseconds, hused, queueDecision_reframe]
  split <;> rfl

@[simp] theorem reEnter_reframe (a : LoopAddr) (r : RoomNo) (badge : Nat) (c : Chosen) (i : PoolIx) (p : Presence) (s : State) :
    reEnter a r badge c i p (reframe l x s) = reframe l x (reEnter a r badge c i p s) := by
  simp only [reEnter, uncarry_reframe, setPresence_reframe, queueRelease_reframe, journalEntry_reframe, report_reframe,
    reexamine_reframe]

@[simp] theorem yieldPresence_reframe (i : PoolIx) (p : Presence) (s : State) :
    yieldPresence i p (reframe l x s) = reframe l x (yieldPresence i p s) := by
  have hbadge : supervisorBadge (reframe l x s) i = supervisorBadge s i := rfl
  have hnumber : permitNumber (reframe l x s) p.slot = permitNumber s p.slot := rfl
  simp only [yieldPresence, hbadge, hnumber, removePresence_reframe, writeJournal_reframe, reexamine_reframe]

theorem passback_reframe {here : PoolIx → Presence → State → State} {go : State → State}
    (hhere : ∀ i p s, here i p (reframe l x s) = reframe l x (here i p s)) (hgo : ∀ s, go (reframe l x s) = reframe l x (go s))
    (a : LoopAddr) (r : RoomNo) (badge : Nat) (s : State) :
    passback a r badge here go (reframe l x s) = reframe l x (passback a r badge here go s) := by
  have hfind : findBadge (reframe l x s) badge = findBadge s badge := rfl
  have helse : holdsElsewhere (reframe l x s) r badge = holdsElsewhere s r badge := rfl
  unfold passback
  simp only [hfind, helse, reframe_presence, yieldPresence_reframe, hgo, hhere, deny_reframe]
  cases findBadge s badge with
  | none => exact (apply_ite (reframe l x) (holdsElsewhere s r badge = true) _ _).symm
  | some i =>
    dsimp only
    cases s.presence i with
    | none => rfl
    | some p =>
      dsimp only
      split_ifs <;> rfl

@[simp] theorem grantAlone_reframe (a : LoopAddr) (r : RoomNo) (badge : Nat) (c : Chosen) (s : State) :
    grantAlone a r badge c (reframe l x s) = reframe l x (grantAlone a r badge c s) := by
  have harrival : arrival r badge c.slot (reframe l x s) = arrival r badge c.slot s := rfl
  simp only [grantAlone, harrival, addPresence_reframe, queueRelease_reframe, journalEntry_reframe, report_reframe, reexamine_reframe]

@[simp] theorem openHold_reframe (a : LoopAddr) (r : RoomNo) (badge : Nat) (c : Chosen) (needs : Needs) (s : State) :
    openHold a r badge c needs (reframe l x s) = reframe l x (openHold a r badge c needs s) := by
  have hreading : turnReading (reframe l x s) = turnReading s := rfl
  simp only [openHold, hreading, reframe_timings, setHold_reframe, queueDecision_reframe, journalEntry_reframe]

@[simp] theorem admitOrHold_reframe (a : LoopAddr) (r : RoomNo) (badge : Nat) (c : Chosen) (s : State) :
    admitOrHold a r badge c (reframe l x s) = reframe l x (admitOrHold a r badge c s) := by
  have hneed : needOf (reframe l x s) r c = needOf s r c := rfl
  have hfull : ∀ n, fullness (reframe l x s) r n = fullness s r n := fun _ => rfl
  unfold admitOrHold
  simp only [hneed, hfull, deny_reframe, grantAlone_reframe, openHold_reframe]
  split
  · split <;> rfl
  · split <;> rfl

@[simp] theorem decideOpen_reframe (a : LoopAddr) (r : RoomNo) (badge : Nat) (s : State) :
    decideOpen a r badge (reframe l x s) = reframe l x (decideOpen a r badge s) :=
  withPermit_reframe l x (fun c t => passback_reframe l x
    (fun i p u => by simp only [repeatArriving_reframe, reEnter_reframe, apply_ite (reframe l x)])
    (admitOrHold_reframe l x a r badge c) a r badge t) a r badge s

@[simp] theorem admitPair_reframe (a : LoopAddr) (r : RoomNo) (h : Hold) (badge : Nat) (c : Chosen) (s : State) :
    admitPair a r h badge c (reframe l x s) = reframe l x (admitPair a r h badge c s) := by
  have harrival : ∀ b k, arrival r b k (reframe l x s) = arrival r b k s := fun _ _ => rfl
  simp only [admitPair, harrival, setHold_reframe, addPresence_reframe, queueRelease_reframe, journalEntry_reframe, report_reframe,
    reexamine_reframe]

@[simp] theorem testPair_reframe (a : LoopAddr) (r : RoomNo) (h : Hold) (badge : Nat) (c : Chosen) (s : State) :
    testPair a r h badge c (reframe l x s) = reframe l x (testPair a r h badge c s) := by
  have hfull : fullness (reframe l x s) r 2 = fullness s r 2 := rfl
  unfold testPair
  simp only [hfull, deny_reframe, admitPair_reframe]
  split
  · rfl
  · split <;> rfl

@[simp] theorem decidePartner_reframe (a : LoopAddr) (r : RoomNo) (h : Hold) (badge : Nat) (s : State) :
    decidePartner a r h badge (reframe l x s) = reframe l x (decidePartner a r h badge s) := by
  have hin : presenceIn (reframe l x s) r badge = presenceIn s r badge := rfl
  unfold decidePartner
  rw [hin]
  split
  · exact queueDecision_reframe ..
  · split
    · exact withPermit_reframe l x (fun c t => repeatArriving_reframe l x a r c t) a r badge s
    · exact deny_reframe ..
    · exact withPermit_reframe l x (fun c t => passback_reframe l x (fun i p u => deny_reframe ..)
        (testPair_reframe l x a r h badge c) a r badge t) a r badge s

@[simp] theorem decideEntry_reframe (a : LoopAddr) (badge : Nat) (s : State) :
    decideEntry a badge (reframe l x s) = reframe l x (decideEntry a badge s) := by
  have hmap : mapOutcome (reframe l x s) a = mapOutcome s a := rfl
  unfold decideEntry
  simp only [hmap, reframe_clockUnset, reframe_evacuating, reframe_hold, deny_reframe, decidePartner_reframe, decideOpen_reframe]
  split
  · rfl
  · rfl
  · rfl
  · split
    · rfl
    · split
      · rfl
      · split <;> rfl

@[simp] theorem unmatched_reframe (a : LoopAddr) (room : Option RoomNo) (badge : Nat) (why : Option Reason) (s : State) :
    unmatched a room badge why (reframe l x s) = reframe l x (unmatched a room badge why s) := by
  simp only [unmatched, writeJournal_reframe, post_reframe]

@[simp] theorem leave_reframe (a : LoopAddr) (r : RoomNo) (i : PoolIx) (s : State) :
    leave a r i (reframe l x s) = reframe l x (leave a r i s) := by
  simp only [leave, uncarry_reframe, setPresenceState_reframe, queueRelease_reframe, reexamine_reframe]

@[simp] theorem mismatch_reframe (a : LoopAddr) (r : RoomNo) (i : PoolIx) (p : Presence) (s : State) :
    mismatch a r i p (reframe l x s) = reframe l x (mismatch a r i p s) := by
  have hbadge : supervisorBadge (reframe l x s) i = supervisorBadge s i := rfl
  simp only [mismatch, hbadge, removePresence_reframe, queueRelease_reframe, writeJournal_reframe, post_reframe, reexamine_reframe]

@[simp] theorem decideExit_reframe (a : LoopAddr) (badge : Nat) (s : State) :
    decideExit a badge (reframe l x s) = reframe l x (decideExit a badge s) := by
  have hmap : mapOutcome (reframe l x s) a = mapOutcome s a := rfl
  have hfind : findBadge (reframe l x s) badge = findBadge s badge := rfl
  unfold decideExit
  simp only [hmap, hfind, reframe_presence, queueRelease_reframe, unmatched_reframe, leave_reframe, mismatch_reframe]
  split
  · rfl
  · rfl
  · rfl
  · split
    · rfl
    · split
      · rfl
      · exact (apply_ite (reframe l x) _ _ _).symm

@[simp] theorem serveDecision_reframe (rd : Read) (clearAfter : Bool) (s : State) :
    serveDecision rd clearAfter (reframe l x s) = reframe l x (serveDecision rd clearAfter s) := by
  have hend : ∀ t, endRead rd.address clearAfter (reframe l x t) = reframe l x (endRead rd.address clearAfter t) := fun t => by
    have hmap : mapOutcome (reframe l x t) rd.address = mapOutcome t rd.address := rfl
    simp only [endRead, hmap, reframe_station, setStation_reframe, apply_ite (reframe l x)]
  simp only [serveDecision, decideEntry_reframe, decideExit_reframe, ← hend, apply_ite (reframe l x)]

/-! ### Permits changed -/

@[simp] theorem changePermit_reframe (i : SlotNo) (old : PermitState) (p : Permit) (source : Source) (s : State) :
    changePermit i old p source (reframe l x s) = reframe l x (changePermit i old p source s) :=
  writeJournal_reframe l x _ (s.setPermit i (some p))

@[simp] theorem vacate_reframe (i : SlotNo) (p : Permit) (source : Source) (s : State) :
    vacate i p source (reframe l x s) = reframe l x (vacate i p source s) :=
  writeJournal_reframe l x _ (s.setPermit i none)

@[simp] theorem postLapsed_reframe (p : Permit) (s : State) : postLapsed p (reframe l x s) = reframe l x (postLapsed p s) :=
  post_reframe l x _ s

@[simp] theorem settleResumed_reframe (i : SlotNo) (q : Permit) (s : State) :
    settleResumed i q (reframe l x s) = reframe l x (settleResumed i q s) := by
  simp only [settleResumed, changePermit_reframe, postLapsed_reframe, ← retestHolds_reframe, apply_ite (reframe l x)]

/-! ### The sweep and the walks -/

@[simp] theorem permitStep_reframe (i : SlotNo) (m : Nat) (full : Bool) (s : State) :
    permitStep i m full (reframe l x s) = reframe l x (permitStep i m full s) := by
  have href : slotReferred (reframe l x s) i = slotReferred s i := rfl
  unfold permitStep
  simp only [reframe_permit, href, sweepEnds, changePermit_reframe, postLapsed_reframe, vacate_reframe, retestHolds_reframe]
  split
  · rfl
  · split_ifs <;> rfl

@[simp] theorem overstayStep_reframe (i : PoolIx) (p : Presence) (m : Nat) (s : State) :
    overstayStep i p m (reframe l x s) = reframe l x (overstayStep i p m s) := by
  have hverdict : overstayVerdict (reframe l x s) p m = overstayVerdict s p m := rfl
  have hnumber : ∀ t k, permitNumber (reframe l x t) k = permitNumber t k := fun _ _ => rfl
  have hmark : ∀ why, markOverstay i p why (reframe l x s) = reframe l x (markOverstay i p why s) := fun why => by
    simp only [markOverstay, setPresence_reframe, hnumber, post_reframe, writeJournal_reframe, report_reframe]
  unfold overstayStep
  simp only [hverdict, hmark, setPresence_reframe]
  split
  · rfl
  · rfl
  · split <;> rfl
  · split <;> rfl

@[simp] theorem loneStep_reframe (i : PoolIx) (p : Presence) (m : Nat) (s : State) :
    loneStep i p m (reframe l x s) = reframe l x (loneStep i p m s) := by
  unfold loneStep
  simp only [reframe_roomState, reframe_timings, post_reframe, writeJournal_reframe, setRoomState_reframe]
  split
  · rfl
  · exact (apply_ite (reframe l x) _ _ _).symm

@[simp] theorem presenceStep_reframe (i : PoolIx) (m : Nat) (s : State) :
    presenceStep i m (reframe l x s) = reframe l x (presenceStep i m s) := by
  unfold presenceStep
  simp only [reframe_presence, overstayStep_reframe, loneStep_reframe]
  split <;> rfl

@[simp] theorem completeSweep_reframe (full : Bool) (s : State) :
    completeSweep full (reframe l x s) = reframe l x (completeSweep full s) := by
  have hidle : ∀ t, completeSweep false (reframe l x t) = reframe l x (completeSweep false t) := fun t => by
    show (if t.sweep.pending then _ else _) = reframe l x (if t.sweep.pending then _ else _)
    split <;> rfl
  cases full with
  | false => exact hidle s
  | true => exact (congrArg (completeSweep false) (post_reframe l x _ s)).trans (hidle (postReview s))

@[simp] theorem advanceSweep_reframe (run : SweepRun) (s : State) :
    advanceSweep run (reframe l x s) = reframe l x (advanceSweep run s) := by
  unfold advanceSweep
  rw [completeSweep_reframe]
  split
  · rfl
  · split <;> rfl

@[simp] theorem serveSweepStep_reframe (s : State) : serveSweepStep (reframe l x s) = reframe l x (serveSweepStep s) := by
  unfold serveSweepStep
  simp only [reframe_sweep, permitStep_reframe, presenceStep_reframe]
  split
  · rfl
  · rw [← advanceSweep_reframe]
    split <;> rfl

theorem walkAt_reframe (w : Walk) (s : State) : walkAt w (reframe l x s) = (reframe l x (walkAt w s).1, (walkAt w s).2) := by
  have hminute : turnMinute (reframe l x s) = turnMinute s := rfl
  have hsuspend : ∀ reason i p, suspendStep reason i p (reframe l x s) =
      (reframe l x (suspendStep reason i p s).1, (suspendStep reason i p s).2) := fun reason i p => by
    unfold suspendStep
    simp only [changePermit_reframe, retestHolds_reframe]
    cases firmSuspended p.standing reason <;> dsimp only
  have hresume : ∀ i p, resumeStep i p (reframe l x s) = (reframe l x (resumeStep i p s).1, (resumeStep i p s).2) := fun i p => by
    unfold resumeStep
    simp only [hminute, settleResumed_reframe]
    split
    · cases resumedPermit p (turnMinute s) <;> dsimp only
    · rfl
  unfold walkAt
  simp only [reframe_permit, hsuspend, hresume]
  split
  · rfl
  · split
    · split <;> rfl
    · rfl

@[simp] theorem drainHeld_reframe (k : Nat) (s : State) : drainHeld k (reframe l x s) = reframe l x (drainHeld k s) := by
  induction k generalizing s with
  | zero => rfl
  | succ k ih =>
    have hnext : ∀ e es, applyEffect e { reframe l x s with heldEffects := es } =
        reframe l x (applyEffect e { s with heldEffects := es }) := fun e es => applyEffect_reframe l x e { s with heldEffects := es }
    simp only [drainHeld, reframe_heldEffects, hnext, ih]
    split <;> rfl

end

end Sys2Proof.Machine
end

section
/-! What a request served on one link does, it does whatever the other link's framing is, where that asks for no turn (O56). -/

namespace Sys2Proof.Machine

open Claims

/-- R36, R52: a port's framing asks for no turn. -/
def Unasking (p : Port) : Prop := ∀ r, p.inFlight = some ⟨r, .handed⟩ → needsTurn r = false

section
variable {l m : Link} {x : Port}

/-! ### The arbiter -/

theorem linkWaits_reframe {s : State} (hx : Unasking x) (hs : Unasking (s.port l)) (k : Link) :
    linkWaits (reframe l x s) k = linkWaits s k := by
  rw [Bool.eq_iff_iff, linkWaits_iff, linkWaits_iff]
  by_cases e : l = k
  · subst e
    have hidle : ∀ p : Port, Unasking p → ¬ ∃ r, p.inFlight = some ⟨r, .handed⟩ ∧ needsTurn r = true :=
      fun p hp ⟨r, hf, hr⟩ => by simp [hp r hf] at hr
    have hframed : ¬ ∃ r, ((reframe l x s).port l).inFlight = some ⟨r, .handed⟩ ∧ needsTurn r = true := by
      rw [reframe_port_same]
      exact hidle x hx
    exact or_congr (iff_of_false hframed (hidle _ hs)) Iff.rfl
  · rw [Waits, reframe_port_other e]
    rfl

theorem grantNext_reframe {s : State} (hx : Unasking x) (hs : Unasking (s.port l)) :
    grantNext (reframe l x s) = reframe l x (grantNext s) := by
  have hnext : nextLink (reframe l x s) = nextLink s := by
    simp only [nextLink, linkWaits_reframe hx hs]
    rfl
  unfold grantNext
  rw [reframe_turn, reframe_heldEffects, reframe_supply, reframe_readQueue, reframe_sweep, hnext]
  split
  · rfl
  · split
    · rfl
    · split
      · rfl
      · split <;> rfl

theorem Unasking.of_hom {f : State → State} {s : State} (hs : Unasking (s.port l))
    (hf : ∀ y t, f (reframe l y t) = reframe l y (f t)) : Unasking ((f s).port l) := fun r hr =>
  hs r ((inFlight_of_hom hf s).symm.trans hr)

/-! ### The clock -/

theorem countOccupancyMinutes_reframe (x : Port) (s : State) :
    countOccupancyMinutes (reframe l x s) = reframe l x (countOccupancyMinutes s) := by
  have hcount : ∀ t filter, presencesSelected (reframe l x t) filter = presencesSelected t filter := fun _ _ => rfl
  refine foldl_reframe l x (fun s c => ?_) _ s
  simp only [reframe_counters, hcount, addToCounter_reframe, apply_ite (reframe l x)]

theorem sweepEvent_reframe {s : State} (hx : Unasking x) (hs : Unasking (s.port l)) (full : Bool) :
    sweepEvent full (reframe l x s) = reframe l x (sweepEvent full s) := by
  unfold sweepEvent
  rw [reframe_sweep]
  rcases s.sweep with ⟨_ | run, pending, pendingFull, overruns⟩
  · exact grantNext_reframe (s := { s with sweep := ⟨some ⟨.permits 0, nowMinute s, full⟩, pending, pendingFull, overruns⟩ }) hx hs
  · cases pending with
    | false => rfl
    | true => exact post_reframe l x _ { s with sweep := ⟨some run, true, pendingFull || full, countUp16 overruns⟩ }

/-- R4: a free value used for the order of the two deliveries (log entry 2). -/
def freeSpent (s : State) : State := { s with freeUsed := s.freeUsed + 1 }

theorem deliverEvent_eq (full : Bool) (s : State) : deliverEvent full s =
    if s.sweep.run.isSome && s.sweep.pending && worksCounterOverflows s then
      if Config.countersFirst s.freeUsed then sweepEvent full (countOccupancyMinutes (freeSpent s))
      else countOccupancyMinutes (sweepEvent full (freeSpent s))
    else countOccupancyMinutes (sweepEvent full s) := rfl

theorem raiseEvent_reframe {s : State} (hx : Unasking x) (hs : Unasking (s.port l)) :
    raiseEvent (reframe l x s) = reframe l x (raiseEvent s) := by
  have hcounted : ∀ t : State, Unasking (t.port l) → Unasking ((countOccupancyMinutes t).port l) := fun t ht =>
    ht.of_hom countOccupancyMinutes_reframe
  have hsweepFirst : ∀ t full, Unasking (t.port l) →
      countOccupancyMinutes (sweepEvent full (reframe l x t)) = reframe l x (countOccupancyMinutes (sweepEvent full t)) :=
    fun t full ht => by rw [sweepEvent_reframe hx ht, countOccupancyMinutes_reframe]
  have hcountersFirst : ∀ t full, Unasking (t.port l) →
      sweepEvent full (countOccupancyMinutes (reframe l x t)) = reframe l x (sweepEvent full (countOccupancyMinutes t)) :=
    fun t full ht => by rw [countOccupancyMinutes_reframe, sweepEvent_reframe hx (hcounted t ht)]
  have hover : worksCounterOverflows (reframe l x s) = worksCounterOverflows s := rfl
  have hspent : freeSpent (reframe l x s) = reframe l x (freeSpent s) := rfl
  have hs' : Unasking ((freeSpent s).port l) := hs
  have hdeliver : ∀ full, deliverEvent full (reframe l x s) = reframe l x (deliverEvent full s) := fun full => by
    simp only [deliverEvent_eq, reframe_sweep, hover, reframe_freeUsed, hspent, hcountersFirst _ full hs', hsweepFirst _ full hs',
      hsweepFirst s full hs, apply_ite (reframe l x)]
  unfold raiseEvent
  simp only [reframe_supply, reframe_mark, reframe_clock, hdeliver]
  split <;> rfl

/-! ### Replies and checks -/

theorem setPort_reframe (hm : l ≠ m) (x p : Port) (s : State) : (reframe l x s).setPort m p = reframe l x (s.setPort m p) := by
  cases l <;> cases m <;> first | exact absurd rfl hm | rfl

theorem reply_reframe (hm : l ≠ m) (x : Port) (st : Status) (c : ReplyContent) (s : State) :
    reply m st c (reframe l x s) = reframe l x (reply m st c s) := by
  unfold reply
  simp only [reframe_port_other hm, setPort_reframe hm]
  split <;> rfl

/-- R176: a reply on a link whose request has been answered, or that has none, is no reply. -/
theorem reply_idle {st : Status} {c : ReplyContent} {s : State} (h : ∀ r g, (s.port l).inFlight = some ⟨r, g⟩ → g = .answered) :
    reply l st c s = s := by
  unfold reply
  dsimp only
  split
  · rfl
  · rfl
  · next r g hno hf => exact absurd (h r g hf) hno

theorem checked_reframe (hm : l ≠ m) {f : State → State} {s : State} (hf : f (reframe l x s) = reframe l x (f s))
    (checks : List (Bool × Status)) : checked m checks f (reframe l x s) = reframe l x (checked m checks f s) := by
  unfold checked
  split
  · exact reply_reframe hm ..
  · exact hf

theorem lookup_reframe (hm : l ≠ m) {found : SlotNo → Permit → State → State} {s : State}
    (hf : ∀ i p, found i p (reframe l x s) = reframe l x (found i p s)) (n : Nat) :
    lookup m n found (reframe l x s) = reframe l x (lookup m n found s) := by
  have hfind : findPermit (reframe l x s) n = findPermit s n := rfl
  unfold lookup
  simp only [hfind, reframe_permit, reply_reframe hm, hf]
  split
  · rfl
  · split <;> rfl

theorem startWalk_reframe (hm : l ≠ m) {s : State} (hx : Unasking x) (hs : Unasking (s.port l)) (kind : WalkKind) (firm : Nat) :
    startWalk m kind firm (reframe l x s) = reframe l x (startWalk m kind firm s) := by
  unfold startWalk
  simp only [reframe_port_other hm, setPort_reframe hm]
  refine grantNext_reframe (s := { s.setPort m _ with walk := _ }) hx ?_
  show Unasking ((s.setPort m _).port l)
  rwa [State.setPort_port_other _ _ _ hm.symm]

/-! ### Requests -/

theorem journalConfig_reframe (x : Port) (st : Status) (room : Option RoomNo) (v : Nat) (s : State) :
    journalConfig st room v (reframe l x s) = reframe l x (journalConfig st room v s) := writeJournal_reframe l x _ s

theorem permitRequest_reframe (hm : l ≠ m) (x : Port) {r : Request} (hr : changesBooks r = true) (s : State) :
    serveRequest m r (reframe l x s) = reframe l x (serveRequest m r s) := by
  have hminute : turnMinute (reframe l x s) = turnMinute s := rfl
  have hreply := reply_reframe hm x
  cases r with
  | writeRoom b =>
    refine checked_reframe hm ?_ _
    unfold acceptWriteRoom
    split
    · rfl
    · next q _ =>
      rw [← hreply]
      exact congrArg (reply m .done .nothing) (journalConfig_reframe x _ _ _ { s with rooms := put s.rooms q (RoomBody.record b) })
  | draftPermit b =>
    refine checked_reframe hm ?_ _
    have hslot : draftSlot b (reframe l x s) = draftSlot b s := rfl
    have hpermit : draftedPermit b (reframe l x s) = draftedPermit b s := rfl
    unfold acceptDraft
    rw [hslot, hpermit]
    split
    · rfl
    · dsimp only
      rw [← hreply, ← retestHolds_reframe, changePermit_reframe, reframe_timings]
      split
      · rw [post_reframe]
      · rfl
  | amendPermit b =>
    refine checked_reframe hm (lookup_reframe hm (fun i p => checked_reframe hm ?_ _) _) _
    simp only [acceptAmend, changePermit_reframe, retestHolds_reframe, hreply]
  | countersign n v =>
    refine lookup_reframe hm (fun i p => ?_) _
    simp only [countersignFound, hminute, changePermit_reframe, retestHolds_reframe, hreply]
    split
    · rfl
    · split <;> rfl
  | suspendPermit n reason =>
    refine checked_reframe hm (lookup_reframe hm (fun i p => ?_) _) _
    simp only [suspendFound, changePermit_reframe, retestHolds_reframe, hreply]
    split <;> rfl
  | resumePermit n =>
    refine lookup_reframe hm (fun i p => ?_) _
    simp only [resumeFound, hminute, settleResumed_reframe, hreply]
    split <;> rfl
  | revokePermit n =>
    refine lookup_reframe hm (fun i p => ?_) _
    simp only [finishFound, hminute, changePermit_reframe, retestHolds_reframe, hreply, apply_ite (reframe l x)]
  | closePermit n =>
    refine lookup_reframe hm (fun i p => ?_) _
    simp only [finishFound, hminute, changePermit_reframe, retestHolds_reframe, hreply, apply_ite (reframe l x)]
  | purgePermit n =>
    refine lookup_reframe hm (fun i p => ?_) _
    have href : slotReferred (reframe l x s) i = slotReferred s i := rfl
    simp only [purgeFound, href, vacate_reframe, retestHolds_reframe, hreply, apply_ite (reframe l x)]
  | _ => cases hr

end

end Sys2Proof.Machine
end

section
/-! The other requests, and the turn completed, whatever a port's framing is (O56). -/

namespace Sys2Proof.Machine

section
variable (l : Link) (x : Port)

/-! ### The effects of WRITE MAP -/

@[simp] theorem loseEntryStation_reframe (a : LoopAddr) (r : RoomNo) (s : State) :
    loseEntryStation a r (reframe l x s) = reframe l x (loseEntryStation a r s) := by
  have hhand : ∀ t, handOver .unused r (reframe l x t) = reframe l x (handOver .unused r t) := fun t => by
    have hwho : onRelease (reframe l x t) r = onRelease t r := rfl
    simp only [handOver, hwho, uncarry_reframe, reportEffect_reframe, apply_ite (reframe l x)]
  have hdoor : loseDoor r (reframe l x s) = reframe l x (loseDoor r s) := by
    unfold loseDoor
    simp only [reframe_door, setDoor_reframe, hhand]
    split <;> rfl
  rw [loseEntryStation, hdoor, cancelHold_reframe]
  rfl

@[simp] theorem discardAll_reframe (a : LoopAddr) (s : State) : discardAll a (reframe l x s) = reframe l x (discardAll a s) := by
  simp only [discardAll, clearRead_reframe, discardDecision_reframe, reframe_station, setStation_reframe, loseCarried_reframe]

@[simp] theorem restation_reframe (a : LoopAddr) (y : StationState) (s : State) :
    restation a y (reframe l x s) = reframe l x (restation a y s) := rfl

@[simp] theorem leaveOrder_reframe (a : LoopAddr) (s : State) : leaveOrder a (reframe l x s) = reframe l x (leaveOrder a s) := by
  show (if s.lastPolled.any (fun b => decide (b < a)) = true then _ else _) =
    reframe l x (if s.lastPolled.any (fun b => decide (b < a)) = true then _ else _)
  split <;> rfl

@[simp] theorem addressChanges_reframe (before after : MapOutcome) (a : LoopAddr) (s : State) :
    addressChanges before after a (reframe l x s) = reframe l x (addressChanges before after a s) := by
  have hroom : ∀ t, loseRoom a (reframe l x t) = reframe l x (loseRoom a t) := fun t => loseCommand_reframe l x true _ t
  unfold addressChanges
  simp only [discardAll_reframe, restation_reframe, leaveOrder_reframe, hroom]
  split
  · rfl
  · split
    · rfl
    · rfl
    · rfl
    · rfl
    · exact (apply_ite (reframe l x) _ _ _).symm

theorem mapChangeEffects_reframe (old : Table 8 (Option Descriptor)) (s : State) :
    mapChangeEffects old (reframe l x s) = reframe l x (mapChangeEffects old s) := by
  refine foldl_reframe l x (fun t a => ?_) _ s
  have hmap : mapOutcome (reframe l x t) a = mapOutcome t a := rfl
  simp only [reframe_rooms, hmap, addressChanges_reframe, entryChanges, loseEntryStation_reframe]
  split
  · split <;> rfl
  · rfl

/-! ### ALL CLEAR and RECONCILE ROOM -/

/-- R105: the rooms that held a presence are re-examined, whatever the framing. -/
theorem reexamineHeld_reframe {one : RoomNo → State → State} (h : ∀ r t, one r (reframe l x t) = reframe l x (one r t))
    (before s : State) : reexamineHeld before one (reframe l x s) = reframe l x (reexamineHeld before one s) :=
  foldl_reframe l x (f := fun t r => if (before.roomState r).list.isEmpty then t else one r t)
    (fun t r => by simp only [h, apply_ite (reframe l x)]) _ s

theorem changePresences_reframe (become : PresenceState → Option PresenceState) (record : Bool) (s : State) :
    changePresences become record (reframe l x s) =
      (reframe l x (changePresences become record s).1, (changePresences become record s).2) := by
  refine foldl_pair_reframe l x (f := sweepOne become record) (fun y i => ?_) (List.finRange 128) (uncarry (List.finRange 128) s) []
  have hbadge : supervisorBadge (reframe l x y.1) i = supervisorBadge y.1 i := rfl
  have hnumber : ∀ t k, permitNumber (reframe l x t) k = permitNumber t k := fun _ _ => rfl
  simp only [sweepOne, reframe_presence, hbadge, hnumber, setPresenceState_reframe, removePresence_reframe, writeJournal_reframe]
  cases y.1.presence i with
  | none => rfl
  | some p =>
    dsimp only
    cases become p.state with
    | some st => rfl
    | none => cases record <;> rfl

theorem presencesAtAllClear_reframe (s : State) :
    presencesAtAllClear (reframe l x s) = reframe l x (presencesAtAllClear s) := by
  have hbefore : ∀ one t, reexamineHeld (reframe l x s) one t = reexamineHeld s one t := fun _ _ => rfl
  simp only [presencesAtAllClear, changePresences_reframe, hbefore]
  exact reexamineHeld_reframe l x (fun r t => reexamine_reframe l x r _ t) s _

theorem reconcile_reframe (r : RoomNo) (who : List PoolIx) (s : State) :
    reconcile r who (reframe l x s) = reframe l x (reconcile r who s) := by
  have hone : ∀ (i : PoolIx) (y : State × List Nat), reconcileOne i (reframe l x y.1, y.2) =
      (reframe l x (reconcileOne i y).1, (reconcileOne i y).2) := fun i y => by
    have hbadge : supervisorBadge (reframe l x y.1) i = supervisorBadge y.1 i := rfl
    have hnumber : ∀ t k, permitNumber (reframe l x t) k = permitNumber t k := fun _ _ => rfl
    unfold reconcileOne
    simp only [reframe_presence, hbadge, hnumber, removePresence_reframe, writeJournal_reframe]
    cases y.1.presence i <;> rfl
  have hall := foldl_pair_reframe l x (f := fun y i => reconcileOne i y) (fun y i => hone i y) who s []
  simp only [reconcile, hall, reexamine_reframe]

end

section
variable {l m : Link} {x : Port}

/-! ### Requests that leave the books -/

theorem clockRequest_reframe (hm : l ≠ m) {s : State} (hx : Unasking x) (hs : Unasking (s.port l)) :
    (∀ t, acceptSetClock m t (reframe l x s) = reframe l x (acceptSetClock m t s)) ∧
      acceptAlignClock m (reframe l x s) = reframe l x (acceptAlignClock m s) := by
  have hraise : ∀ t, raiseEvent (rephase { reframe l x s with clock := t }) = reframe l x (raiseEvent (rephase { s with clock := t })) :=
    fun t => raiseEvent_reframe (s := rephase { s with clock := t }) hx hs
  refine ⟨fun t => ?_, ?_⟩
  · have hset : raiseEvent (rephase { reframe l x s with clock := t, clockUnset := false }) =
        reframe l x (raiseEvent (rephase { s with clock := t, clockUnset := false })) :=
      raiseEvent_reframe (s := rephase { s with clock := t, clockUnset := false }) hx hs
    simp only [acceptSetClock, hset, post_reframe, writeJournal_reframe, reply_reframe hm]
  · unfold acceptAlignClock
    rw [← reply_reframe hm]
    refine congrArg (reply m .done .nothing) ?_
    dsimp only
    rw [reframe_clock, hraise]
    split
    · rfl
    · split
      · exact writeJournal_reframe l x _ (rephase { s with clock := { s.clock with second := 0 } })
      · exact writeJournal_reframe ..

theorem maskRequest_reframe (hm : l ≠ m) (x : Port) (level : Nat) (s : State) :
    serveSetNoticeMask m level (reframe l x s) = reframe l x (serveSetNoticeMask m level s) := by
  simp only [serveSetNoticeMask, reframe_port_other hm, setPort_reframe hm, judgeAttention_reframe, reply_reframe hm]

theorem modeRequest_reframe (hm : l ≠ m) (x : Port) (mode : Nat) (s : State) :
    serveSetAttentionMode m mode (reframe l x s) = reframe l x (serveSetAttentionMode m mode s) := by
  have hchange : ∀ k, changeMode m k (reframe l x s) = reframe l x (changeMode m k s) := fun k => by
    simp only [changeMode, reframe_port_other hm, setPort_reframe hm, judgeAttention_reframe]
    split
    · rfl
    · cases k <;> rfl
  unfold serveSetAttentionMode
  simp only [hchange, reply_reframe hm]
  split <;> rfl

theorem takeNotice_reframe (hm : l ≠ m) (x : Port) (s : State) :
    serveTakeNotice m (reframe l x s) = reframe l x (serveTakeNotice m s) := by
  simp only [serveTakeNotice, reframe_queue, setQueue_reframe, judgeAttention_reframe, reply_reframe hm]
  split <;> rfl

theorem reconcileRoom_reframe (hm : l ≠ m) (x : Port) (room : Nat) (badge : Option Nat) (s : State) :
    serveReconcileRoom m room badge (reframe l x s) = reframe l x (serveReconcileRoom m room badge s) := by
  refine checked_reframe hm ?_ _
  have hbadge : ∀ r b, reconcileBadge m r b (reframe l x s) = reframe l x (reconcileBadge m r b s) := fun r b => by
    unfold reconcileBadge
    simp only [reframe_roomState, reframe_presence, reconcile_reframe, reply_reframe hm]
    split <;> rfl
  have hall : ∀ r, reconcileAll m r (reframe l x s) = reframe l x (reconcileAll m r s) := fun r => by
    simp only [reconcileAll, reframe_roomState, reconcile_reframe, setRoomState_reframe, reply_reframe hm]
  simp only [hbadge, hall]
  split <;> rfl

theorem allClearRequest_reframe (hm : l ≠ m) (x : Port) (s : State) :
    acceptAllClear m (reframe l x s) = reframe l x (acceptAllClear m s) := by
  have hmodes : queueModeEverywhere true .resumeNormal { reframe l x s with evacuating := false, edgeCount := 0 } =
      reframe l x (queueModeEverywhere true .resumeNormal { s with evacuating := false, edgeCount := 0 }) :=
    queueModeEverywhere_reframe l x true .resumeNormal { s with evacuating := false, edgeCount := 0 }
  unfold acceptAllClear
  rw [hmodes]
  generalize queueModeEverywhere true .resumeNormal { s with evacuating := false, edgeCount := 0 } = t
  have hdoors : presencesAtAllClear { reframe l x t with doors := mapAll settleDoor t.doors } =
      reframe l x (presencesAtAllClear { t with doors := mapAll settleDoor t.doors }) :=
    presencesAtAllClear_reframe l x { t with doors := mapAll settleDoor t.doors }
  exact (congrArg (fun u => reply m .done .nothing (writeJournal { kind := .allClear } u)) hdoors).trans
    (by rw [writeJournal_reframe, reply_reframe hm])

/-- R54: the sweep's state is read off the turn's own link. -/
theorem sweepState_reframe {s : State} (ht : s.turn.map Turn.user ≠ some (.request l)) :
    sweepState (reframe l x s) = sweepState s := by
  unfold sweepState
  rw [reframe_sweep, reframe_turn]
  split
  · rfl
  · split
    · rfl
    · next k _ hk =>
      have hother : l ≠ k := fun e => ht (by rw [hk, e]; rfl)
      rw [reframe_port_other hother]
    · rfl

theorem serveRequest_reframe (hm : l ≠ m) {s : State} (hx : Unasking x) (hs : Unasking (s.port l))
    (ht : s.turn.map Turn.user ≠ some (.request l)) (r : Request) :
    serveRequest m r (reframe l x s) = reframe l x (serveRequest m r s) := by
  have hreply := reply_reframe hm x
  have hconfig := journalConfig_reframe (l := l) x
  cases hr : changesBooks r with
  | true => exact permitRequest_reframe hm x hr s
  | false =>
    cases r with
    | readClock | readMap | readFreeze | readTimings | readJournal | restart => exact hreply _ _ s
    | readSweep =>
      show reply m .done (.sweep (sweepState (reframe l x s)) _ _ _ _ _) _ = _
      rw [sweepState_reframe ht]
      exact hreply _ _ s
    | setClock t => exact checked_reframe hm ((clockRequest_reframe hm hx hs).1 t) _
    | alignClock => exact checked_reframe hm (clockRequest_reframe hm hx hs).2 _
    | setMark k =>
      exact checked_reframe hm (f := fun s => reply m .done (.mark k) { s with mark := k }) (hreply _ _ { s with mark := k }) _
    | writeMap b =>
      refine checked_reframe hm ?_ _
      have hwritten : ∀ t, journalConfig .done none (10 + b.number) { reframe l x s with stationMap := t } =
          reframe l x (journalConfig .done none (10 + b.number) { s with stationMap := t }) := fun t =>
        hconfig _ _ _ { s with stationMap := t }
      unfold acceptWriteMap
      dsimp only
      rw [hwritten, reframe_stationMap, mapChangeEffects_reframe, hreply]
    | setFreeze b =>
      refine checked_reframe hm ?_ _
      unfold acceptSetFreeze
      split
      · rfl
      · exact (congrArg (reply m .done .nothing) (hconfig _ _ _ { s with freezes := _ })).trans (hreply ..)
    | clearFreeze e =>
      refine checked_reframe hm ?_ _
      unfold acceptClearFreeze
      split
      · rfl
      · exact (congrArg (reply m .done .nothing) (hconfig _ _ _ { s with freezes := _ })).trans (hreply ..)
    | writeTimings t =>
      refine checked_reframe hm ?_ _
      exact (congrArg (reply m _ _) (hconfig _ _ _ { s with timings := clampTimings t })).trans (hreply ..)
    | lockConfiguration =>
      refine Eq.trans (congrArg (reply m .done .nothing) ?_)
        (hreply _ _ (if s.locked then s else journalConfig .done none 50 { s with locked := true }))
      rw [reframe_locked]
      split
      · rfl
      · exact hconfig _ _ _ { s with locked := true }
    | readRoom n => unfold serveRequest serveReadRoom; dsimp only; split <;> exact hreply _ _ s
    | readPermit p =>
      cases p with
      | number => exact lookup_reframe hm (fun i p => hreply _ _ s) _
      | slot i => unfold serveRequest serveReadPermit; dsimp only; rw [reframe_permit]; split <;> exact hreply _ _ s
    | listPermits i f n => exact checked_reframe hm (hreply _ _ s) _
    | readOccupancy o =>
      cases o with
      | badge => exact checked_reframe hm (hreply _ _ s) _
      | room => unfold serveRequest serveReadOccupancy; dsimp only; split <;> exact hreply _ _ s
    | reconcileRoom n b => exact reconcileRoom_reframe hm x n b s
    | readStation => unfold serveRequest serveReadStation; dsimp only; split <;> exact hreply _ _ s
    | readDoor => unfold serveRequest serveReadDoor; dsimp only; split <;> exact hreply _ _ s
    | allClear => exact checked_reframe hm (allClearRequest_reframe hm x s) _
    | suspendFirm firm reason => exact checked_reframe hm (startWalk_reframe hm hx hs _ _) _
    | resumeFirm firm => exact checked_reframe hm (startWalk_reframe hm hx hs _ _) _
    | takeNotice => exact takeNotice_reframe hm x s
    | setNoticeMask k => exact maskRequest_reframe hm x k s
    | setAttentionMode k => exact modeRequest_reframe hm x k s
    | setCounter b =>
      refine checked_reframe hm ?_ _
      unfold acceptSetCounter
      split
      · exact hreply _ _ { s with counters := _ }
      · rfl
    | readCounter n =>
      unfold serveRequest serveReadCounter
      dsimp only
      split
      · exact hreply _ _ s
      · exact checked_reframe hm (hreply _ _ s) _
    | _ => cases hr

end

end Sys2Proof.Machine
end

section
/-! R55, R104, R178: the turn in progress is completed in the same way once the reply to a RESTART has been sent as before (O56). -/

namespace Sys2Proof.Machine

open Claims

/-- R36, R176: no request of a port waits for its reply. -/
def Answered (p : Port) : Prop := ∀ r g, p.inFlight = some ⟨r, g⟩ → g = .answered

theorem Answered.unasking {p : Port} (h : Answered p) : Unasking p := fun r hr => nomatch h r .handed hr

/-- R176: the port whose request in flight is answered has none handed over. -/
theorem Answered.not_handed {p : Port} (h : Answered p) (r : Request) : p.inFlight ≠ some ⟨r, .handed⟩ := fun hr =>
  nomatch h r .handed hr

theorem Answered.of_hom {l : Link} {f : State → State} {s : State} (hs : Answered (s.port l))
    (hf : ∀ y t, f (reframe l y t) = reframe l y (f t)) : Answered ((f s).port l) := fun r g hr =>
  hs r g ((inFlight_of_hom hf s).symm.trans hr)

section
variable {l : Link} {x : Port}

theorem answered_reframe (hx : Answered x) (s : State) : Answered ((reframe l x s).port l) := by
  rw [reframe_port_same]
  exact hx

theorem completeWalk_reframe {s : State} (hx : Answered x) (hs : Answered (s.port l)) (changed : Nat) :
    completeWalk changed (reframe l x s) = reframe l x (completeWalk changed s) := by
  unfold completeWalk
  by_cases hl : l = .security
  · subst hl
    have hframed : reply .security .done (.walked changed 255) { reframe .security x s with walk := none } =
        { reframe .security x s with walk := none } := reply_idle (answered_reframe (l := .security) hx s)
    have hplain : reply .security .done (.walked changed 255) { s with walk := none } = { s with walk := none } := reply_idle hs
    rw [hframed, hplain]
    rfl
  · exact reply_reframe hl x .done (.walked changed 255) { s with walk := none }

theorem serveWalkStep_reframe {s : State} (hx : Answered x) (hs : Answered (s.port l)) :
    serveWalkStep (reframe l x s) = reframe l x (serveWalkStep s) := by
  unfold serveWalkStep
  rw [reframe_walk]
  split
  · rfl
  · next w _ =>
    have hstepped : Answered ((walkAt w s).1.port l) :=
      hs.of_hom (f := fun t => (walkAt w t).1) fun y t => congrArg Prod.fst (walkAt_reframe l y w t)
    dsimp only
    rw [walkAt_reframe, completeWalk_reframe hx hstepped]
    split <;> rfl

/-- R55, R176: the work of the turn in progress does not depend on the framing of a port with nothing left to answer. -/
theorem serveTurn_reframe {s : State} (hx : Answered x) (hs : Answered (s.port l)) :
    serveTurn (reframe l x s) = reframe l x (serveTurn s) := by
  unfold serveTurn
  rw [reframe_turn]
  rcases ht : s.turn with _ | ⟨user, at_⟩
  · rfl
  · cases user with
    | decision rd clearAfter => exact serveDecision_reframe l x rd clearAfter s
    | walkStep => exact serveWalkStep_reframe hx hs
    | sweepStep => exact serveSweepStep_reframe l x s
    | request m =>
      dsimp only
      by_cases hm : l = m
      · subst hm
        have hframed := (answered_reframe (l := l) hx s).not_handed
        have hplain := hs.not_handed
        split
        · next r hr => exact absurd hr (hframed r)
        · rfl
      · have hturn : s.turn.map Turn.user ≠ some (.request l) := by
          rw [ht]
          simpa using Ne.symm hm
        rw [reframe_port_other hm]
        split
        · next r _ => exact serveRequest_reframe hm hx.unasking hs.unasking hturn r
        · rfl

theorem finishTurn_reframe {s : State} (hx : Answered x) (hs : Answered (s.port l)) :
    finishTurn (reframe l x s) = reframe l x (finishTurn s) := by
  unfold finishTurn
  rw [serveTurn_reframe hx hs]
  exact drainHeld_reframe l x _ { serveTurn s with turn := none }

/-- R55, R176: a port with nothing left to answer keeps its framing while the turn in progress is completed. -/
theorem finishTurn_framing {s : State} (hs : Answered (s.port l)) : reframe l (s.port l) (finishTurn s) = finishTurn s := by
  rw [← finishTurn_reframe hs hs, reframe_self]

end

/-! ### The reply to a RESTART -/

/-- R176, R178: a port's framing once the reply to its request in flight has been sent. -/
def replied (r : Reply) (rest : List Reply) (p : Port) : Port := { p with transmit := rest, sent := r.frame, inFlight := none }

theorem replied_answered (r : Reply) (rest : List Reply) (p : Port) : Answered (replied r rest p) := fun _ _ h => nomatch h

theorem sendReply_reframed {r : Reply} (hr : r.answers = true) (l : Link) (rest : List Reply) (s : State) :
    sendReply l r rest s = reframe l (replied r rest (s.port l)) s := by
  simp only [sendReply, hr, if_true]
  rfl

/-- R178: a RESTART answered is no request to be served. -/
theorem answered_of_restartReplied {l : Link} {s : State} (h : RestartReplied l s) : Answered (s.port l) := fun _ _ hr =>
  (congrArg InFlight.stage (Option.some.inj (h.1.symm.trans hr))).symm

theorem finishTurn_restartReplied {l : Link} {s : State} (h : RestartReplied l s) : RestartReplied l (finishTurn s) := by
  rw [← finishTurn_framing (answered_of_restartReplied h), RestartReplied, reframe_port_same]
  exact h

/-- R55, R176: the turn in progress completed, then the reply sent, and the other way round. -/
theorem finishTurn_sendReply {l : Link} {r : Reply} {s : State} (hs : Answered (s.port l)) (hr : r.answers = true)
    (rest : List Reply) : finishTurn (sendReply l r rest s) = sendReply l r rest (finishTurn s) := by
  have hreception : ((finishTurn s).port l).reception = (s.port l).reception := by
    rw [← finishTurn_framing hs, reframe_port_same]
  have hsame : reframe l (replied r rest ((finishTurn s).port l)) (finishTurn s) =
      reframe l (replied r rest (s.port l)) (finishTurn s) := by
    simp only [reframe, replied, hreception]
  rw [sendReply_reframed hr, sendReply_reframed hr, hsame, finishTurn_reframe (replied_answered r rest _) hs]

/-! ### The restart taken -/

theorem takeRestart_finishTurn (value : Nat) (s : State) : takeRestart value (finishTurn s) = takeRestart value s := by
  rw [takeRestart, takeRestart, finishTurn_of_unturned _ (finishTurn_unturned s)]

theorem replySent_restart {l : Link} {s : State} {r : Reply} {rest : List Reply} (hs : s.supply = .normal)
    (hf : (s.port l).inFlight = some ⟨.restart, .answered⟩) (ht : (s.port l).transmit = r :: rest) (hr : r.answers = true) :
    exec (.replySent l) s = .next (takeRestart 1 (sendReply l r rest s)) := by
  simp [exec, execReplySent, hs, ht, answersRestart, hr, hf]

theorem finishTurn_supply (s : State) : (finishTurn s).supply = s.supply :=
  (finishTurn_course (free := fun _ => True) s fun _ _ => trivial).supply

/-- R178: a restart by RESTART completes the turn in progress first. -/
theorem replySent_finishTurn {l : Link} {s : State} (hs : s.supply = .normal) (h : RestartReplied l s) :
    exec (.replySent l) s = exec (.replySent l) (finishTurn s) := by
  obtain ⟨hf, r, rest, ht, hr⟩ := h
  have hanswered := answered_of_restartReplied ⟨hf, r, rest, ht, hr⟩
  have hframing := finishTurn_framing hanswered
  have hf' : ((finishTurn s).port l).inFlight = some ⟨.restart, .answered⟩ := by
    rw [← hframing, reframe_port_same]; exact hf
  have ht' : ((finishTurn s).port l).transmit = r :: rest := by
    rw [← hframing, reframe_port_same]; exact ht
  rw [replySent_restart hs hf ht hr, replySent_restart ((finishTurn_supply s).trans hs) hf' ht' hr,
    ← finishTurn_sendReply hanswered hr, takeRestart_finishTurn]

end Sys2Proof.Machine
end

section
/-! What a restart leaves of a part with no turn in progress, in NORMAL and in BACKUP (O56). -/

namespace Sys2Proof.Machine

open Claims

/-! ### The part emptied -/

/-- R55, R160: what a restart empties outright. -/
def restartEmptied (s : State) : State := emptyNotices (quiesce s)

/-- R116: the register a restart leaves. -/
def registerKept (s : State) : State := presencesAtReset atRestart (restartEmptied s)

/-- R55, R116, R160: the part emptied, with its register changed. -/
def restartBase (s : State) : State :=
  { restartEmptied s with pool := (registerKept s).pool, occupancy := (registerKept s).occupancy }

theorem restartEmptied_carriesNobody (s : State) : CarriesNobody (restartEmptied s) :=
  have h := quiesce_carriesNobody s
  ⟨h.decisions, h.tied, h.effects⟩

theorem registerKept_eq (s : State) : registerKept s = restartBase s :=
  presencesAtReset_registerOnly atRestart (restartEmptied_carriesNobody s)

theorem takeRestart_unturned (value : Nat) {s : State} (h : Unturned s) :
    takeRestart value s = recordRestart value (restartBase s) := by
  rw [takeRestart, finishTurn_of_unturned s h]
  exact congrArg (recordRestart value) (registerKept_eq s)

theorem recordRestart_normal (value : Nat) {s : State} (hs : s.supply = .normal) :
    recordRestart value s = takeEvacuation (writeJournal { kind := .restart, value := some value } s) := by
  simp only [recordRestart, hs]

theorem recordRestart_backup (value : Nat) {s : State} (hs : s.supply = .backup) :
    recordRestart value s = { s with restartDue := true } := by
  simp only [recordRestart, hs]

theorem restartBase_supply (s : State) : (restartBase s).supply = s.supply := by
  simp only [restartBase, restartEmptied, emptyNotices, quiesce]

theorem restartBase_station (s : State) (a : LoopAddr) : (restartBase s).station a = Station.initial := look_fill _ a

/-- R116: the ARRIVING presences are gone, and the LEAVING ones are INSIDE. -/
theorem restartBase_presences (s : State) : RestartedPresences s (restartBase s) := fun i => by
  refine (presencesAtReset_presence atRestart (restartEmptied_carriesNobody s) i).trans ?_
  have hsame : (restartEmptied s).presence i = s.presence i := rfl
  rw [changed, hsame]
  cases s.presence i with
  | none => rfl
  | some p => rcases p with ⟨_, _, _, _, x, _⟩; cases x <;> rfl

/-- R105, R106, R110: what a reset leaves of a room is read off the register and the rooms. -/
theorem refreshed_of_register {s t u : State} {r : RoomNo} (hpool : u.pool = t.pool) (hoccupancy : u.occupancy = t.occupancy)
    (hrooms : u.rooms = t.rooms) (h : Refreshed s t r) : Refreshed s u r := by
  have hroom : u.roomState r = t.roomState r := by simp only [State.roomState, hoccupancy]
  have halone : ∀ i, Alone u r i ↔ Alone t r i := fun i => by
    simp only [Alone, State.room, State.roomState, State.presence, hpool, hoccupancy, hrooms]
  refine ⟨?_, ?_, ?_, ?_, ?_, ?_⟩ <;> simp only [hroom, halone]
  exacts [h.list, h.untouched, h.mark, h.nobody, h.same, h.fresh]

theorem restartBase_refreshed (s : State) (h : Listed s) (r : RoomNo) : Refreshed s (restartBase s) r := by
  have hr := presencesAtReset_refreshed (become := atRestart) (fun x => by cases x <;> rfl) (restartEmptied_carriesNobody s) h r
  rw [← registerKept, registerKept_eq] at hr
  exact ⟨hr.list, hr.untouched, hr.mark, hr.nobody, hr.same, hr.fresh⟩

/-! ### A restart in BACKUP -/

/-- R179: what the RESET line leaves in BACKUP: its record waits for the warm return (R163). -/
def restartedInBackup (s : State) : State := { restartBase s with restartDue := true, locked := false }

theorem resetLine_inBackup {s : State} (hs : s.supply = .backup) (h : Unturned s) :
    exec .resetLine s = .next (restartedInBackup s) := by
  have hrecord : recordRestart 0 (restartBase s) = { restartBase s with restartDue := true } :=
    recordRestart_backup 0 ((restartBase_supply s).trans hs)
  simp only [exec, execResetLine, takeRestart_unturned 0 h, hrecord, restartedInBackup]

theorem restartedInBackup_emptied (s : State) : Emptied s (restartedInBackup s) := by
  refine ⟨rfl, rfl, rfl, fun r => look_fill none r, rfl, ⟨rfl, rfl, rfl⟩, rfl, rfl, fun a => ?_, fun r => ?_, fun l => ?_⟩
  · have ha : (restartedInBackup s).station a = Station.initial := look_fill _ a
    rw [ha]
    rfl
  · have hr : (restartedInBackup s).door r = Door.initial := look_fill _ r
    rw [hr]
    rfl
  · cases l <;> rfl

theorem restartedInBackup_supply (s : State) : (restartedInBackup s).supply = s.supply := restartBase_supply s

theorem restartedInBackup_journal (s : State) : (restartedInBackup s).journal = s.journal := by
  simp only [restartedInBackup, restartBase, restartEmptied, emptyNotices, quiesce]

/-- R135, R180: in BACKUP a restart leaves the evacuation state for the warm return. -/
theorem restartedInBackup_evacuation (s : State) : (restartedInBackup s).evacuating = s.evacuating ∧
    (restartedInBackup s).evacuateTaken = s.evacuateTaken ∧ (restartedInBackup s).edgeCount = s.edgeCount := by
  simp only [restartedInBackup, restartBase, restartEmptied, emptyNotices, quiesce, and_self]

theorem restartedInBackup_stays (s : State) : Stays s (restartedInBackup s) := by
  constructor <;> simp only [restartedInBackup, restartBase, restartEmptied, emptyNotices, quiesce, and_self]

/-! ### A restart in NORMAL -/

/-- R163: the part emptied, with the restart's record written. -/
def restartReported (value : Nat) (s : State) : State :=
  { restartBase s with
    journal := s.journal ++ [⟨s.nextSequence, s.clock, { kind := .restart, value := some value }⟩]
    nextSequence := s.nextSequence + 1 }

theorem restartReported_supply (value : Nat) (s : State) : (restartReported value s).supply = s.supply := by
  simp only [restartReported, restartBase_supply]

/-- R163: a restart writes its record, then takes the line's level. -/
theorem takeRestart_reported {value : Nat} {s : State} (hv : value ≤ 65535) (hs : s.supply = .normal) (h : Unturned s)
    (hj : s.journal.length < 500) : takeRestart value s = takeEvacuation (restartReported value s) := by
  have hsupply := (restartBase_supply s).trans hs
  have hrecord : writeJournal { kind := .restart, value := some value } (restartBase s) = restartReported value s := by
    rw [writeJournal_short _ _ hsupply (show s.journal.length < 512 by omega)]
    simp only [Option.map_some, show cap16 value = value from min_eq_left hv]
    rfl
  rw [takeRestart_unturned value h, recordRestart_normal value hsupply, hrecord]

theorem restartReported_followed (value : Nat) {s : State} (hs : s.supply = .normal) (hj : s.journal.length < 500) :
    LineFollowed (restartReported value s) (takeEvacuation (restartReported value s)) := by
  refine takeEvacuation_followed (restartReported value s) ((restartReported_supply value s).trans hs) rfl (fun a => ?_) ?_
  · rw [show (restartReported value s).station a = Station.initial from restartBase_station s a]
    rfl
  · simp only [restartReported, List.length_append, List.length_singleton]
    omega

/-- R135: the queues and ports of a restart, with the first edge posted where the line is high. -/
def restartBoard (value : Nat) (s : State) : State :=
  if s.evacuateLine then firstEdge (restartReported value s) else restartReported value s

/-- R178, R179: what a restart leaves: the RESET line clears the configuration lock, the request RESTART keeps it. -/
def restarted (value : Nat) (s : State) : State :=
  { takeEvacuation (restartReported value s) with locked := decide (value = 1) && s.locked }

/-- The part after a restart, with its register, stations, queues, ports and next sequence number those of another. -/
def restartedWith (t : State) (value : Nat) (s : State) : State :=
  { lineTaken (restartEmptied s) with
    pool := t.pool
    occupancy := t.occupancy
    stations := t.stations
    doors := fill { Door.initial with state := if s.evacuateLine then .evacuation else .unknown .back }
    notices := t.notices
    ports := t.ports
    journal := (s.journal ++ [⟨s.nextSequence, s.clock, { kind := .restart, value := some value }⟩]) ++
      if s.evacuateLine then [⟨s.nextSequence + 1, s.clock, { kind := .evacStart, value := some 1 }⟩] else []
    nextSequence := t.nextSequence
    locked := decide (value = 1) && s.locked }

theorem restartedWith_stays (t : State) (value : Nat) (s : State) : Stays s (restartedWith t value s) := by
  constructor <;> simp only [restartedWith, lineTaken, restartEmptied, emptyNotices, quiesce, and_self]

theorem restartedWith_supply (t : State) (value : Nat) (s : State) :
    (restartedWith t value s).supply = s.supply ∧ (restartedWith t value s).supplyLine = s.supplyLine := by
  simp only [restartedWith, lineTaken, restartEmptied, emptyNotices, quiesce, and_self]

theorem restartedWith_door (t : State) (value : Nat) (s : State) (r : RoomNo) : (restartedWith t value s).door r =
    { Door.initial with state := if s.evacuateLine then .evacuation else .unknown .back } := look_fill _ r

/-- R135: what taking the line's level leaves of the register. -/
theorem LineFollowed.register {s t : State} (h : LineFollowed s t) : t.pool = s.pool ∧ t.occupancy = s.occupancy := by
  rw [h.rest]
  exact ⟨rfl, rfl⟩

/-- R135: taking the line's level changes the queues and the ports as the first edge does. -/
theorem LineFollowed.board {s t : State} (h : LineFollowed s t) :
    t.notices = (if s.evacuateLine then firstEdge s else s).notices ∧ t.ports = (if s.evacuateLine then firstEdge s else s).ports := by
  rw [h.rest]
  exact ⟨rfl, rfl⟩

/-! ### Its queues and ports -/

/-- R157, R158: in an empty queue a notice drives a released line in either mode just where it is above the mask. -/
theorem postTo_port_empty (l : Link) (n : Notice) (s : State) (hs : s.supply = .normal) (hq : s.queue l = ⟨[], false⟩)
    (ha : (s.port l).attention = false) :
    (postTo l n s).port l = { s.port l with attention := decide ((s.port l).mask < n.level) } := by
  cases hm : (s.port l).mode with
  | pulse => rw [postTo_port_pulse l n s hs hm (by rw [hq]; decide), ha, Bool.false_or]
  | level =>
    have hoffer : (s.queue l).offer n = (⟨[n], false⟩, true) := by
      rw [hq]
      rfl
    simp [postTo, hoffer, judgeAttention, pulseFor, NoticeQueue.above, hs, hm]

theorem firstEdge_port_empty (s : State) (hs : s.supply = .normal) (hq : ∀ l, s.queue l = ⟨[], false⟩)
    (ha : ∀ l, (s.port l).attention = false) (l : Link) :
    (firstEdge s).port l = { s.port l with attention := decide ((s.port l).mask < 7) } := by
  rw [firstEdge, post_both _ s rfl hs]
  generalize hn : stamped { kind := .evacuation, figures := .value 1 } s = n
  have hlevel : n.level = 7 := by rw [← hn]; rfl
  rw [← hlevel]
  cases l with
  | works => exact (postTo_port_other _ _ (by decide)).trans (postTo_port_empty .works n s hs (hq _) (ha _))
  | security =>
    have hother := postTo_port_other n s (show Link.works ≠ .security by decide)
    have hqueue := postTo_queue_other n s (show Link.works ≠ .security by decide)
    rw [postTo_port_empty .security n (postTo .works n s) ((postTo_kept ..).supply.trans hs) (hqueue.trans (hq _))
      (by rw [hother]; exact ha _), hother]

theorem restartReported_port (value : Nat) (s : State) (l : Link) : (restartReported value s).port l = (s.port l).cleared := by
  cases l <;> rfl

theorem restartReported_queue (value : Nat) (s : State) (l : Link) : (restartReported value s).queue l = ⟨[], false⟩ := by
  cases l <;> rfl

theorem restartBoard_port (value : Nat) {s : State} (hs : s.supply = .normal) (l : Link) : (restartBoard value s).port l =
    { (s.port l).cleared with attention := s.evacuateLine && decide ((s.port l).mask < 7) } := by
  have hports := restartReported_port value s
  unfold restartBoard
  cases s.evacuateLine with
  | false => exact hports l
  | true =>
    have hedge := firstEdge_port_empty (restartReported value s) ((restartReported_supply value s).trans hs)
      (restartReported_queue value s) (fun k => by rw [hports]; rfl) l
    rw [hports] at hedge
    exact hedge

theorem restartBoard_queue (value : Nat) {s : State} (hs : s.supply = .normal) (l : Link) : (restartBoard value s).queue l =
    ⟨if s.evacuateLine then [⟨{ kind := .evacuation, figures := .value 1 }, 7, s.clock⟩] else [], false⟩ := by
  unfold restartBoard
  cases s.evacuateLine with
  | false => exact restartReported_queue value s l
  | true =>
    have hedge := post_both_queue { kind := .evacuation, figures := .value 1 } (restartReported value s) rfl
      ((restartReported_supply value s).trans hs) l
    rw [restartReported_queue] at hedge
    exact hedge

/-! ### What a restart leaves -/

section
variable (value : Nat) {s : State} (hs : s.supply = .normal) (hj : s.journal.length < 500)
include hs hj

theorem restarted_eq : restarted value s = restartedWith (restarted value s) value s := by
  have hdoors : (if s.evacuateLine then mapAll (fun d => { d with state := .evacuation }) (restartReported value s).doors
      else (restartReported value s).doors) =
        fill { Door.initial with state := if s.evacuateLine then .evacuation else .unknown .back } := by
    have hinitial : (restartReported value s).doors = fill Door.initial := rfl
    rw [hinitial, mapAll_fill]
    split <;> rfl
  have hline : (restartReported value s).evacuateLine = s.evacuateLine := rfl
  have hfollowed := restartReported_followed value hs hj
  obtain ⟨hpool, hoccupancy⟩ := hfollowed.register
  obtain ⟨hnotices, hports⟩ := hfollowed.board
  have hrest := hfollowed.rest
  rw [hline] at hnotices hports hrest
  have hnext := congrArg State.nextSequence hrest
  dsimp only at hnext
  rw [hdoors, ← hnotices, ← hports, ← hnext] at hrest
  rw [restarted]
  generalize takeEvacuation (restartReported value s) = t at hrest hpool hoccupancy ⊢
  refine (congrArg (fun t : State => { t with locked := decide (value = 1) && s.locked }) hrest).trans ?_
  simp only [restartedWith, hpool, hoccupancy]
  rfl

theorem restarted_field {α : Type} (f : State → α) : f (restarted value s) = f (restartedWith (restarted value s) value s) :=
  congrArg f (restarted_eq value hs hj)

theorem restarted_station (a : LoopAddr) : (restarted value s).station a =
    ⟨.unknown, 0, none, if mapOutcome s a = .unpolled then none else some (if s.evacuateLine then .evacRelease else .resumeNormal),
      none, false⟩ := by
  refine ((restartReported_followed value hs hj).station a).trans ?_
  have hinitial : (restartReported value s).station a = Station.initial := restartBase_station s a
  have hmap : mapOutcome (restartReported value s) a = mapOutcome s a := rfl
  rw [hinitial, hmap]
  split <;> rfl

theorem restarted_door (r : RoomNo) : (restarted value s).door r =
    { Door.initial with state := if s.evacuateLine then .evacuation else .unknown .back } :=
  (restarted_field value hs hj (State.door · r)).trans (restartedWith_door ..)

theorem restarted_stays : Stays s (restarted value s) := by
  rw [restarted_eq value hs hj]
  exact restartedWith_stays ..

theorem restarted_supply : (restarted value s).supply = s.supply ∧ (restarted value s).supplyLine = s.supplyLine := by
  rw [restarted_eq value hs hj]
  exact restartedWith_supply ..

theorem restarted_followsLine : FollowsLine s.evacuateLine s (restarted value s) where
  state := by
    rw [restarted_eq value hs hj]
    exact ⟨rfl, rfl, rfl⟩
  doors r := by rw [restarted_door value hs hj]
  modes a := by rw [restarted_station value hs hj]

theorem restarted_register :
    (restarted value s).pool = (restartBase s).pool ∧ (restarted value s).occupancy = (restartBase s).occupancy := by
  have hregister := (restartReported_followed value hs hj).register
  rw [restartReported] at hregister
  exact hregister

theorem restarted_presences : RestartedPresences s (restarted value s) := fun i => by
  rw [State.presence, (restarted_register value hs hj).1]
  exact restartBase_presences s i

theorem restarted_refreshed (h : Listed s) (r : RoomNo) : Refreshed s (restarted value s) r :=
  have ⟨hpool, hoccupancy⟩ := restarted_register value hs hj
  refreshed_of_register hpool hoccupancy (restarted_stays value hs hj).layout.1 (restartBase_refreshed s h r)

theorem restarted_port (l : Link) : (restarted value s).port l =
    { (s.port l).cleared with attention := s.evacuateLine && decide ((s.port l).mask < 7) } := by
  have hports : (restarted value s).ports = (restartBoard value s).ports := (restartReported_followed value hs hj).board.2
  rw [State.port, hports]
  exact restartBoard_port value hs l

theorem restarted_queue (l : Link) : (restarted value s).queue l =
    ⟨if s.evacuateLine then [⟨{ kind := .evacuation, figures := .value 1 }, 7, s.clock⟩] else [], false⟩ := by
  have hnotices : (restarted value s).notices = (restartBoard value s).notices := (restartReported_followed value hs hj).board.1
  rw [State.queue, hnotices]
  exact restartBoard_queue value hs l

theorem restarted_emptied : Emptied s (restarted value s) := by
  have hports : ∀ l, (restarted value s).port l = { s.port l with
      reception := .awaitingStart, inFlight := none, transmit := [], attention := ((restarted value s).port l).attention } :=
    fun l => by rw [restarted_port value hs hj]; rfl
  have hstations : ∀ a, (restarted value s).station a = ⟨.unknown, 0, none, ((restarted value s).station a).mode, none, false⟩ :=
    fun a => by rw [restarted_station value hs hj]
  have hdoors : ∀ r, (restarted value s).door r = ⟨((restarted value s).door r).state, [], none, false, false⟩ :=
    fun r => by rw [restarted_door value hs hj]; rfl
  rw [restarted_eq value hs hj] at hports hstations hdoors ⊢
  exact ⟨rfl, rfl, rfl, fun r => look_fill none r, rfl, ⟨rfl, rfl, rfl⟩, rfl, rfl, hstations, hdoors, hports⟩

theorem restarted_journal : (restarted value s).journal = s.journal ++
    ⟨s.nextSequence, s.clock, { kind := .restart, value := some value }⟩ ::
      (if s.evacuateLine then [⟨s.nextSequence + 1, s.clock, { kind := .evacStart, value := some 1 }⟩] else []) :=
  (restarted_field value hs hj State.journal).trans (List.append_assoc ..)

end

end Sys2Proof.Machine
end

section
/-! The restarts (O56). -/

namespace Sys2Proof.Machine

open Claims

theorem resetLine_restarted {s : State} (hs : s.supply = .normal) (h : Unturned s) (hj : s.journal.length < 500) :
    exec .resetLine s = .next (restarted 0 s) := by
  rw [show exec .resetLine s = .next { takeRestart 0 s with locked := false } from rfl, takeRestart_reported (by omega) hs h hj]
  rfl

theorem LineFollowed.locked {s t : State} (h : LineFollowed s t) : t.locked = s.locked := by
  rw [h.rest]
  rfl

/-- R178: the restart of the request RESTART leaves the configuration lock. -/
theorem takeRestart_restarted {s : State} (hs : s.supply = .normal) (h : Unturned s) (hj : s.journal.length < 500) :
    takeRestart 1 s = restarted 1 s := by
  have hlocked : (takeEvacuation (restartReported 1 s)).locked = s.locked := (restartReported_followed 1 hs hj).locked
  rw [takeRestart_reported (by omega) hs h hj, restarted, ← hlocked]
  rfl

/-- R176, R178: a port of which no more than its frames and its request in flight have changed. -/
def OnlySent (p q : Port) : Prop := q.cleared = { p.cleared with sent := q.sent }

theorem OnlySent.mask {p q : Port} (h : OnlySent p q) : q.mask = p.mask := by
  have hcleared : q.cleared.mask = { p.cleared with sent := q.sent }.mask := congrArg Port.mask h
  exact hcleared

/-- R178, R179: a restart in a part with no turn in progress is that of the part with at most a reply sent. -/
theorem exec_restarted {c : Instr} {value : Nat} {s : State} (hs : s.supply = .normal) (h : Unturned s) (hj : s.journal.length < 500)
    (hc : c = .resetLine ∧ value = 0 ∨ ∃ l, c = .replySent l ∧ value = 1 ∧ RestartReplied l s) :
    ∃ ports, exec c s = .next (restarted value { s with ports := ports }) ∧ ∀ l, OnlySent (s.port l) (side ports l) := by
  rcases hc with ⟨rfl, rfl⟩ | ⟨l, rfl, rfl, hf, r, rest, ht, hr⟩
  · exact ⟨s.ports, resetLine_restarted hs h hj, fun _ => rfl⟩
  · have hsent := sendReply_reframed hr l rest s
    refine ⟨(sendReply l r rest s).ports, ?_, fun k => ?_⟩
    · rw [replySent_restart hs hf ht hr, takeRestart_restarted (s := sendReply l r rest s) hs h hj]
      rfl
    · show OnlySent (s.port k) ((sendReply l r rest s).port k)
      rw [hsent]
      by_cases hk : l = k
      · subst hk
        rw [reframe_port_same]
        rfl
      · rw [reframe_port_other hk]
        rfl

theorem restarted_ports (value : Nat) {s : State} {ports : Both Port} (hs : s.supply = .normal) (hj : s.journal.length < 500)
    (hp : ∀ l, OnlySent (s.port l) (side ports l)) (l : Link) : (restarted value { s with ports := ports }).port l =
      { (s.port l).cleared with
        sent := (side ports l).sent
        attention := s.evacuateLine && decide ((s.port l).mask < 7) } := by
  have hport := restarted_port value (s := { s with ports := ports }) hs hj l
  have hsame : (State.port { s with ports := ports } l).cleared = { (s.port l).cleared with sent := (side ports l).sent } := hp l
  have hmask : (State.port { s with ports := ports } l).mask = (s.port l).mask := (hp l).mask
  rw [hport, hsame, hmask]

/-! ### Ports that the statements about the rest do not read -/

section
variable {s t : State} {ports : Both Port}

theorem stays_of_ports (h : Stays { s with ports := ports } t) : Stays s t := ⟨h.clock, h.layout, h.permits, h.counters, h.rest⟩

theorem followsLine_of_ports {high : Bool} (h : FollowsLine high { s with ports := ports } t) : FollowsLine high s t :=
  ⟨h.state, h.doors, h.modes⟩

theorem refreshed_of_ports {r : RoomNo} (h : Refreshed { s with ports := ports } t r) : Refreshed s t r :=
  ⟨h.list, h.untouched, h.mark, h.nobody, h.same, h.fresh⟩

theorem emptied_of_ports {kept : Both Port} (h : Emptied { s with ports := ports } t) (hp : ∀ l, t.port l = { side kept l with
    reception := .awaitingStart, inFlight := none, transmit := [], attention := (t.port l).attention }) :
    Emptied { s with ports := kept } t :=
  ⟨h.turn, h.lastServed, h.reads, h.holds, h.effects, h.polling, h.sweep, h.walk, h.stations, h.doors, hp⟩

end

end Sys2Proof.Machine

open Sys2Proof Sys2Proof.Machine Sys2Proof.Claims in
/-- Settles O56: with the turn in progress completed, a restart leaves `restarted` in NORMAL and `restartedInBackup` in BACKUP. The
reply to RESTART can be sent before the turn is completed or after, since no turn depends on the framing of a port whose request has
been answered. -/
theorem restartsFollowTheirTable : Obligations.RestartsFollowTheirTable := by
  refine ⟨fun s => ⟨finishTurn_unturned s, ?reset⟩, fun l s hs h => ⟨finishTurn_restartReplied h, replySent_finishTurn hs h⟩,
    fun c value s hs h hj hc => ?normal, fun s hs h => ?backup⟩
  case reset =>
    show Host.Outcome.next { takeRestart 0 s with locked := false } = .next { takeRestart 0 (finishTurn s) with locked := false }
    rw [takeRestart_finishTurn]
  case normal =>
    obtain ⟨ports, hexec, hsent⟩ := exec_restarted hs h hj hc
    have hports := restarted_ports value hs hj hsent
    generalize hu : ({ s with ports := ports } : State) = u at hexec hports
    have hus : u.supply = .normal := by rw [← hu]; exact hs
    have huj : u.journal.length < 500 := by rw [← hu]; exact hj
    have hemptied := restarted_emptied value hus huj
    have hstays := restarted_stays value hus huj
    have hline := restarted_followsLine value hus huj
    obtain ⟨hsupply, hsupplyLine⟩ := restarted_supply value hus huj
    have hpresences := restarted_presences value hus huj
    have hrefreshed := restarted_refreshed value hus huj
    have hqueue := restarted_queue value hus huj
    have hjournal := restarted_journal value hus huj
    have hlocked : (restarted value u).locked = (decide (value = 1) && u.locked) := rfl
    generalize restarted value u = t at *
    subst hu
    refine ⟨t, hexec, emptied_of_ports hemptied fun l => ?_, stays_of_ports hstays, followsLine_of_ports hline, hsupply.trans hs,
      hsupplyLine, hlocked, hpresences, fun hl r => refreshed_of_ports (hrefreshed hl r), hqueue, fun l => ?_, hjournal⟩
    · have hkept : side ⟨{ s.ports.works with sent := t.ports.works.sent }, { s.ports.security with sent := t.ports.security.sent }⟩ l =
          { s.port l with sent := (t.port l).sent } := by cases l <;> rfl
      rw [hkept, hports]
      rfl
    · rw [hports]
  case backup =>
    have hrefreshed : Listed s → ∀ r, Refreshed s (restartedInBackup s) r := fun hl r =>
      refreshed_of_register (t := restartBase s) rfl rfl rfl (restartBase_refreshed s hl r)
    exact ⟨restartedInBackup s, resetLine_inBackup hs h, restartedInBackup_emptied s, restartedInBackup_stays s,
      (restartedInBackup_supply s).trans hs, rfl, rfl, restartedInBackup_journal s,
      fun l => by cases l <;> rfl, fun l => by cases l <;> rfl, restartBase_presences s, hrefreshed,
      fun r => congrArg Door.state (look_fill _ r), fun a => congrArg Station.mode (look_fill _ a), restartedInBackup_evacuation s⟩
end

section
/-! Window evaluation: a minute's slot end (O30), and a permit measured in stages (O31). -/

namespace Sys2Proof.Machine

open Claims

/-! ### Slot ends -/

/-- R60: the weekday of a day number, as section 4.2 names it. -/
theorem toNat_weekday (d : Nat) : (((d : Int) + 6) % 7).toNat = weekdayOf d := by
  unfold weekdayOf
  omega

/-- R60, R69: the weekday of the day before a day, which for day 0 is a Friday. -/
theorem toNat_weekday_before (d : Nat) : (((d : Int) - 1 + 6) % 7).toNat = (weekdayOf d + 6) % 7 := by
  unfold weekdayOf
  omega

section
variable {k : Pattern} {n e : Nat}

/-- R67: a pattern that ends on the day it starts. -/
theorem slotEnd_byDay (h : k.starts < k.ends) : k.slotEnd n = some e ↔
    k.onDay (weekdayOf (n / 1440)) = true ∧ k.starts ≤ n % 1440 ∧ n % 1440 < k.ends ∧ n - n % 1440 + k.ends = e := by
  simp only [Pattern.slotEnd, if_pos h, Option.ite_none_right_eq_some, Option.some.injEq, Bool.and_eq_true, decide_eq_true_eq,
    and_assoc]

/-- R68: a pattern that ends on the next day, on the day on which a period begins. -/
theorem slotEnd_evening (h : k.ends ≤ k.starts) (hm : k.starts ≤ n % 1440) : k.slotEnd n = some e ↔
    k.onDay (weekdayOf (n / 1440)) = true ∧ n - n % 1440 + 1440 + k.ends = e := by
  simp only [Pattern.slotEnd, if_neg (not_lt.mpr h), if_pos hm, Option.ite_none_right_eq_some, Option.some.injEq]

/-- R69: a pattern that ends on the next day, on that next day. -/
theorem slotEnd_morning (h : k.ends ≤ k.starts) (hm : n % 1440 < k.starts) : k.slotEnd n = some e ↔
    k.onDay ((weekdayOf (n / 1440) + 6) % 7) = true ∧ n % 1440 < k.ends ∧ n - n % 1440 + k.ends = e := by
  simp only [Pattern.slotEnd, if_neg (not_lt.mpr h), if_neg (not_le.mpr hm), Option.ite_none_right_eq_some, Option.some.injEq]
  exact and_left_comm

/-- R67 to R69: a slot end lies after its minute. -/
theorem lt_slotEnd (h : k.slotEnd n = some e) : n < e := by
  have hday : n % 1440 < 1440 := Nat.mod_lt _ (by decide)
  rcases Nat.lt_or_ge k.starts k.ends with hk | hk
  · obtain ⟨-, -, hm, he⟩ := (slotEnd_byDay hk).mp h
    omega
  · rcases Nat.lt_or_ge (n % 1440) k.starts with hm | hm
    · obtain ⟨-, hend, he⟩ := (slotEnd_morning hk hm).mp h
      omega
    · obtain ⟨-, he⟩ := (slotEnd_evening hk hm).mp h
      omega

/-- Section 4.2: the period that begins on day `d` contains minute `n` and ends at minute `e`. -/
def PeriodFrom (k : Pattern) (d : Int) (n e : Nat) : Prop :=
  k.weekdays.getLsbD ((d + 6) % 7).toNat = true ∧ d * 1440 + k.starts ≤ n ∧ n < e ∧
    (if k.starts < k.ends then d * 1440 + k.ends else (d + 1) * 1440 + k.ends) = e

theorem exists_period_iff : (∃ d b t, Period k d b t ∧ b ≤ n ∧ (n : Int) < t ∧ t = (e : Int)) ↔ ∃ d, PeriodFrom k d n e := by
  constructor
  · rintro ⟨d, b, t, ⟨hd, rfl, ht⟩, hb, hn, rfl⟩
    exact ⟨d, hd, hb, Int.ofNat_lt.mp hn, ht.symm⟩
  · rintro ⟨d, hd, hb, hn, ht⟩
    exact ⟨d, _, _, ⟨hd, rfl, ht.symm⟩, hb, Int.ofNat_lt.mpr hn, rfl⟩

/-- Section 4.2: a minute is in a period begun on its own day or on the day before, and in the latter case the period ends on the
minute's day. -/
theorem periodFrom_day {d : Int} (hs : k.starts ≤ 1439) (he : k.ends ≤ 1439) (h : PeriodFrom k d n e) :
    (d = (n / 1440 : Nat) ∧ k.starts ≤ n % 1440) ∨ (d = (n / 1440 : Nat) - 1 ∧ k.ends ≤ k.starts ∧ n % 1440 < k.ends) := by
  obtain ⟨-, hb, hn, ht⟩ := h
  split at ht <;> omega

/-- Section 4.2: the period that begins on a minute's own day. -/
theorem periodFrom_today (he : k.ends ≤ 1439) : PeriodFrom k (n / 1440 : Nat) n e ↔
    k.onDay (weekdayOf (n / 1440)) = true ∧ k.starts ≤ n % 1440 ∧
      if k.starts < k.ends then n % 1440 < k.ends ∧ n - n % 1440 + k.ends = e else n - n % 1440 + 1440 + k.ends = e := by
  rw [PeriodFrom, toNat_weekday]
  refine and_congr_right fun _ => ?_
  split <;> omega

/-- Section 4.2: the period that began on the day before a minute's. -/
theorem periodFrom_yesterday (hk : k.ends ≤ k.starts) (hs : k.starts ≤ 1439) : PeriodFrom k ((n / 1440 : Nat) - 1) n e ↔
    k.onDay ((weekdayOf (n / 1440) + 6) % 7) = true ∧ n % 1440 < k.ends ∧ n - n % 1440 + k.ends = e := by
  rw [PeriodFrom, toNat_weekday_before, if_neg (not_lt.mpr hk)]
  refine and_congr_right fun _ => ?_
  omega

/-- Where the day is settled, the period that begins on it decides. -/
theorem exists_periodFrom_iff {day : Int} (h : ∀ d, PeriodFrom k d n e → d = day) :
    (∃ d, PeriodFrom k d n e) ↔ PeriodFrom k day n e :=
  ⟨fun ⟨d, hd⟩ => h d hd ▸ hd, fun hd => ⟨day, hd⟩⟩

end

end Sys2Proof.Machine

open Sys2Proof Sys2Proof.Machine Sys2Proof.Claims in
/-- Settles O30: a pattern that ends on the day it starts is met by the period of the minute's own day; one that ends on the next
day, by that of the same day from its start on, and by that of the day before until its end. -/
theorem slotPatternsArePeriods : Obligations.SlotPatternsArePeriods := by
  intro k n e hs he
  rw [exists_period_iff]
  rcases Nat.lt_or_ge k.starts k.ends with hk | hk
  · have hday : ∀ d, PeriodFrom k d n e → d = (n / 1440 : Nat) := fun d h =>
      (periodFrom_day hs he h).elim And.left fun ⟨_, hover, _⟩ => absurd hk (not_lt.mpr hover)
    rw [slotEnd_byDay hk, exists_periodFrom_iff hday, periodFrom_today he, if_pos hk]
  · rcases Nat.lt_or_ge (n % 1440) k.starts with hm | hm
    · have hday : ∀ d, PeriodFrom k d n e → d = (n / 1440 : Nat) - 1 := fun d h =>
        (periodFrom_day hs he h).elim (fun ⟨_, hstart⟩ => absurd hm (not_lt.mpr hstart)) And.left
      rw [slotEnd_morning hk hm, exists_periodFrom_iff hday, periodFrom_yesterday hk hs]
    · have hday : ∀ d, PeriodFrom k d n e → d = (n / 1440 : Nat) := fun d h =>
        (periodFrom_day hs he h).elim And.left fun ⟨_, _, hend⟩ => absurd (hk.trans hm) (not_le.mpr hend)
      rw [slotEnd_evening hk hm, exists_periodFrom_iff hday, periodFrom_today he, if_neg (not_lt.mpr hk), and_iff_right hm]

namespace Sys2Proof.Machine

open Claims

/-! ### The stages -/

section
variable {s : State} {p : Permit} {r : RoomNo} {n e : Nat} {purpose : Purpose}

/-- R64: stage 1. -/
theorem evaluate_refused {why : Reason} (h : p.standing.refusal = some why) : evaluate s p r n purpose = .fails why 1 := by
  simp only [evaluate, h]

theorem refusal_live (h : Live p) : p.standing.refusal = none := by
  rcases h with h | h <;> rw [h] <;> rfl

theorem refusal_held (h : Held p.standing = true) : p.standing.refusal = some .suspended := by
  revert h
  cases p.standing with
  | suspended => exact fun _ => rfl
  | pending | active | provisional | ended => exact nofun

theorem refusal_terminal (h : Terminal p.standing = true) : p.standing.refusal = some .noPermit := by
  revert h
  cases p.standing with
  | ended => exact fun _ => rfl
  | pending | active | provisional | suspended => exact nofun

/-- R65: stage 2. -/
theorem evaluate_otherRoom (hl : Live p) (hr : r ∉ p.rooms) : evaluate s p r n purpose = .fails .notThisRoom 2 := by
  simp only [evaluate, refusal_live hl, if_pos hr]

/-- R66: stage 3, before the span. -/
theorem evaluate_early (hl : Live p) (hr : r ∈ p.rooms) (hn : n < p.spanStart) : evaluate s p r n purpose = .fails .notYet 3 := by
  simp only [evaluate, refusal_live hl, if_neg (not_not_intro hr), if_pos hn]

/-- R66: stage 3, past the validity end. -/
theorem evaluate_over (hl : Live p) (hr : r ∈ p.rooms) (hn : p.spanStart ≤ n) (he : p.validityEnd ≤ n) :
    evaluate s p r n purpose = .fails .over 3 := by
  simp only [evaluate, refusal_live hl, if_neg (not_not_intro hr), if_neg (not_lt.mpr hn), if_pos he]

/-- R66 to R71: stages 4 and 5 and the pass, within the span. -/
theorem evaluate_within (hl : Live p) (hr : r ∈ p.rooms) (hn : p.spanStart ≤ n) (he : n < p.validityEnd) :
    evaluate s p r n purpose =
      if p.pattern.map (·.slotEnd n) = some none then .fails .outOfSlot 4
      else if purpose = .entry ∧ frozenFor s p r n = true then .fails .frozen 5
      else .passes p.validityEnd (minutesRemaining p.validityEnd n (p.pattern.map (·.slotEnd n)).join) := by
  simp only [evaluate, refusal_live hl, if_neg (not_not_intro hr), if_neg (not_lt.mpr hn), if_neg (not_le.mpr he)]

/-- R66: the validity end. -/
theorem validityEnd_eq (h : ValidUntil p e) : p.validityEnd = e := by
  unfold ValidUntil at h
  split at h
  · next hx =>
    obtain ⟨g, hg, rfl⟩ := h
    simp only [Permit.validityEnd, hx, hg]
  · next hx =>
    unfold Permit.validityEnd
    split
    · next hy _ => exact absurd hy hx
    · exact h.symm

/-- R70: what stage 5 bars. -/
theorem frozenFor_iff : frozenFor s p r n = true ↔
    p.urgent = false ∧ ∃ c, s.room r = some c ∧ frozen s c.roomClass n = true := by
  simp only [frozenFor, Bool.and_eq_true, Bool.not_eq_true', Option.any_eq_true]

theorem slot_ne_none_iff : p.pattern.map (·.slotEnd n) ≠ some none ↔ ∀ k, p.pattern = some k → k.slotEnd n ≠ none := by
  cases p.pattern <;> simp

/-- R71: a pass leaves at least a minute. -/
theorem one_le_minutesRemaining (he : n < e) : 1 ≤ minutesRemaining e n (p.pattern.map (·.slotEnd n)).join := by
  unfold minutesRemaining Config.maxRemaining
  split
  · omega
  · next t ht =>
    obtain ⟨k, -, hk⟩ := Option.map_eq_some_iff.mp (Option.join_eq_some_iff.mp ht)
    have hlt := lt_slotEnd hk
    omega

end

end Sys2Proof.Machine

open Sys2Proof Sys2Proof.Machine Sys2Proof.Claims in
/-- Settles O31: the stages one by one, and within the span `evaluate_within` for the rest. -/
theorem permitIsMeasuredInStages : Obligations.PermitIsMeasuredInStages := by
  intro s p r n e purpose
  refine ⟨fun h => evaluate_refused (by rw [h]; rfl), fun h => evaluate_refused (refusal_held h),
    fun h => evaluate_refused (refusal_terminal h), evaluate_otherRoom, evaluate_early, fun hl hr hn hv => ?_⟩
  obtain rfl := validityEnd_eq hv
  refine ⟨evaluate_over hl hr hn, fun k he hk hslot => ?slot, fun he hslot => ⟨fun hp hbar => ?frozen, fun hpass => ?passes⟩⟩
  case slot =>
    rw [evaluate_within hl hr hn he, if_pos (by rw [hk, Option.map_some, hslot])]
  case frozen =>
    rw [evaluate_within hl hr hn he, if_neg (slot_ne_none_iff.mpr hslot), if_pos ⟨hp, frozenFor_iff.mpr hbar⟩]
  case passes =>
    have hfree : ¬ (purpose = .entry ∧ frozenFor s p r n = true) := by
      rintro ⟨rfl, hfrozen⟩
      exact hpass.elim nofun fun h => h (frozenFor_iff.mp hfrozen)
    refine ⟨_, by rw [evaluate_within hl hr hn he, if_neg (slot_ne_none_iff.mpr hslot), if_neg hfree], one_le_minutesRemaining he,
      fun hk => ?_, fun k t hk ht => ?_⟩
    · rw [hk]
      rfl
    · rw [hk, Option.map_some, ht]
      rfl
end

section
/-! The sweep's step on a pool record, and the sweep's completion (O48). -/

namespace Sys2Proof.Machine

open Claims

/-! ### The sweep's end -/

/-- R143: REVIEW posted where the sweep was full. -/
def reviewed (full : Bool) (s : State) : State := if full then postReview s else s

theorem reviewed_kept (full : Bool) (s : State) : Kept s (reviewed full s) := by
  unfold reviewed
  split
  · exact post_kept ..
  · exact .refl s

/-- R138, R143: the sweep's completion, after a step that leaves the sweep and the clock as they were. -/
theorem completeSweep_eq {s t : State} (h : Kept s t) (full : Bool) : completeSweep full t =
    { reviewed full t with
      sweep := if s.sweep.pending then ⟨some ⟨.permits 0, s.clock.abs, s.sweep.pendingFull⟩, false, false, s.sweep.overruns⟩
        else { s.sweep with run := none } } := by
  have hkept := h.trans (reviewed_kept full t)
  rw [← hkept.sweep, ← hkept.clock]
  show (if (reviewed full t).sweep.pending then _ else _) = _
  split <;> rfl

/-- R138: a sweep's turn on a pool record is the step, and the cursor goes on or the sweep is completed. -/
theorem exec_sweepPresenceStep {i : PoolIx} {m : Nat} {full : Bool} {s : State} (h : Sweeping (.presences i) m full s) :
    exec .sweepPresenceStep s = .next (endTurn (if i.val < 127 then sweepAt (.presences (i + 1)) m full (presenceStep i m s)
      else completeSweep full (presenceStep i m s))) := by
  obtain ⟨hrun, hturn⟩ := h
  have hhas : sweepHasTurn s = true := beq_iff_eq.mpr hturn
  show execSweepPresenceStep s = _
  simp only [execSweepPresenceStep, serveSweepStep, advanceSweep, hrun, hhas, if_true]
  rfl

theorem presenceStep_free {i : PoolIx} {m : Nat} {s : State} (h : s.presence i = none) : presenceStep i m s = s := by
  simp only [presenceStep, h]

theorem presenceStep_some {i : PoolIx} {m : Nat} {p : Presence} {s : State} (h : s.presence i = some p) :
    presenceStep i m s = loneStep i p m (overstayStep i p m s) := by
  simp only [presenceStep, h]

/-! ### The overstay part -/

section
variable {i : PoolIx} {m : Nat} {p : Presence} {s : State}

/-- R141: a presence found beyond its permit is marked, and its overstay is noticed, recorded and counted. -/
theorem markOverstay_eq (why : Reason) : markOverstay i p why s =
    judged .overstay
      { kind := .overstay, room := some p.room, badge := some p.badge, permit := permitNumber s p.slot, figures := .value why.code }
      { kind := .overstay, room := some p.room, badge := some p.badge, permit := permitNumber s p.slot, outcome := some (.reason why) }
      p.room (s.setPresence i (some { p with overstay := true })) := rfl

/-- R141: a presence on its way is passed over. -/
theorem overstayStep_onWay (h : p.state = .arriving ∨ p.state = .leaving) : overstayStep i p m s = s := by
  rcases h with h | h <;> simp only [overstayStep, h]

/-- R141: a presence in its room whose permit passes has its mark cleared. -/
theorem overstayStep_passes {e k : Nat} (h : p.state = .inside ∨ p.state = .unverified) (hv : overstayVerdict s p m = .passes e k) :
    overstayStep i p m s = if p.overstay then s.setPresence i (some { p with overstay := false }) else s := by
  rcases h with h | h <;> cases ho : p.overstay <;> simp [overstayStep, h, hv, ho]

/-- R141: a presence in its room whose permit fails is marked unless it was. -/
theorem overstayStep_fails {why : Reason} {stage : Nat} (h : p.state = .inside ∨ p.state = .unverified)
    (hv : overstayVerdict s p m = .fails why stage) : overstayStep i p m s = if p.overstay then s else markOverstay i p why s := by
  rcases h with h | h <;> cases ho : p.overstay <;> simp [overstayStep, h, hv, ho]

theorem onWay_or_inRoom (x : PresenceState) : (x = .arriving ∨ x = .leaving) ∨ (x = .inside ∨ x = .unverified) := by
  cases x <;> decide

/-- R141: what the overstay part can do: nothing, a mark set and reported, or a mark cleared. -/
theorem overstayStep_cases : overstayStep i p m s = s ∨ (∃ why, overstayStep i p m s = markOverstay i p why s) ∨
    overstayStep i p m s = s.setPresence i (some { p with overstay := false }) := by
  rcases onWay_or_inRoom p.state with h | h
  · exact .inl (overstayStep_onWay h)
  · cases hv : overstayVerdict s p m with
    | fails why stage =>
      rw [overstayStep_fails h hv]
      split
      · exact .inl rfl
      · exact .inr (.inl ⟨why, rfl⟩)
    | passes e k =>
      rw [overstayStep_passes h hv]
      split
      · exact .inr (.inr rfl)
      · exact .inl rfl

theorem overstayStep_kept : Kept s (overstayStep i p m s) := by
  obtain h | ⟨why, h⟩ | h := overstayStep_cases (i := i) (m := m) (p := p) (s := s) <;> rw [h]
  · exact .refl s
  · exact (setPresence_kept ..).trans (judged_kept ..)
  · exact setPresence_kept ..

theorem overstayStep_roomState (r : RoomNo) : (overstayStep i p m s).roomState r = s.roomState r := by
  obtain h | ⟨why, h⟩ | h := overstayStep_cases (i := i) (m := m) (p := p) (s := s) <;> rw [h]
  · rw [markOverstay_eq, judged_frame]
    rfl
  · rfl

/-- R73: the verdict on a presence is that on the permit in its slot. -/
theorem overstayVerdict_eq {q : Permit} (hq : s.permit p.slot = some q) :
    overstayVerdict s p m = evaluate s q p.room m .overstay := by
  simp only [overstayVerdict, permitOf, hq]

/-! ### The lone part -/

/-- R107, R142: a lone period that has reached the limit and is not reported yet. -/
theorem loneStep_due {since : Nat} (h : (s.roomState p.room).lone = some ⟨i, since, false⟩) (hm : since + s.timings.lone ≤ m) :
    loneStep i p m s = State.setRoomState
      (writeJournal { kind := .lone, room := some p.room, badge := some p.badge, value := some (m - since) }
        (post { kind := .loneWorker, room := some p.room, badge := some p.badge, figures := .value (m - since) } s))
      p.room { s.roomState p.room with lone := some ⟨i, since, true⟩ } := by
  simp only [loneStep, h, writeJournal_roomState, post_roomState]
  exact if_pos ⟨trivial, trivial, hm⟩

/-- R107, R142: no lone period of the presence is due. -/
theorem loneStep_notDue (h : ∀ since, (s.roomState p.room).lone = some ⟨i, since, false⟩ → m < since + s.timings.lone) :
    loneStep i p m s = s := by
  unfold loneStep
  dsimp only
  split
  · rfl
  · next k hk =>
    refine if_neg ?_
    rintro ⟨rfl, hreported, hm⟩
    exact absurd (h k.since (by rw [hk, ← hreported])) (not_lt.mpr hm)

theorem loneStep_kept : Kept s (loneStep i p m s) := by
  unfold loneStep
  dsimp only
  split
  · exact .refl s
  · split
    · exact ((post_kept ..).trans (writeJournal_kept ..)).trans (setRoomState_kept ..)
    · exact .refl s

end

end Sys2Proof.Machine

open Sys2Proof Sys2Proof.Machine Sys2Proof.Claims in
/-- Settles O48: the overstay part and then the lone part, which reads nothing that the first changes; neither touches the sweep or
the clock, so that the completion is judged by the state before the step. -/
theorem sweepStepsOverPresences : Obligations.SweepStepsOverPresences := by
  intro i m full s h completed goes
  have hgoes : ∀ t, Kept s t → presenceStep i m s = t → goes t := fun t hkept ht => by
    have hcompleted : completeSweep full t = completed t := completeSweep_eq hkept full
    show exec .sweepPresenceStep s = _
    rw [exec_sweepPresenceStep h, ht, hcompleted]
  refine ⟨fun hp => hgoes s (.refl s) (presenceStep_free hp), fun p hp => ?_⟩
  have hkept : Kept s (overstayStep i p m s) := overstayStep_kept
  have hroom : (overstayStep i p m s).roomState p.room = s.roomState p.room := overstayStep_roomState p.room
  refine ⟨overstayStep i p m s, loneStep i p m (overstayStep i p m s), hgoes _ (hkept.trans loneStep_kept) (presenceStep_some hp),
    overstayStep_onWay, fun q hin hq => ⟨fun e k hpass => ?passes, fun why stage hfail => ?fails⟩, fun since hlone hm => ?due,
    fun hnone => ?notDue⟩
  case passes =>
    exact overstayStep_passes hin ((overstayVerdict_eq hq).trans hpass)
  case fails =>
    have hstep := overstayStep_fails (i := i) hin ((overstayVerdict_eq hq).trans hfail)
    have hnumber : permitNumber s p.slot = some q.number := by rw [permitNumber, hq, Option.map_some]
    rw [markOverstay_eq, hnumber] at hstep
    exact ⟨fun hmark => by rw [hstep, if_pos hmark], fun hmark => by rw [hstep, hmark]; rfl⟩
  case due =>
    rw [← hroom] at hlone ⊢
    rw [← hkept.timings] at hm
    exact loneStep_due hlone hm
  case notDue =>
    rw [← hroom, ← hkept.timings] at hnone
    exact loneStep_notDue hnone
end

section
/-! An entry read as it is decided (O32): how a decision ends, the permit chosen or furthest at step 4, and the first of steps 1 to 4
that bars it. -/

namespace Sys2Proof.Machine

open Claims

/-! ### A decision in its turn -/

/-- R120: the read at a polled address is answered, or cleared where that was asked meanwhile. -/
theorem endRead_polled {a : LoopAddr} {s : State} (h : mapOutcome s a ≠ .unpolled) (drop : Bool) :
    endTurn (endRead a drop s) = decisionEnds a drop s := by
  have hpolled : (mapOutcome s a).isPolled = true := (isPolled_iff s a).mpr h
  cases drop <;> simp only [endRead, hpolled, decisionEnds] <;> rfl

/-- R75: the read at an address no longer polled is dropped. -/
theorem endRead_unpolled {a : LoopAddr} {s : State} (h : mapOutcome s a = .unpolled) (drop : Bool) :
    endRead a drop s = s.setStation a { s.station a with read := none } := by
  simp only [endRead, h, MapOutcome.isPolled, Bool.not_false, Bool.or_true, if_true]

section
variable {a : LoopAddr} {badge : Nat} {drop : Bool} {began : CivilTime} {s : State}

theorem exec_entryDecision (h : EntryRead a badge drop began s) :
    exec .entryDecision s = .next (endTurn (endRead a drop (decideEntry a badge s))) := by
  show execEntryDecision s = _
  simp only [execEntryDecision, h.2, serveDecision, h.1, if_true]

theorem entryDecision_answers {t : State} (h : EntryRead a badge drop began s) (hp : mapOutcome s a ≠ .unpolled)
    (ht : decideEntry a badge s = t) : exec .entryDecision s = .next (decisionEnds a drop t) := by
  have hpolled : mapOutcome (decideEntry a badge s) a ≠ .unpolled := by rwa [mapOutcome_kept (decideEntry_kept a badge s)]
  rw [exec_entryDecision h, endRead_polled hpolled, ht]

theorem mapped_polled {r : RoomNo} {k : Bool} (h : mapOutcome s a = .mapped r k) : mapOutcome s a ≠ .unpolled := by
  rw [h]
  exact nofun

theorem turnMinute_began {u : TurnUser} (h : s.turn = some ⟨u, began⟩) : turnMinute s = began.abs := by
  simp only [turnMinute, h]

end

/-! ### The best of a list -/

/-- What a search leaves that keeps the first of the highest key among what `f` makes of a list's entries. -/
def firstBest {α β : Type} (f : α → Option β) (key : β → Nat) : List α → Option β → Option β
  | [], best => best
  | x :: xs, best =>
    match f x with
    | none => firstBest f key xs best
    | some y => firstBest f key xs (if best.any fun b => decide (key y ≤ key b) then best else some y)

section
variable {α β : Type} {f : α → Option β} {key : β → Nat}

theorem firstBest_append (xs ys : List α) (best : Option β) :
    firstBest f key (xs ++ ys) best = firstBest f key ys (firstBest f key xs best) := by
  induction xs generalizing best with
  | nil => rfl
  | cons x xs ih =>
    rw [List.cons_append, firstBest, firstBest]
    split <;> exact ih _

theorem firstBest_lower {k : Nat} (xs : List α) {best : Option β} (hbest : ∀ b ∈ best, key b < k)
    (h : ∀ x ∈ xs, ∀ y, f x = some y → key y < k) : ∀ b ∈ firstBest f key xs best, key b < k := by
  induction xs generalizing best with
  | nil => exact hbest
  | cons x xs ih =>
    have hrest := fun z hz => h z (List.mem_cons_of_mem x hz)
    rw [firstBest]
    split
    · exact ih hbest hrest
    · next y hy =>
      refine ih ?_ hrest
      split
      · exact hbest
      · intro b hb
        obtain rfl := Option.some.inj hb
        exact h x List.mem_cons_self _ hy

theorem firstBest_keeps {b : β} (xs : List α) (h : ∀ x ∈ xs, ∀ y, f x = some y → key y ≤ key b) :
    firstBest f key xs (some b) = some b := by
  induction xs with
  | nil => rfl
  | cons x xs ih =>
    have hrest := ih fun z hz => h z (List.mem_cons_of_mem x hz)
    rw [firstBest]
    split
    · exact hrest
    · next y hy =>
      rw [if_pos (by simpa using h x List.mem_cons_self y hy)]
      exact hrest

/-- The first of the highest key: those before it have lower keys, those after it none higher. -/
theorem firstBest_eq {xs ys : List α} {x : α} {y : β} (hx : f x = some y) (hbefore : ∀ z ∈ xs, ∀ w, f z = some w → key w < key y)
    (hafter : ∀ z ∈ ys, ∀ w, f z = some w → key w ≤ key y) : firstBest f key (xs ++ x :: ys) none = some y := by
  have hlower := firstBest_lower xs (best := none) nofun hbefore
  rw [firstBest_append, firstBest, hx]
  refine (congrArg _ (if_neg ?_)).trans (firstBest_keeps ys hafter)
  rw [Option.any_eq_true]
  rintro ⟨b, hb, hle⟩
  exact absurd (hlower b hb) (not_lt.mpr (of_decide_eq_true hle))

theorem firstBest_none (xs : List α) (h : ∀ x ∈ xs, f x = none) : firstBest f key xs none = none := by
  induction xs with
  | nil => rfl
  | cons x xs ih =>
    rw [firstBest, h x List.mem_cons_self]
    exact ih fun z hz => h z (List.mem_cons_of_mem x hz)

end

/-! ### Step 4 -/

/-- R78: what a candidate that passes is chosen as. -/
def eligible (s : State) (r : RoomNo) (n : Nat) (x : SlotNo × Permit) : Option Chosen :=
  match evaluate s x.2 r n .entry with
  | .passes e m => some ⟨x.1, x.2.role, x.2.escort, e, m⟩
  | .fails _ _ => none

/-- R79: how a candidate fails. -/
def failing (s : State) (r : RoomNo) (n : Nat) (x : SlotNo × Permit) : Option (Reason × Nat × Nat) :=
  match evaluate s x.2 r n .entry with
  | .fails why stage => some (why, stage, x.2.number)
  | .passes _ _ => none

section
variable {s : State} {r : RoomNo} {n badge : Nat}

theorem choose_firstBest (s : State) (r : RoomNo) (n : Nat) (cs : List (SlotNo × Permit)) (best : Option Chosen) :
    choose s r n cs best = firstBest (eligible s r n) Chosen.validityEnd cs best := by
  induction cs generalizing best with
  | nil => rfl
  | cons x cs ih =>
    rw [choose, firstBest, eligible]
    cases evaluate s x.2 r n .entry with
    | fails why stage => exact ih best
    | passes e m =>
      dsimp only
      split
      · exact ih best
      · exact ih _

theorem furthest_firstBest (s : State) (r : RoomNo) (n : Nat) (cs : List (SlotNo × Permit)) (best : Option (Reason × Nat × Nat)) :
    furthest s r n cs best = firstBest (failing s r n) (fun x => x.2.1) cs best := by
  induction cs generalizing best with
  | nil => rfl
  | cons x cs ih =>
    rw [furthest, firstBest, failing]
    cases evaluate s x.2 r n .entry with
    | passes e m => exact ih best
    | fails why stage =>
      dsimp only
      split
      · exact ih best
      · exact ih _

theorem eligible_some {x : SlotNo × Permit} {c : Chosen} (h : eligible s r n x = some c) :
    evaluate s x.2 r n .entry = .passes c.validityEnd c.minutes := by
  revert h
  unfold eligible
  split
  · next he =>
    intro h
    obtain rfl := Option.some.inj h
    exact he
  · exact nofun

theorem failing_some {x : SlotNo × Permit} {why : Reason} {stage number : Nat} (h : failing s r n x = some (why, stage, number)) :
    evaluate s x.2 r n .entry = .fails why stage := by
  revert h
  unfold failing
  split
  · next he =>
    intro h
    obtain ⟨rfl, rfl, rfl⟩ : _ ∧ _ ∧ _ := by simpa using h
    exact he
  · exact nofun

theorem mem_candidates {i : SlotNo} {p : Permit} : (i, p) ∈ candidates s badge ↔ s.permit i = some p ∧ p.badge = badge := by
  refine ⟨candidates_badge, fun ⟨hp, hb⟩ => List.mem_filterMap.mpr ⟨i, List.mem_finRange i, ?_⟩⟩
  rw [hp, Option.filter_some_pos (by simpa using hb)]
  rfl

/-- R78: the candidates stand in ascending order of slots. -/
theorem candidates_ascend (s : State) (badge : Nat) : (candidates s badge).Pairwise fun x y => x.1 < y.1 := by
  refine List.Pairwise.filterMap _ (fun i j hij x hx y hy => ?_) (List.pairwise_lt_finRange 256)
  obtain ⟨p, -, rfl⟩ := Option.map_eq_some_iff.mp hx
  obtain ⟨q, -, rfl⟩ := Option.map_eq_some_iff.mp hy
  exact hij

/-- R78: a candidate parts those in lower slots from those in higher. -/
theorem candidates_split {i : SlotNo} {p : Permit} (hp : s.permit i = some p) (hb : p.badge = badge) :
    ∃ xs ys, candidates s badge = xs ++ (i, p) :: ys ∧ (∀ x ∈ xs, x.1 < i) ∧ ∀ x ∈ xs ++ ys, s.permit x.1 = some x.2 ∧ x.2.badge = badge := by
  obtain ⟨xs, ys, h⟩ := List.append_of_mem (mem_candidates.mpr ⟨hp, hb⟩)
  have hsorted := candidates_ascend s badge
  rw [h, List.pairwise_append] at hsorted
  refine ⟨xs, ys, h, fun x hx => hsorted.2.2 x hx _ List.mem_cons_self, fun x hx => candidates_badge ?_⟩
  rw [h]
  simp only [List.mem_append, List.mem_cons] at hx ⊢
  exact hx.imp_right .inr

/-- R78: the permit chosen. -/
theorem choose_chosen {c : Chosen} (h : Chooses s r n badge c) : choose s r n (candidates s badge) none = some c := by
  obtain ⟨p, hp, hb, hrole, hescort, heval⟩ := h.slot
  obtain ⟨xs, ys, hsplit, hlow, hall⟩ := candidates_split hp hb
  have hlatest : ∀ x ∈ xs ++ ys, ∀ w, eligible s r n x = some w →
      w.validityEnd < c.validityEnd ∨ (w.validityEnd = c.validityEnd ∧ c.slot ≤ x.1) :=
    fun x hx w hw => h.latest x.1 x.2 _ _ (hall x hx).1 (hall x hx).2 (eligible_some hw)
  rw [choose_firstBest, hsplit]
  refine firstBest_eq (by simp only [eligible, heval, ← hrole, ← hescort]) (fun x hx w hw => ?_) (fun x hx w hw => ?_)
  · exact (hlatest x (List.mem_append_left _ hx) w hw).resolve_right fun hslot => absurd (hlow x hx) (not_lt.mpr hslot.2)
  · exact (hlatest x (List.mem_append_right _ hx) w hw).elim le_of_lt fun hslot => le_of_eq hslot.1

/-- R79: no permit is chosen where each candidate fails. -/
theorem choose_none (h : ∀ j q, s.permit j = some q → q.badge = badge → ∃ why stage, evaluate s q r n .entry = .fails why stage) :
    choose s r n (candidates s badge) none = none := by
  rw [choose_firstBest]
  refine firstBest_none _ fun x hx => ?_
  obtain ⟨why, stage, he⟩ := h x.1 x.2 (candidates_badge hx).1 (candidates_badge hx).2
  simp only [eligible, he]

/-- R79: the furthest candidate. -/
theorem furthest_found {i : SlotNo} {p : Permit} {why : Reason} {stage : Nat} (h : Furthest s r n badge i p why stage) :
    furthest s r n (candidates s badge) none = some (why, stage, p.number) := by
  obtain ⟨hp, hb, heval⟩ := h.slot
  obtain ⟨xs, ys, hsplit, hlow, hall⟩ := candidates_split hp hb
  have hfurthest : ∀ x ∈ xs ++ ys, ∀ w, failing s r n x = some w → w.2.1 < stage ∨ (w.2.1 = stage ∧ i ≤ x.1) := by
    intro x hx w hw
    obtain ⟨why', stage', he, hstage⟩ := h.furthest x.1 x.2 (hall x hx).1 (hall x hx).2
    obtain ⟨-, rfl⟩ : _ ∧ _ := by simpa using he.symm.trans (failing_some hw)
    exact hstage
  rw [furthest_firstBest, hsplit]
  refine firstBest_eq (by simp only [failing, heval]) (fun x hx w hw => ?_) (fun x hx w hw => ?_)
  · exact (hfurthest x (List.mem_append_left _ hx) w hw).resolve_right fun hslot => absurd (hlow x hx) (not_lt.mpr hslot.2)
  · exact (hfurthest x (List.mem_append_right _ hx) w hw).elim le_of_lt fun hslot => le_of_eq hslot.1

end

section
variable {a : LoopAddr} {r : RoomNo} {n badge : Nat} {go : Chosen → State → State} {s : State}

theorem withPermit_chosen {c : Chosen} (hn : turnMinute s = n) (h : Chooses s r n badge c) : withPermit a r badge go s = go c s := by
  simp only [withPermit, hn, choose_chosen h]

theorem withPermit_furthest {i : SlotNo} {p : Permit} {why : Reason} {stage : Nat} (hn : turnMinute s = n)
    (h : Furthest s r n badge i p why stage) : withPermit a r badge go s = refused a (some r) badge why (some p.number) s := by
  have hnone := choose_none (s := s) (r := r) (n := n) fun j q hq hb => (h.furthest j q hq hb).imp fun _ ⟨stage', he, _⟩ => ⟨stage', he⟩
  simp only [withPermit, hn, hnone, furthest_found h]
  rfl

theorem withPermit_noPermit (h : ∀ i p, s.permit i = some p → p.badge ≠ badge) :
    withPermit a r badge go s = refused a (some r) badge .noPermit none s := by
  have hnil : candidates s badge = [] := List.eq_nil_iff_forall_not_mem.mpr fun x hx => h x.1 x.2 (candidates_badge hx).1 (candidates_badge hx).2
  simp only [withPermit, hnil]
  rfl

end

/-! ### The first bar -/

section
variable {a : LoopAddr} {r : RoomNo} {badge : Nat} {s : State}

/-- R77, R78: a read let through, at a room where no hold is open. -/
theorem decideEntry_open (h : Admissible a r s) (hh : s.hold r = none) : decideEntry a badge s = decideOpen a r badge s := by
  simp only [decideEntry, h.1, h.2.1, h.2.2, hh, Bool.false_eq_true, if_false]

/-- R77, R87: a read let through, at a room where a hold is open. -/
theorem decideEntry_held {x : Hold} (h : Admissible a r s) (hh : s.hold r = some x) :
    decideEntry a badge s = decidePartner a r x badge s := by
  simp only [decideEntry, h.1, h.2.1, h.2.2, hh, Bool.false_eq_true, if_false]

/-- R87: a badge with no presence in the room. -/
theorem presenceIn_none (h : ∀ p ∈ roomPresences s r, p.badge ≠ badge) : presenceIn s r badge = none :=
  List.findSome?_eq_none_iff.mpr fun p hp => if_neg (h p hp)

/-- R87: a badge with its one presence in the room. -/
theorem presenceIn_some {i : PoolIx} {p : Presence} (h : Present s badge i p) (hi : i ∈ (s.roomState r).list) :
    presenceIn s r badge = some p.state := by
  obtain ⟨hp, hb, hone⟩ := h
  have hall : ∀ q ∈ roomPresences s r, q.badge = badge → q = p := fun q hq hqb => by
    obtain ⟨j, -, hj⟩ := List.mem_filterMap.mp hq
    rw [hone j q hj hqb, hp] at hj
    exact (Option.some.inj hj).symm
  have hmem : p ∈ roomPresences s r := List.mem_filterMap.mpr ⟨i, hi, hp⟩
  unfold presenceIn
  cases hfind : (roomPresences s r).findSome? fun q => if q.badge = badge then some q.state else none with
  | none => exact absurd (List.findSome?_eq_none_iff.mp hfind p hmem) (by simp [hb])
  | some x =>
    obtain ⟨q, hq, hx⟩ := List.exists_of_findSome?_eq_some hfind
    split at hx
    · next hqb => rw [← hx, hall q hq hqb]
    · cases hx

/-- R87, R88: a badge that is not in the room, at a room where a hold is open. -/
theorem decidePartner_stranger {x : Hold} (hb : x.badge ≠ badge) (h : ∀ p ∈ roomPresences s r, p.badge ≠ badge) :
    decidePartner a r x badge s = withPermit a r badge (fun c s =>
      passback a r badge (fun _ _ s => deny a (some r) badge .passback none s) (testPair a r x badge c) s) s := by
  simp only [decidePartner, if_neg hb, presenceIn_none h]

/-- R81, R87: a badge ARRIVING in the room, at a room where a hold is open. -/
theorem decidePartner_arriving {x : Hold} {i : PoolIx} {p : Presence} (hb : x.badge ≠ badge) (h : Present s badge i p)
    (hi : i ∈ (s.roomState r).list) (hx : p.state = .arriving) :
    decidePartner a r x badge s = withPermit a r badge (fun c s => repeatArriving a r c s) s := by
  simp only [decidePartner, if_neg hb, presenceIn_some h hi, hx]

/-- R78, R87: step 4 is reached where no hold is open at the room, and by a badge that is not present in it or ARRIVING there. -/
theorem decideEntry_reachesStep4 (h : Admissible a r s) (hw : Weighed s r badge ∨ WeighedArriving s r badge) :
    ∃ go, decideEntry a badge s = withPermit a r badge go s := by
  cases hh : s.hold r with
  | none => exact ⟨_, decideEntry_open h hh⟩
  | some x =>
    rw [decideEntry_held h hh]
    rcases hw with hw | ⟨hb, i, p, hp, hpb, -, hx, hi, hone⟩
    · exact ⟨_, decidePartner_stranger (hw x hh).1 (hw x hh).2⟩
    · exact ⟨_, decidePartner_arriving (hb x hh) ⟨hp, hpb, hone⟩ hi hx⟩

end

end Sys2Proof.Machine

open Sys2Proof Sys2Proof.Machine Sys2Proof.Claims in
/-- Settles O32: each of steps 1 to 3 in its turn, and step 4 by the candidates' search, wherever it is reached. -/
theorem entryIsRefusedByItsFirstBar : Obligations.EntryIsRefusedByItsFirstBar := by
  intro a badge drop began s h refuses
  have hrefuses : ∀ {room why number}, mapOutcome s a ≠ .unpolled → decideEntry a badge s = refused a room badge why number s →
      refuses room why number := fun hp ht => entryDecision_answers h hp ht
  refine ⟨fun hmap => ?unpolled, fun hmap => ?conflict, fun r => ⟨fun hmap => ?unmapped, fun hmap hclock => ?clock,
    fun hmap hclock hevac => ?evacuation, fun hadm hw => ?permits⟩⟩
  case unpolled =>
    have hkept : decideEntry a badge s = s := by simp only [decideEntry, hmap]
    rw [exec_entryDecision h, hkept, endRead_unpolled hmap]
  case conflict => exact hrefuses (by rw [hmap]; exact nofun) (by simp only [decideEntry, hmap]; rfl)
  case unmapped => exact hrefuses (mapped_polled hmap) (by simp only [decideEntry, hmap]; rfl)
  case clock => exact hrefuses (mapped_polled hmap) (by simp only [decideEntry, hmap, hclock, if_true]; rfl)
  case evacuation =>
    exact hrefuses (mapped_polled hmap) (by simp only [decideEntry, hmap, hclock, hevac, Bool.false_eq_true, if_false, if_true]; rfl)
  case permits =>
    obtain ⟨go, hgo⟩ := decideEntry_reachesStep4 hadm hw
    have hpolled := mapped_polled hadm.1
    exact ⟨fun hnone => hrefuses hpolled (hgo.trans (withPermit_noPermit hnone)),
      fun i p why stage hf => hrefuses hpolled (hgo.trans (withPermit_furthest (turnMinute_began h.2) hf))⟩
end

section
/-! Step 5 of an entry read (O33, O34): the badge's presence and where it waits, and what an UNVERIFIED presence elsewhere leaves. -/

namespace Sys2Proof.Machine

open Claims

/-! ### The badge's presence -/

section
variable {s : State} {badge : Nat}

theorem findBadge_present {i : PoolIx} {p : Presence} (h : Present s badge i p) : findBadge s badge = some i := by
  obtain ⟨hp, hb, hone⟩ := h
  rw [findBadge, ← List.head?_filter, head?_filter_finRange]
  refine ⟨by simp [hp, hb], fun j hj => ?_⟩
  obtain ⟨q, hq, hqb⟩ := (Option.any_eq_true _ _).mp hj
  exact le_of_eq (hone j q hq (beq_iff_eq.mp hqb)).symm

theorem findBadge_absent (h : ∀ i p, s.presence i = some p → p.badge ≠ badge) : findBadge s badge = none :=
  List.find?_eq_none.mpr fun i _ hi => by
    obtain ⟨p, hp, hb⟩ := (Option.any_eq_true _ _).mp hi
    exact h i p hp (beq_iff_eq.mp hb)

theorem roomPresences_absent {r : RoomNo} (h : ∀ i p, s.presence i = some p → p.badge ≠ badge) :
    ∀ p ∈ roomPresences s r, p.badge ≠ badge := fun p hp => by
  obtain ⟨i, -, hi⟩ := List.mem_filterMap.mp hp
  exact h i p hi

theorem supervisorBadge_present {i : PoolIx} {p : Presence} (hp : s.presence i = some p) :
    supervisorBadge s i = if (s.permit p.slot).any (·.role == .supervisor) = true then [p.badge] else [] := by
  simp only [supervisorBadge, hp]
  rfl

theorem holdsElsewhere_iff {r : RoomNo} : holdsElsewhere s r badge = true ↔ ∃ q h, q ≠ r ∧ s.hold q = some h ∧ h.badge = badge := by
  simp only [holdsElsewhere, List.any_eq_true, List.mem_finRange, true_and, Bool.and_eq_true, decide_eq_true_eq, Option.any_eq_true,
    beq_iff_eq, ← exists_and_left]

end

/-! ### Step 5 -/

section
variable {a : LoopAddr} {r : RoomNo} {badge : Nat} {here : PoolIx → Presence → State → State} {go : State → State} {s : State}
  {i : PoolIx} {p : Presence}

/-- R80: a badge that is nowhere goes on. -/
theorem passback_nowhere (h : Nowhere s r badge) : passback a r badge here go s = go s := by
  have hfree : ¬ holdsElsewhere s r badge = true := fun hw => by
    obtain ⟨q, x, hq, hx, hb⟩ := holdsElsewhere_iff.mp hw
    exact h.2 q x hq hx hb
  simp only [passback, findBadge_absent h.1, if_neg hfree]

/-- R80: a badge that waits at another door. -/
theorem passback_waits (h : ∀ i p, s.presence i = some p → p.badge ≠ badge) (hw : ∃ q x, q ≠ r ∧ s.hold q = some x ∧ x.badge = badge) :
    passback a r badge here go s = refused a (some r) badge .passback none s := by
  simp only [passback, findBadge_absent h, if_pos (holdsElsewhere_iff.mpr hw)]
  rfl

/-- R81: a badge present in the room. -/
theorem passback_here (h : Present s badge i p) (hr : p.room = r) : passback a r badge here go s = here i p s := by
  simp only [passback, findBadge_present h, h.1, if_pos hr]

/-- R80: a badge present in another room. -/
theorem passback_elsewhere (h : Present s badge i p) (hr : p.room ≠ r) (hx : p.state ≠ .unverified) :
    passback a r badge here go s = refused a (some r) badge .passback none s := by
  simp only [passback, findBadge_present h, h.1, if_neg hr, if_neg hx]
  rfl

/-- R80: a badge UNVERIFIED in another room. -/
theorem passback_yields (h : Present s badge i p) (hr : p.room ≠ r) (hx : p.state = .unverified) :
    passback a r badge here go s = go (yieldPresence i p s) := by
  simp only [passback, findBadge_present h, h.1, if_neg hr, if_pos hx]

end

/-- R81, R87: what step 5 makes of a presence in the room itself, by the hold open there. -/
def presentAt (k : Option Hold) (a : LoopAddr) (r : RoomNo) (badge : Nat) (c : Chosen) (i : PoolIx) (p : Presence) (s : State) : State :=
  match k with
  | none => if p.state = .arriving then repeatArriving a r c s else reEnter a r badge c i p s
  | some _ => deny a (some r) badge .passback none s

/-- R82 to R89: what follows step 5, by the hold open at the room. -/
def admission (k : Option Hold) (a : LoopAddr) (r : RoomNo) (badge : Nat) (c : Chosen) (s : State) : State :=
  match k with
  | none => admitOrHold a r badge c s
  | some x => testPair a r x badge c s

section
variable {a : LoopAddr} {r : RoomNo} {n badge : Nat} {c : Chosen} {s t : State}

/-- R78, R80: a badge that is weighed with a permit chosen comes to step 5. -/
theorem decideEntry_passback (h : Admissible a r s) (hw : Weighed s r badge) (hn : turnMinute s = n) (hc : Chooses s r n badge c) :
    decideEntry a badge s = passback a r badge (presentAt (s.hold r) a r badge c) (admission (s.hold r) a r badge c) s := by
  cases hh : s.hold r with
  | none =>
    rw [decideEntry_open h hh, decideOpen, withPermit_chosen hn hc]
    rfl
  | some x =>
    rw [decideEntry_held h hh, decidePartner_stranger (hw x hh).1 (hw x hh).2, withPermit_chosen hn hc]
    rfl

/-! ### After a presence has yielded -/

/-- R63: an evaluation reads the layout alone. -/
theorem evaluate_kept (h : Kept s t) (p : Permit) (r : RoomNo) (n : Nat) (u : Purpose) : evaluate t p r n u = evaluate s p r n u := by
  have hfrozen : frozenFor t p r n = frozenFor s p r n := by simp only [frozenFor, frozen, State.room, h.rooms, h.freezes]
  simp only [evaluate, hfrozen]

theorem chooses_kept (h : Kept s t) (hc : Chooses s r n badge c) : Chooses t r n badge c where
  slot := by simpa only [permit_of_permits h.permits, evaluate_kept h] using hc.slot
  latest := by simpa only [permit_of_permits h.permits, evaluate_kept h] using hc.latest

theorem yieldPresence_presence (i : PoolIx) (p : Presence) (s : State) (k : PoolIx) :
    (yieldPresence i p s).presence k = if k = i then none else s.presence k := by
  rw [yieldPresence, reexamine_presence, writeJournal_presence, removePresence_presence]

theorem yieldPresence_hold (i : PoolIx) (p : Presence) (s : State) (q : RoomNo) : (yieldPresence i p s).hold q = s.hold q := by
  rw [yieldPresence, (reexamine_uncarried ..).hold, (writeJournal_uncarried ..).hold, removePresence_hold]

theorem yieldPresence_turn (i : PoolIx) (p : Presence) (s : State) : (yieldPresence i p s).turn = s.turn :=
  ((removePresence_sameHeld i s).trans ((writeJournal_sameHeld ..).trans (reexamine_sameHeld ..))).turn

/-- R80: the presence that yields was the badge's only one. -/
theorem yieldPresence_absent {i : PoolIx} {p : Presence} (h : Present s badge i p) (k : PoolIx) (q : Presence)
    (hq : (yieldPresence i p s).presence k = some q) : q.badge ≠ badge := by
  rw [yieldPresence_presence] at hq
  split at hq
  · cases hq
  · next hk => exact fun hb => hk (h.2.2 k q hq hb)

theorem yieldPresence_eq {i : PoolIx} {p : Presence} (h : Present s badge i p) :
    yieldPresence i p s = reexamine p.room (if (s.permit p.slot).any (·.role == .supervisor) = true then [badge] else [])
      (writeJournal { kind := .reconciledAuto, room := some p.room, badge := some badge, permit := (s.permit p.slot).map (·.number) }
        (removePresence i s)) := by
  rw [yieldPresence, supervisorBadge_present h.1, h.2.1]
  rfl

end

end Sys2Proof.Machine

open Sys2Proof Sys2Proof.Machine Sys2Proof.Claims in
/-- Settles O33: step 5 by the badge's presence; once an UNVERIFIED one has yielded, the same permit is chosen and the badge is
nowhere. -/
theorem passbackIsRefusedOrYields : Obligations.PassbackIsRefusedOrYields := by
  intro a r badge drop began c s h hadm hw hc refusal
  have hpolled := mapped_polled hadm.1
  have hstep := decideEntry_passback hadm hw (turnMinute_began h.2) hc
  refine ⟨fun i p hp hr hx => entryDecision_answers h hpolled (hstep.trans (passback_elsewhere hp hr hx)),
    fun hnone hwaits => entryDecision_answers h hpolled (hstep.trans (passback_waits hnone hwaits)), fun i p hp hr hx hheld => ?_⟩
  rw [← yieldPresence_eq hp, entryDecision_answers h hpolled (hstep.trans (passback_yields hp hr hx))]
  have hkept := yieldPresence_kept i p s
  have hturn := yieldPresence_turn i p s
  have hhold := yieldPresence_hold i p s
  have habsent := yieldPresence_absent hp
  generalize yieldPresence i p s = t at *
  have hmap := mapOutcome_kept hkept a
  have hread : EntryRead a badge drop began t := ⟨h.1, hturn.trans h.2⟩
  have hadm' : Admissible a r t := ⟨hmap.trans hadm.1, hkept.clockUnset.trans hadm.2.1, hkept.evacuating.trans hadm.2.2⟩
  have hw' : Weighed t r badge := fun x hx => ⟨(hw x (hhold r ▸ hx)).1, roomPresences_absent habsent⟩
  have hnowhere : Nowhere t r badge := ⟨habsent, fun q x hq hx => hheld q x hq (hhold q ▸ hx)⟩
  rw [entryDecision_answers hread (mapped_polled hadm'.1)
    ((decideEntry_passback hadm' hw' (turnMinute_began hread.2) (chooses_kept hkept hc)).trans (passback_nowhere hnowhere)), hhold]

namespace Sys2Proof.Machine

open Claims

/-! ### A badge present in its own room -/

section
variable {a : LoopAddr} {r : RoomNo} {badge : Nat} {c : Chosen} {i : PoolIx} {p : Presence} {s : State}

/-- R81: the running release repeated. -/
theorem repeatArriving_released {left : Nat} (h : (s.door r).state = .released left) :
    repeatArriving a r c s = queueDecision true a (.release left c.minutes []) s := by
  simp only [repeatArriving, h]

/-- R81: with no release running the seconds are free (log entry 20). -/
theorem repeatArriving_other (h : ∀ left, (s.door r).state ≠ .released left) :
    repeatArriving a r c s = queueDecision true a (.release ((Config.secondsWithoutRelease s.freeUsed).val + 1) c.minutes [])
      { s with freeUsed := s.freeUsed + 1 } := by
  have hseconds : secondsRemaining s r = (Config.secondsWithoutRelease s.freeUsed).val + 1 := by
    unfold secondsRemaining
    split
    · next left hleft => exact absurd hleft (h left)
    · rfl
  unfold repeatArriving
  split
  · next left hleft => exact absurd hleft (h left)
  · rw [hseconds]

/-- R81, R87: an ARRIVING badge's release is repeated, with or without a hold at the room. -/
theorem decideEntry_arriving {n : Nat} (h : Admissible a r s) (hn : turnMinute s = n) (hc : Chooses s r n badge c)
    (hp : Present s badge i p) (hr : p.room = r) (hi : i ∈ (s.roomState r).list) (hh : ∀ x, s.hold r = some x → x.badge ≠ badge)
    (hx : p.state = .arriving) : decideEntry a badge s = repeatArriving a r c s := by
  cases hhold : s.hold r with
  | none =>
    have hw : Weighed s r badge := fun x hx => by rw [hhold] at hx; cases hx
    rw [decideEntry_passback h hw hn hc, passback_here hp hr, hhold]
    exact if_pos hx
  | some x =>
    rw [decideEntry_held h hhold, decidePartner_arriving (hh x hhold) hp hi hx, withPermit_chosen hn hc]

end

end Sys2Proof.Machine

open Sys2Proof Sys2Proof.Machine Sys2Proof.Claims in
/-- Settles O34: with no hold step 5 finds the presence in the room; an ARRIVING one comes to the same at a hold. -/
theorem presentBadgesAreReEnteredOrRepeated : Obligations.PresentBadgesAreReEnteredOrRepeated := by
  intro a r badge drop began c i p s h hadm hc hp hr hi hh
  have hpolled := mapped_polled hadm.1
  have hn := turnMinute_began h.2
  refine ⟨fun hx hhold => ?reEntry, fun left hx hdoor => ?released, fun hx hdoor => ?free⟩
  case reEntry =>
    have hw : Weighed s r badge := fun x hx => by rw [hhold] at hx; cases hx
    refine entryDecision_answers h hpolled ((decideEntry_passback hadm hw hn hc).trans ((passback_here hp hr).trans ?_))
    rw [hhold]
    exact if_neg hx
  case released =>
    exact entryDecision_answers h hpolled
      ((decideEntry_arriving hadm hn hc hp hr hi hh hx).trans (repeatArriving_released hdoor))
  case free =>
    refine ⟨_, Nat.le_add_left 1 _, ?_, entryDecision_answers h hpolled
      ((decideEntry_arriving hadm hn hc hp hr hi hh hx).trans (repeatArriving_other hdoor))⟩
    have hlt := (Config.secondsWithoutRelease s.freeUsed).isLt
    omega
end

section
/-! Steps 6 and 7 of an entry read (O35), and the partner of a hold (O36): what is needed, whether there is room, and the grants. -/

namespace Sys2Proof.Machine

open Claims

/-! ### Needs and places -/

section
variable {r : RoomNo} {c : Chosen} {s : State}

theorem needsCompanion_iff : needsCompanion s r = true ↔ CompanionNeeded s r := by
  simp only [needsCompanion, Bool.and_eq_true, Option.any_eq_true, beq_iff_eq, List.isEmpty_iff]

theorem needsEscortIn_iff : needsEscortIn s r c = true ↔ EscortNeeded s r c := by
  simp only [needsEscortIn, isSupervisor, permitOf, Bool.and_eq_true, beq_iff_eq, Bool.not_eq_true', List.any_eq_false,
    Option.any_eq_true, not_exists, not_and, and_assoc]

/-- R82: whether anything is needed. -/
theorem needOf_none (h : ¬ CompanionNeeded s r ∧ ¬ EscortNeeded s r c) : needOf s r c = none := by
  have hcompanion : needsCompanion s r = false := Bool.eq_false_iff.mpr (needsCompanion_iff.not.mpr h.1)
  have hescort : needsEscortIn s r c = false := Bool.eq_false_iff.mpr (needsEscortIn_iff.not.mpr h.2)
  simp only [needOf, hcompanion, hescort]

theorem needOf_companion (h : CompanionNeeded s r) (he : ¬ EscortNeeded s r c) : needOf s r c = some .companion := by
  have hescort : needsEscortIn s r c = false := Bool.eq_false_iff.mpr (needsEscortIn_iff.not.mpr he)
  simp only [needOf, needsCompanion_iff.mpr h, hescort]

theorem needOf_escort (h : ¬ CompanionNeeded s r) (he : EscortNeeded s r c) : needOf s r c = some .escort := by
  have hcompanion : needsCompanion s r = false := Bool.eq_false_iff.mpr (needsCompanion_iff.not.mpr h)
  simp only [needOf, hcompanion, needsEscortIn_iff.mpr he]

theorem needOf_both (h : CompanionNeeded s r) (he : EscortNeeded s r c) : needOf s r c = some .both := by
  simp only [needOf, needsCompanion_iff.mpr h, needsEscortIn_iff.mpr he]

theorem needOf_some (h : ¬ (¬ CompanionNeeded s r ∧ ¬ EscortNeeded s r c)) : ∃ needs, needOf s r c = some needs := by
  by_cases hc : CompanionNeeded s r
  · by_cases he : EscortNeeded s r c
    · exact ⟨_, needOf_both hc he⟩
    · exact ⟨_, needOf_companion hc he⟩
  · exact ⟨_, needOf_escort hc (not_not.mp fun he => h ⟨hc, he⟩)⟩

variable {n : Nat}

theorem roomTakes_iff : ((s.room r).any fun k => decide (k.maximum < roomCount s r + n)) = true ↔ ¬ RoomTakes s r n := by
  simp only [Option.any_eq_true, decide_eq_true_eq, not_forall, not_le, exists_prop]
  rfl

/-- R83: the room is looked at before the pool. -/
theorem fullness_room (h : ¬ RoomTakes s r n) : fullness s r n = some .roomFull := if_pos (roomTakes_iff.mpr h)

theorem fullness_pool (h : RoomTakes s r n) (hp : ¬ PoolTakes s n) : fullness s r n = some .poolFull :=
  (if_neg (roomTakes_iff.not.mpr (not_not.mpr h))).trans (if_pos (not_le.mp hp))

theorem fullness_fits (h : RoomTakes s r n) (hp : PoolTakes s n) : fullness s r n = none :=
  (if_neg (roomTakes_iff.not.mpr (not_not.mpr h))).trans (if_neg (not_lt.mpr hp))

end

/-- R84, R99: an arrival takes the lowest free record. -/
theorem addPresence_lowest {i : PoolIx} {r : RoomNo} {badge n : Nat} {slot : SlotNo} {s t : State} (h : LowestFree t i)
    (hn : turnMinute s = n) : addPresence (arrival r badge slot s) t = (arrives i badge slot r n t, [i]) := by
  have hfind : ((List.finRange 128).find? fun k => (t.presence k).isNone) = some i := by
    rw [← List.head?_filter, head?_filter_finRange]
    exact ⟨by simp [h.1], fun k hk => not_lt.mp fun hlt => h.2 k hlt (Option.isNone_iff_eq_none.mp hk)⟩
  simp only [addPresence, hfind, arrival, hn]
  rfl

/-! ### Steps 6 and 7 -/

section
variable {a : LoopAddr} {r : RoomNo} {badge : Nat} {c : Chosen} {s : State}

/-- R83: too many for the room or the pool. -/
theorem admitOrHold_full {n : Nat} {why : Reason} (halone : needOf s r c = none → n = 1) (hneeds : needOf s r c ≠ none → n = 2)
    (h : fullness s r n = some why) : admitOrHold a r badge c s = refused a (some r) badge why none s := by
  cases hneed : needOf s r c with
  | none =>
    obtain rfl := halone hneed
    simp only [admitOrHold, hneed, h]
    rfl
  | some needs =>
    obtain rfl := hneeds (by rw [hneed]; exact nofun)
    simp only [admitOrHold, hneed, h]
    rfl

/-- R84, R85: one person admitted. -/
theorem admitOrHold_grants {i : PoolIx} {n : Nat} (hneed : needOf s r c = none) (hfits : fullness s r 1 = none) (h : LowestFree s i)
    (hn : turnMinute s = n) : admitOrHold a r badge c s = reexamine r [] (report .grants (some r) 1
      (entryRecord .entryGrant a r badge c.slot c.minutes (released a c.minutes [i] (arrives i badge c.slot r n s)))) := by
  simp only [admitOrHold, hneed, hfits, grantAlone, addPresence_lowest h hn]
  rfl

/-- R86: a hold opened. -/
theorem admitOrHold_holds {needs : Needs} (hneed : needOf s r c = some needs) (hfits : fullness s r 2 = none) :
    admitOrHold a r badge c s = openHold a r badge c needs s := by
  simp only [admitOrHold, hneed, hfits]

theorem openHold_eq {needs : Needs} {u : TurnUser} {began : CivilTime} (ht : s.turn = some ⟨u, began⟩) :
    openHold a r badge c needs s = entryRecord .holdOpen a r badge c.slot (match needs with | .companion => 1 | .escort => 2 | .both => 3)
      (queueDecision true a .wait (s.setHold r (some ⟨badge, c.slot, c.role, c.minutes, needs, began, s.timings.pairing⟩))) := by
  simp only [openHold, turnReading, ht]
  cases needs <;> rfl

/-! ### The pair -/

variable {x : Hold}

theorem escortUnmet_iff : escortUnmet x c = true ↔ ¬ ((x.needs = .companion ∨ c.role = .supervisor) ∧
    (c.role = .supervisor ∨ c.escort = false ∨ x.role = .supervisor)) := by
  unfold escortUnmet
  cases x.needs <;> cases c.role <;> cases c.escort <;> cases x.role <;> decide

/-- R89: both admitted on one release. -/
theorem admitPair_eq {i j : PoolIx} {n : Nat} (hn : turnMinute s = n) (hi : LowestFree s i)
    (hj : LowestFree (arrives i x.badge x.slot r n s) j) : admitPair a r x badge c s = reexamine r [] (report .grants (some r) 2
      (entryRecord .entryGrant a r badge c.slot c.minutes (entryRecord .entryGrant a r x.badge x.slot x.minutes
        (released a (min x.minutes c.minutes) [i, j]
          (arrives j badge c.slot r n (arrives i x.badge x.slot r n (s.setHold r none))))))) := by
  have hi' : LowestFree (s.setHold r none) i := hi
  have hj' : LowestFree (arrives i x.badge x.slot r n (s.setHold r none)) j := hj
  simp only [admitPair, addPresence_lowest hi' hn, addPresence_lowest hj' hn]
  rfl

end

end Sys2Proof.Machine

open Sys2Proof Sys2Proof.Machine Sys2Proof.Claims in
/-- Settles O35: step 5 goes on for a badge that is nowhere, and steps 6 and 7 follow the need and the places. -/
theorem entryIsGrantedOrHeld : Obligations.EntryIsGrantedOrHeld := by
  intro a r badge drop began c s h hadm hhold hc hnowhere alone answers
  have hn := turnMinute_began h.2
  have hw : Weighed s r badge := fun x hx => by rw [hhold] at hx; cases hx
  have hanswers : ∀ t, admitOrHold a r badge c s = t → answers t := fun t ht =>
    entryDecision_answers h (mapped_polled hadm.1)
      ((decideEntry_passback hadm hw hn hc).trans ((passback_nowhere hnowhere).trans (by rw [hhold]; exact ht)))
  refine ⟨fun n hone htwo => ?full, fun i halone hroom hpool hi => ?grant, fun needs hneeded hroom hpool hneeds => ?hold⟩
  case full =>
    have hone' : needOf s r c = none → n = 1 := fun hneed => hone (not_not.mp fun hneeded => by
      obtain ⟨needs, hsome⟩ := needOf_some hneeded
      rw [hneed] at hsome
      cases hsome)
    have htwo' : needOf s r c ≠ none → n = 2 := fun hneed => htwo fun halone => hneed (needOf_none halone)
    exact ⟨fun hroom => hanswers _ (admitOrHold_full hone' htwo' (fullness_room hroom)),
      fun hroom hpool => hanswers _ (admitOrHold_full hone' htwo' (fullness_pool hroom hpool))⟩
  case grant => exact hanswers _ (admitOrHold_grants (needOf_none halone) (fullness_fits hroom hpool) hi hn)
  case hold =>
    have hneed : needOf s r c = some needs := by
      rcases hneeds with ⟨rfl, hcompanion, hescort⟩ | ⟨rfl, hcompanion, hescort⟩ | ⟨rfl, hcompanion, hescort⟩
      · exact needOf_companion hcompanion hescort
      · exact needOf_escort hcompanion hescort
      · exact needOf_both hcompanion hescort
    exact hanswers _ ((admitOrHold_holds hneed (fullness_fits hroom hpool)).trans (openHold_eq h.2))

open Sys2Proof Sys2Proof.Machine Sys2Proof.Claims in
/-- Settles O36: the first badge, a badge in the room, and the pair by the escort and the places for two. -/
theorem partnersAreJudgedWithTheHold : Obligations.PartnersAreJudgedWithTheHold := by
  intro a r badge drop began x s h hadm hhold answers
  have hn := turnMinute_began h.2
  have hanswers : ∀ t, decidePartner a r x badge s = t → answers t := fun t ht =>
    entryDecision_answers h (mapped_polled hadm.1) ((decideEntry_held hadm hhold).trans ht)
  refine ⟨fun hb => hanswers _ (if_pos hb), fun i p hb hp hi hstate => hanswers _ ?inRoom, fun c hb habsent hc hnowhere => ?pair⟩
  case inRoom =>
    rw [decidePartner, if_neg hb, presenceIn_some hp hi]
    revert hstate
    cases p.state with
    | arriving => exact fun h => absurd rfl h
    | inside | leaving | unverified => exact fun _ => rfl
  case pair =>
    intro met
    have hpair : ∀ t, testPair a r x badge c s = t → answers t := fun t ht =>
      hanswers t ((decidePartner_stranger hb habsent).trans ((withPermit_chosen hn hc).trans ((passback_nowhere hnowhere).trans ht)))
    have hmet : met → escortUnmet x c ≠ true := fun h hunmet => escortUnmet_iff.mp hunmet h
    refine ⟨fun hunmet => hpair _ (if_pos (escortUnmet_iff.mpr hunmet)), fun h hroom => hpair _ ?_, fun h hroom hpool => hpair _ ?_,
      fun i j h hroom hpool hi hj => hpair _ ?_⟩
    · simp only [testPair, if_neg (hmet h), fullness_room hroom]
      rfl
    · simp only [testPair, if_neg (hmet h), fullness_pool hroom hpool]
      rfl
    · simp only [testPair, if_neg (hmet h), fullness_fits hroom hpool]
      exact admitPair_eq hn hi hj
end

section
/-! Exit decisions (O37, O38): every read at a polled address is released, and what becomes of the badge's presence. -/

namespace Sys2Proof.Machine

open Claims

/-! ### The answer -/

/-- R94: a RELEASE of these seconds and 0 minutes for display is pending at a station. -/
def Releases (a : LoopAddr) (seconds : Nat) (s : State) : Prop := ∃ who, (s.station a).decision = some (.release seconds 0 who)

section
variable {a : LoopAddr} {seconds : Nat} {s t : State}

theorem Releases.of_decision (h : Releases a seconds s) (hd : (t.station a).decision = (s.station a).decision) : Releases a seconds t := by
  rwa [Releases, hd]

/-- R103: a RELEASE pending stays pending, whoever ceases to be carried. -/
theorem Releases.then_uncarried {w : List PoolIx} (h : Releases a seconds s) (k : Uncarried w s t) : Releases a seconds t := by
  obtain ⟨who, hd⟩ := h
  refine ⟨who.filter (· ∉ w), ?_⟩
  rw [k.station, Station.without, hd]
  rfl

theorem queueRelease_releases (a : LoopAddr) (carries : List PoolIx) (s : State) :
    Releases a s.timings.release (queueRelease a 0 carries s) := by
  unfold queueRelease queueDecision
  obtain ⟨w, hw⟩ := loseCommand_uncarried true (s.station a).decision (loseCarried a .decision
    (s.setStation a { s.station a with decision := some (.release s.timings.release 0 carries) }))
  refine Releases.then_uncarried ⟨carries, ?_⟩ hw
  rw [loseCarried_frame]
  exact congrArg Station.decision (State.setStation_station_same ..)

theorem unmatched_uncarried (a : LoopAddr) (room : Option RoomNo) (badge : Nat) (why : Option Reason) (s : State) :
    Uncarried [] s (unmatched a room badge why s) := (writeJournal_uncarried ..).then_quiet (post_uncarried ..)

/-- R94: whatever the part's state, the exit decision queues a RELEASE. -/
theorem decideExit_releases {badge : Nat} (h : mapOutcome s a ≠ .unpolled) : Releases a s.timings.release (decideExit a badge s) := by
  have hunmatched : ∀ room why, Releases a s.timings.release (unmatched a room badge why (queueRelease a 0 [] s)) :=
    fun room why => (queueRelease_releases a [] s).then_uncarried (unmatched_uncarried ..)
  unfold decideExit
  split
  · next hmap => exact absurd hmap h
  · exact hunmatched ..
  · exact hunmatched ..
  · next r _ =>
    split
    · exact hunmatched ..
    · next i hi =>
      obtain ⟨p, hp, -⟩ := findBadge_some hi
      simp only [hp]
      split
      · have htimings : (setPresenceState i .leaving (uncarry [i] s)).timings = s.timings := (setPresenceState_kept ..).timings
        exact htimings ▸ (queueRelease_releases a [i] _).then_uncarried (reexamine_uncarried ..)
      · have htimings : (removePresence i s).timings = s.timings := (removePresence_kept ..).timings
        exact htimings ▸ (queueRelease_releases a [] _).then_uncarried (((writeJournal_uncarried ..).then_quiet (post_uncarried ..)).then_quiet
          ((reexamine_uncarried ..).then_quiet (reexamine_uncarried ..)))

theorem endTurn_station (s : State) (b : LoopAddr) : (endTurn s).station b = s.station b := by
  rw [endTurn_frame]
  rfl

theorem decisionEnds_decision (a : LoopAddr) (drop : Bool) (s : State) :
    ((decisionEnds a drop s).station a).decision = (s.station a).decision := by
  rw [decisionEnds, endTurn_station, State.setStation_station_same]

end

/-! ### A decision in its turn -/

section
variable {a : LoopAddr} {badge : Nat} {drop : Bool} {began : CivilTime} {s : State}

theorem exec_exitDecision (he : isEntry a = false) (ht : s.turn = some ⟨.decision ⟨a, badge⟩ drop, began⟩) :
    exec .exitDecision s = .next (endTurn (endRead a drop (decideExit a badge s))) := by
  show execExitDecision s = _
  simp only [execExitDecision, ht, serveDecision, he, Bool.false_eq_true, if_false]

theorem exitDecision_answers {t : State} (he : isEntry a = false) (ht : s.turn = some ⟨.decision ⟨a, badge⟩ drop, began⟩)
    (hp : mapOutcome s a ≠ .unpolled) (hd : decideExit a badge s = t) : exec .exitDecision s = .next (decisionEnds a drop t) := by
  have hpolled : mapOutcome (decideExit a badge s) a ≠ .unpolled := by rwa [mapOutcome_kept (decideExit_kept a badge s)]
  rw [exec_exitDecision he ht, endRead_polled hpolled, hd]

end

/-! ### The presence -/

section
variable {a : LoopAddr} {r : RoomNo} {badge : Nat} {i : PoolIx} {p : Presence} {s : State}

theorem decideExit_absent (hmap : mapOutcome s a = .mapped r true) (h : ∀ i p, s.presence i = some p → p.badge ≠ badge) :
    decideExit a badge s = unmatched a (some r) badge none (queueRelease a 0 [] s) := by
  simp only [decideExit, hmap, findBadge_absent h]

/-- R95: a presence in the room leaves it. -/
theorem decideExit_here (hmap : mapOutcome s a = .mapped r true) (h : Present s badge i p) (hr : p.room = r) :
    decideExit a badge s = reexamine r [] (released a 0 [i] ((uncarry [i] s).setPresence i (some { p with state := .leaving }))) := by
  have hleaving : setPresenceState i .leaving (uncarry [i] s) = (uncarry [i] s).setPresence i (some { p with state := .leaving }) := by
    simp only [setPresenceState, show (uncarry [i] s).presence i = some p from h.1]
  simp only [decideExit, hmap, findBadge_present h, h.1, if_pos hr, leave, hleaving]
  rfl

/-- R95: a presence in another room is a mismatch. -/
theorem decideExit_elsewhere (hmap : mapOutcome s a = .mapped r true) (h : Present s badge i p) (hr : p.room ≠ r) :
    decideExit a badge s = reexamine r [] (reexamine p.room
      (if (s.permit p.slot).any (·.role == .supervisor) = true then [badge] else [])
      (post { kind := .exitMismatch, station := some a, room := some r, badge := some badge, figures := .value p.room.val }
        (writeJournal { kind := .exitMismatch, station := some a, room := some r, badge := some badge, value := some p.room.val }
          (released a 0 [] (removePresence i s))))) := by
  simp only [decideExit, hmap, findBadge_present h, h.1, if_neg hr, mismatch, supervisorBadge_present h.1, h.2.1]
  rfl

end

end Sys2Proof.Machine

open Sys2Proof Sys2Proof.Machine Sys2Proof.Claims in
/-- Settles O37: each case queues a RELEASE last of all at the station, and what follows leaves it pending. -/
theorem everyExitReadIsReleased : Obligations.EveryExitReadIsReleased := by
  intro a badge drop began s t he ht hp hexec
  rw [exitDecision_answers he ht hp rfl] at hexec
  obtain rfl := Host.Outcome.next.inj hexec
  exact (decideExit_releases hp).of_decision (decisionEnds_decision ..)

open Sys2Proof Sys2Proof.Machine Sys2Proof.Claims in
/-- Settles O38: the address's case, then the badge's presence. -/
theorem exitReadsMoveThePresence : Obligations.ExitReadsMoveThePresence := by
  intro a badge drop began s he ht answers unmatched
  have hanswers : ∀ {t}, mapOutcome s a ≠ .unpolled → decideExit a badge s = t → answers t := fun hp hd => exitDecision_answers he ht hp hd
  refine ⟨fun hmap => ?unpolled, fun hmap => ?conflict, fun r => ⟨fun hmap => ?unmapped, fun hmap hnone => ?absent,
    fun i p hmap h => ⟨fun hr => ?here, fun hr => ?elsewhere⟩⟩⟩
  case unpolled =>
    have hkept : decideExit a badge s = s := by simp only [decideExit, hmap]
    rw [exec_exitDecision he ht, hkept, endRead_unpolled hmap]
  case conflict => exact hanswers (by rw [hmap]; exact nofun) (by simp only [decideExit, hmap]; rfl)
  case unmapped => exact hanswers (mapped_polled hmap) (by simp only [decideExit, hmap]; rfl)
  case absent => exact hanswers (mapped_polled hmap) (decideExit_absent hmap hnone)
  case here => exact hanswers (mapped_polled hmap) (decideExit_here hmap h hr)
  case elsewhere => exact hanswers (mapped_polled hmap) (decideExit_elsewhere hmap h hr)
end

section
/-! Holds that end (O39), and decision commands and pending reads replaced, discarded and cleared (O40). -/

namespace Sys2Proof.Machine

open Claims

/-! ### Holds that end -/

section
variable {r : RoomNo} {x : Hold} {s t : State}

theorem entryStation_kept (h : Kept s t) (r : RoomNo) : entryStation t r = entryStation s r := by
  simp only [entryStation, h.stationMap, h.rooms]

theorem permitNumber_kept (h : Kept s t) (i : SlotNo) : permitNumber t i = (s.permit i).map (·.number) := by
  simp only [permitNumber, permit_of_permits h.permits]

theorem refuseAtEntry_eq {a : LoopAddr} (h : entryStation s r = some a) (own : Bool) (why : Reason) :
    refuseAtEntry own r why s = queueDecision own a (.refuse why) s := by
  simp only [refuseAtEntry, h]

theorem deadlineReason_eq (n : Needs) : deadlineReason n = if n = .escort then .noEscort else .noCompanion := by cases n <;> rfl

/-- R90: a hold closed at its deadline. -/
theorem closeHold_eq {a : LoopAddr} {why : Reason} (h : entryStation s r = some a) (hwhy : deadlineReason x.needs = why) :
    closeHold r x s = report (.denial why) (some r) 1 (report .holdTimeout (some r) 1
      (writeJournal { kind := .holdTimeout, station := some a, room := some r, badge := some x.badge
                      permit := (s.permit x.slot).map (·.number), outcome := some (.reason why) }
        (queueDecision false a (.refuse why) (s.setHold r none)))) := by
  have hentry : entryStation (s.setHold r none) r = some a := h
  have hkept : Kept s (queueDecision false a (.refuse why) (s.setHold r none)) := (setHold_kept r none s).trans (queueDecision_kept ..)
  simp only [closeHold, hwhy, refuseAtEntry_eq hentry, holdRecord, entryStation_kept hkept, h, permitNumber_kept hkept, Option.map_some]

/-- R91: a hold on another slot or for another badge is not re-tested. -/
theorem retestHold_other {i : SlotNo} {badge : Nat} (h : s.hold r = some x) (hother : ¬ (x.slot = i ∧ x.badge = badge)) :
    retestHold i badge s r = s := by
  simp only [retestHold, h, if_neg hother]

/-- R91: a hold whose permit stays live stands. -/
theorem retestHold_live {p : Permit} (h : s.hold r = some x) (hp : s.permit x.slot = some p) (hlive : Live p) :
    retestHold x.slot x.badge s r = s := by
  simp only [retestHold, h, and_self, if_true, hp, refusal_live hlive]

/-- R64, R91: the reason a hold on a slot is cancelled with. -/
def CancelledFor (o : Option Permit) (why : Reason) : Prop := (match o with | some p => p.standing.refusal | none => some .noPermit) = some why

/-- R91: any other is cancelled. -/
theorem retestHold_cancelled {a : LoopAddr} {why : Reason} (h : s.hold r = some x) (he : entryStation s r = some a)
    (hwhy : CancelledFor (s.permit x.slot) why) : retestHold x.slot x.badge s r = report (.denial why) (some r) 1
      (writeJournal { kind := .holdCancelled, station := some a, room := some r, badge := some x.badge
                      permit := (s.permit x.slot).map (·.number), outcome := some (.reason why) }
        (queueDecision true a (.refuse why) (s.setHold r none))) := by
  have hentry : entryStation (s.setHold r none) r = some a := he
  have hkept : Kept s (queueDecision true a (.refuse why) (s.setHold r none)) := (setHold_kept r none s).trans (queueDecision_kept ..)
  have hcancel : retestHold x.slot x.badge s r =
      report (.denial why) (some r) 1 (holdRecord .holdCancelled (entryStation s r) r x (some why) (refuseAtEntry true r why (s.setHold r none))) := by
    revert hwhy
    unfold CancelledFor
    cases hp : s.permit x.slot with
    | none =>
      intro hwhy
      obtain rfl := Option.some.inj hwhy
      simp only [retestHold, h, and_self, if_true, hp]
    | some p =>
      intro hwhy
      simp only [retestHold, h, and_self, if_true, hp, show p.standing.refusal = some why from hwhy]
  simp only [hcancel, refuseAtEntry_eq hentry, holdRecord, he, permitNumber_kept hkept, Option.map_some]

end

end Sys2Proof.Machine

open Sys2Proof Sys2Proof.Machine Sys2Proof.Claims in
/-- Settles O39: the deadline by the hold's ticks, and the re-test by the slot, the badge and the permit's standing. -/
theorem holdsCloseOrAreCancelled : Obligations.HoldsCloseOrAreCancelled := by
  refine ⟨fun r x a s hs hhold he => ?deadline, fun r x a i badge s hhold he => ⟨fun hother => ?_, ?_, ?_⟩⟩
  case deadline =>
    have hexec : exec (.holdDeadline r) s = .next (if x.ticks = 0 then closeHold r x s else s) := by
      show execHoldDeadline r s = _
      simp only [execHoldDeadline, hs, hhold]
    rw [hexec]
    exact ⟨fun hticks => by rw [if_neg hticks.ne'], fun hticks => by rw [if_pos hticks, closeHold_eq he (deadlineReason_eq _)]⟩
  · exact retestHold_other hhold (not_and_or.mpr hother)
  · rintro p rfl rfl hp hlive
    exact retestHold_live hhold hp hlive
  · rintro why rfl rfl hwhy
    refine retestHold_cancelled hhold he ?_
    rcases hwhy with ⟨rfl, hnone⟩ | ⟨p, hp, ⟨rfl, hx⟩ | ⟨rfl, hx⟩ | ⟨rfl, hx⟩⟩
    · rw [hnone]
      rfl
    · rw [hp]
      exact congrArg Standing.refusal hx
    · rw [hp]
      exact refusal_held hx
    · rw [hp]
      exact refusal_terminal hx

namespace Sys2Proof.Machine

open Claims

/-! ### Commands replaced and discarded -/

section
variable {own : Bool} {a : LoopAddr} {s : State}

/-- R121: a command pending at a station replaced, or discarded for `none`; a POLL that carried it carries nothing. -/
def replaceDecision (a : LoopAddr) (c : Option DecisionCommand) (s : State) : State :=
  { s with
    stations := put s.stations a { s.station a with decision := c }
    polling := if s.polling = some ⟨a, .decision⟩ then some ⟨a, .nothing⟩ else s.polling }

theorem loseCarried_decision (a : LoopAddr) (c : Option DecisionCommand) (s : State) :
    loseCarried a .decision (s.setStation a { s.station a with decision := c }) = replaceDecision a c s := by
  unfold loseCarried replaceDecision
  split
  · next p hp =>
    have hp' : s.polling = some p := hp
    obtain ⟨b, k⟩ := p
    by_cases h : b = a ∧ k = .decision
    · obtain ⟨rfl, rfl⟩ := h
      simp only [and_self, if_true, hp']
      rfl
    · have hne : ¬ some (OutstandingPoll.mk b k) = some ⟨a, .decision⟩ := by simpa using h
      simp only [if_neg h, hp', if_neg hne]
      rw [← hp']
      rfl
  · next hp =>
    have hp' : s.polling = none := hp
    simp only [hp', reduceCtorEq, if_false]
    rw [← hp']
    rfl

theorem queueDecision_eq (own : Bool) (a : LoopAddr) (d : DecisionCommand) (s : State) :
    queueDecision own a d s = loseCommand own (s.station a).decision (replaceDecision a (some d) s) := by
  simp only [queueDecision, loseCarried_decision]

theorem discardDecision_eq (own : Bool) (a : LoopAddr) (s : State) :
    discardDecision own a s = loseCommand own (s.station a).decision (replaceDecision a none s) := by
  simp only [discardDecision, loseCarried_decision]

/-- R103: a command that carries nobody is lost for nobody. -/
theorem loseCommand_nobody {o : Option DecisionCommand} (h : ∀ x m who, o = some (.release x m who) → who = []) (s : State) :
    loseCommand own o s = s := by
  unfold loseCommand
  split
  · next x m i is => exact absurd (h x m _ rfl) nofun
  · rfl

/-- R103, R104: the presences of a RELEASE lost are resolved as unused, as the turn has it. -/
theorem loseCommand_release {x m : Nat} {who : List PoolIx} (h : who ≠ []) (s : State) :
    loseCommand own (some (.release x m who)) s = effect own (.unused who) s := by
  cases who with
  | nil => exact absurd rfl h
  | cons i is => rfl

theorem effect_atOnce {who : List PoolIx} (hwho : who ≠ []) (h : own = true ∨ s.turn = none ∧ s.heldEffects = []) :
    effect own (.unused who) s = resolve resolveUnused who s := by
  cases own with
  | true => rfl
  | false =>
    obtain ⟨ht, hh⟩ := h.resolve_left nofun
    exact reportEffect_atOnce (.unused who) s hwho ht hh

theorem effect_held {who : List PoolIx} (hwho : who ≠ []) (hown : own = false) (h : s.turn ≠ none ∨ s.heldEffects ≠ []) :
    effect own (.unused who) s = { s with heldEffects := s.heldEffects ++ [.unused who] } := by
  subst hown
  exact reportEffect_held (.unused who) s hwho h

/-! ### Reads cleared -/

variable {badge : Nat}

theorem clearRead_none (h : (s.station a).read = none) : clearRead a s = s := by simp only [clearRead, h]

theorem clearRead_answered (h : (s.station a).read = some ⟨badge, .answered⟩) :
    clearRead a s = s.setStation a { s.station a with read := none } := by simp only [clearRead, h]

/-- R120: a read whose decision is in progress is cleared when that ends. -/
theorem clearRead_inDecision {rd : Read} {drop : Bool} {began : CivilTime} (h : (s.station a).read = some ⟨badge, .deciding⟩)
    (ht : s.turn = some ⟨.decision rd drop, began⟩) (ha : rd.address = a) :
    clearRead a s = { s with turn := some ⟨.decision rd true, began⟩ } := by
  simp only [clearRead, h, ht, if_pos ha]

/-- R120: a read that waits leaves the read queue. -/
theorem clearRead_waiting (h : (s.station a).read = some ⟨badge, .deciding⟩)
    (ht : ∀ rd drop began, s.turn = some ⟨.decision rd drop, began⟩ → rd.address ≠ a) :
    clearRead a s = { s.setStation a { s.station a with read := none } with readQueue := s.readQueue.filter (·.address ≠ a) } := by
  simp only [clearRead, h]
  split
  · next rd drop began hturn => rw [if_neg (ht rd drop began hturn)]
  · rfl

end

end Sys2Proof.Machine

open Sys2Proof Sys2Proof.Machine Sys2Proof.Claims in
/-- Settles O40: the slot and the POLL are dealt with first, then the presences of the command lost; a read is cleared by its phase and
the turn. -/
theorem queuedCommandReplacesThePendingOne : Obligations.QueuedCommandReplacesThePendingOne := by
  refine ⟨fun own a c s => ?commands, fun a badge s => ⟨clearRead_none, clearRead_answered, fun rd drop began => clearRead_inDecision,
    clearRead_waiting⟩⟩
  case commands =>
    intro t leaves
    have hleaves : ∀ u, loseCommand own (s.station a).decision t = u → leaves u := fun u hu => by
      refine ⟨fun d hd => ?_, fun hnone => ?_⟩
      · rw [queueDecision_eq, ← hd]
        exact hu
      · rw [discardDecision_eq, ← hnone]
        exact hu
    refine ⟨fun hnobody => hleaves t (loseCommand_nobody hnobody t), fun x m who hd hwho => ?_⟩
    have hrelease : loseCommand own (s.station a).decision t = effect own (.unused who) t := by rw [hd, loseCommand_release hwho]
    exact ⟨fun h => hleaves _ (hrelease.trans (effect_atOnce hwho h)), fun hown h => hleaves _ (hrelease.trans (effect_held hwho hown h))⟩
end

section
/-! EVAC-RELEASE queued at every polled station (O46): the records it brings, and what becomes of the presences that the decision commands
carried, at once or held behind a turn. -/

namespace Sys2Proof.Machine

open Claims

/-! ### Records -/

/-- R162: records with these bodies added to a journal that is no longer than its 512. -/
def Recorded (bs : List JournalBody) (s t : State) : Prop :=
  s.journal.length ≤ 512 → t.journal.length ≤ 512 ∧ ∃ later, later.map JournalRecord.body = bs ∧
    t.journal = (s.journal ++ later).drop (s.journal.length + later.length - 512)

theorem Recorded.of_same {s t : State} (h : t.journal = s.journal) : Recorded [] s t := fun hs =>
  ⟨by rwa [h], [], rfl, by simp [h, Nat.sub_eq_zero_of_le hs]⟩

theorem Recorded.trans {bs cs : List JournalBody} {s t u : State} (h : Recorded bs s t) (k : Recorded cs t u) :
    Recorded (bs ++ cs) s u := fun hs => by
  obtain ⟨ht, ys, rfl, hys⟩ := h hs
  obtain ⟨hu, zs, rfl, hzs⟩ := k ht
  exact ⟨hu, ys ++ zs, List.map_append, by rw [hzs, hys, drop_append_drop]⟩

theorem writeJournal_recorded (b : JournalBody) {s : State} (hs : s.supply = .normal) :
    Recorded [{ b with value := b.value.map cap16 }] s (writeJournal b s) := by
  rw [writeJournal_normal b s hs]
  simp only [Config.journalCapacity]
  refine fun hlen => ⟨by simp; omega, [⟨s.nextSequence, s.clock, { b with value := b.value.map cap16 }⟩], rfl, ?_⟩
  rw [List.drop_append_of_le_length (by simp)]
  rfl

/-- R103, R108: a record of a resolution as unused, or of the re-examination that follows it. -/
def UnusedRecord (b : JournalBody) : Prop := b.kind = .grantUnused ∨ b.kind = .exitUnused ∨ b.kind = .unescorted

/-- Only records of resolutions as unused are written. -/
def RecordsUnused (s t : State) : Prop := ∃ mid, Recorded mid s t ∧ ∀ b ∈ mid, UnusedRecord b

namespace RecordsUnused

variable {s t u : State}

theorem of_same (h : t.journal = s.journal) : RecordsUnused s t := ⟨[], .of_same h, by simp⟩

theorem trans (h : RecordsUnused s t) (k : RecordsUnused t u) : RecordsUnused s u := by
  obtain ⟨bs, hbs, hall⟩ := h
  obtain ⟨cs, hcs, hmore⟩ := k
  exact ⟨bs ++ cs, hbs.trans hcs, fun b hb => (List.mem_append.mp hb).elim (hall b) (hmore b)⟩

theorem foldl {α : Type} {f : State → α → State} (hf : ∀ s x, RecordsUnused s (f s x)) (xs : List α) (s : State) :
    RecordsUnused s (xs.foldl f s) := by
  induction xs generalizing s with
  | nil => exact of_same rfl
  | cons x xs ih => exact (hf s x).trans (ih _)

theorem foldl_pair {α β : Type} {f : State × β → α → State × β} (hf : ∀ x a, RecordsUnused x.1 (f x a).1) (xs : List α)
    (x : State × β) : RecordsUnused x.1 (xs.foldl f x).1 := by
  induction xs generalizing x with
  | nil => exact of_same rfl
  | cons a xs ih => exact (hf x a).trans (ih _)

end RecordsUnused

theorem writeJournal_recordsUnused {b : JournalBody} (hb : UnusedRecord b) (s : State) : RecordsUnused s (writeJournal b s) := by
  cases hs : s.supply with
  | backup => exact .of_same (by rw [writeJournal_backup b s hs])
  | normal =>
    refine ⟨_, writeJournal_recorded b hs, fun c hc => ?_⟩
    obtain rfl := List.mem_singleton.mp hc
    exact hb

theorem setPresenceState_journal (i : PoolIx) (x : PresenceState) (s : State) : (setPresenceState i x s).journal = s.journal := by
  unfold setPresenceState
  split <;> rfl

theorem removePresence_journal (i : PoolIx) (s : State) : (removePresence i s).journal = s.journal := by
  unfold removePresence
  split <;> rfl

theorem escortCheck_recordsUnused (r : RoomNo) (gone : List Nat) (s : State) : RecordsUnused s (escortCheck r gone s) := by
  unfold escortCheck
  dsimp only
  split
  · exact .of_same rfl
  · refine RecordsUnused.trans (.of_same ?_) (writeJournal_recordsUnused (.inr (.inr rfl)) _)
    rw [post_frame]
    split <;> rfl

theorem reexamine_recordsUnused (r : RoomNo) (gone : List Nat) (s : State) : RecordsUnused s (reexamine r gone s) :=
  RecordsUnused.trans (t := refreshRoom r s) (.of_same rfl) (escortCheck_recordsUnused ..)

theorem resolveUnused_recordsUnused (i : PoolIx) (x : State × List Nat) : RecordsUnused x.1 (resolveUnused i x).1 := by
  unfold resolveUnused
  split
  · exact .of_same rfl
  · dsimp only
    split
    · exact (RecordsUnused.of_same (removePresence_journal ..)).trans (writeJournal_recordsUnused (.inl rfl) _)
    · exact (RecordsUnused.of_same (setPresenceState_journal ..)).trans (writeJournal_recordsUnused (.inr (.inl rfl)) _)
    · exact .of_same rfl
    · exact .of_same rfl

theorem resolve_recordsUnused (who : List PoolIx) (s : State) : RecordsUnused s (resolve resolveUnused who s) :=
  RecordsUnused.trans (t := uncarry who s) (.of_same rfl) (RecordsUnused.foldl (fun s _ =>
    (RecordsUnused.foldl_pair (fun x i => resolveUnused_recordsUnused i x) _ (s, [])).trans (reexamine_recordsUnused ..)) _ _)

theorem loseCommand_recordsUnused (d : Option DecisionCommand) (s : State) : RecordsUnused s (loseCommand false d s) := by
  unfold loseCommand
  split
  · next i is =>
    show RecordsUnused s (reportEffect (.unused (i :: is)) s)
    unfold reportEffect
    split
    · exact .of_same rfl
    · split
      · exact .of_same rfl
      · exact resolve_recordsUnused ..
  · exact .of_same rfl

theorem queueMode_recordsUnused (m : ModeCommand) (a : LoopAddr) (s : State) : RecordsUnused s (queueMode false m a s) := by
  have hmode : (loseCarried a .mode (s.setStation a { s.station a with mode := some m })).journal = s.journal := by
    rw [loseCarried_frame]
    rfl
  unfold queueMode
  dsimp only
  split
  · refine (RecordsUnused.of_same hmode).trans (RecordsUnused.trans ?_ (.of_same (by rw [clearRead_frame])))
    rw [discardDecision_eq]
    exact RecordsUnused.trans (t := replaceDecision a none _) (.of_same rfl) (loseCommand_recordsUnused ..)
  · exact .of_same hmode

/-! ### A decision command lost, at once or behind a turn -/

/-- R104: a turn is in progress or an effect is held, so that what is reported is held. -/
def Busy (s : State) : Prop := s.turn ≠ none ∨ s.heldEffects ≠ []

theorem not_busy_iff (s : State) : ¬ Busy s ↔ s.turn = none ∧ s.heldEffects = [] := by simp [Busy]

theorem busy_of_same {s t : State} (ht : t.turn = none ↔ s.turn = none) (hh : t.heldEffects.length = s.heldEffects.length) :
    Busy t ↔ Busy s := by
  simp only [Busy, ne_eq, ht, ← List.length_eq_zero_iff, hh]

/-- R103: a station's decision command lost, by the presences it carries. -/
theorem loseCommand_station (own : Bool) (x : Station) (s : State) :
    loseCommand own x.decision s = if carriedOn x = [] then s else effect own (.unused (carriedOn x)) s := by
  unfold loseCommand carriedOn
  rcases x.decision with _ | ⟨seconds, minutes, _ | ⟨i, is⟩⟩ | _ | why
  case some.release.cons => exact (if_neg (List.cons_ne_nil i is)).symm
  all_goals exact (if_pos rfl).symm

theorem loseCommand_sameHeld (x : Station) (s : State) : SameHeld s (loseCommand true x.decision s) := by
  rw [loseCommand_station]
  split
  · exact .refl s
  · exact applyEffect_sameHeld (.unused (carriedOn x)) s

theorem loseCommand_free (x : Station) {s : State} (h : ¬ Busy s) :
    loseCommand false x.decision s = loseCommand true x.decision s := by
  rw [loseCommand_station, loseCommand_station]
  split
  · rfl
  · next hx => exact (effect_atOnce hx (.inr ((not_busy_iff s).mp h))).trans (effect_atOnce hx (.inl rfl)).symm

/-- R103, R104: what the loss of a station's decision command leaves, when the presences `c` have been resolved. -/
structure CommandLost (x : Station) (c : List PoolIx) (s t : State) : Prop where
  uncarried : Uncarried c s t
  resolved : Resolved c s t
  busy : Busy t ↔ Busy s
  atOnce : ¬ Busy s → c = carriedOn x
  behind : Busy s → c = [] ∧ t.pool = s.pool ∧ t.occupancy = s.occupancy ∧ ∀ k ∈ carriedOn x, HandedOver k t

theorem loseCommand_lost (x : Station) (s : State) : ∃ c, CommandLost x c s (loseCommand false x.decision s) := by
  by_cases h : Busy s
  · rw [loseCommand_station]
    refine ⟨[], ?_⟩
    split
    · next hx =>
      exact ⟨.refl s, .of_same rfl rfl, Iff.rfl, fun hfree => absurd h hfree, fun _ => ⟨rfl, rfl, rfl, by simp [hx]⟩⟩
    · next hx =>
      rw [effect_held hx rfl h]
      exact ⟨heldUnused_uncarried .., .of_same rfl rfl, iff_of_true (.inr (by simp)) h, fun hfree => absurd h hfree,
        fun _ => ⟨rfl, rfl, rfl, fun k hk => ⟨_, hk, by simp⟩⟩⟩
  · rw [loseCommand_free x h]
    obtain ⟨hu, hr⟩ := loseCommand_own x s
    have hsame := loseCommand_sameHeld x s
    exact ⟨carriedOn x, hu, hr, busy_of_same (by rw [hsame.turn]) hsame.effects, fun _ => rfl, fun hb => absurd hb h⟩

/-- R120: a read cleared changes its station's read, the read queue, and the turn of its decision. -/
theorem clearRead_changes (a : LoopAddr) (s : State) : ∃ rd q turn,
    clearRead a s = { s.setStation a { s.station a with read := rd } with readQueue := q, turn := turn } ∧ (turn = none ↔ s.turn = none) := by
  have hread : ∀ turn, ({ s.setStation a { s.station a with read := (s.station a).read } with readQueue := s.readQueue, turn := turn } : State) =
      { s with turn := turn } := fun turn => congrArg (fun m => { s with stations := m, turn := turn }) (put_look s.stations a)
  unfold clearRead
  dsimp only
  split
  · exact ⟨(s.station a).read, s.readQueue, s.turn, (hread s.turn).symm, Iff.rfl⟩
  · exact ⟨none, s.readQueue, s.turn, rfl, Iff.rfl⟩
  · split
    · next ht =>
      split
      · exact ⟨(s.station a).read, s.readQueue, _, (hread _).symm, by simp [ht]⟩
      · exact ⟨none, _, s.turn, rfl, Iff.rfl⟩
    · exact ⟨none, _, s.turn, rfl, Iff.rfl⟩

/-! ### EVAC-RELEASE -/

/-- R121, R132: EVAC-RELEASE queued at the addresses `as`, in place of the decision commands there; the presences `w` have been resolved
as unused, and where a turn was in progress or an effect held, the resolutions are held instead. -/
structure Alarmed (as : List LoopAddr) (w : List PoolIx) (s t : State) : Prop where
  kept : Kept s t
  lastServed : t.lastServed = s.lastServed
  counters : t.counters = s.counters
  hold : ∀ r, t.hold r = s.hold r
  busy : Busy t ↔ Busy s
  alarmed : ∀ a ∈ as, (t.station a).mode = some .evacRelease ∧ (t.station a).decision = none
  station : ∀ a, a ∉ as → t.station a = (s.station a).without w
  door : ∀ r, t.door r = (s.door r).without w
  held : HeldWithout w s t
  register : Resolved w s t
  named : ∀ k ∈ w, ∃ a ∈ as, k ∈ carriedOn (s.station a)
  atOnce : ¬ Busy s → ∀ a ∈ as, ∀ k ∈ carriedOn (s.station a), k ∈ w
  behind : Busy s → w = [] ∧ t.pool = s.pool ∧ t.occupancy = s.occupancy ∧ ∀ a ∈ as, ∀ k ∈ carriedOn (s.station a), HandedOver k t

namespace Alarmed

variable {as bs : List LoopAddr} {w c : List PoolIx} {s t u : State} {a : LoopAddr}

theorem refl (s : State) : Alarmed [] [] s s :=
  ⟨.refl s, rfl, rfl, fun _ => rfl, Iff.rfl, nofun, fun _ _ => by simp, fun _ => by simp, .of_same rfl, .of_same rfl rfl, nofun,
    fun _ => nofun, fun _ => ⟨rfl, rfl, rfl, nofun⟩⟩

theorem carriedOn_done (h : Alarmed as w s t) (ha : a ∈ as) : carriedOn (t.station a) = [] := by
  rw [carriedOn, (h.alarmed a ha).2]

theorem mem_carriedOn (h : Alarmed as w s t) {k : PoolIx} : k ∈ carriedOn (t.station a) ↔ a ∉ as ∧ k ∈ carriedOn (s.station a) ∧ k ∉ w := by
  by_cases ha : a ∈ as
  · simp [h.carriedOn_done ha, ha]
  · rw [h.station a ha, carriedOn_without]
    simp [ha]

theorem trans (h : Alarmed as w s t) (k : Alarmed bs c t u) : Alarmed (as ++ bs) (w ++ c) s u where
  kept := h.kept.trans k.kept
  lastServed := k.lastServed.trans h.lastServed
  counters := k.counters.trans h.counters
  hold := fun r => (k.hold r).trans (h.hold r)
  busy := k.busy.trans h.busy
  alarmed := fun a ha => by
    by_cases hb : a ∈ bs
    · exact k.alarmed a hb
    · obtain ⟨hmode, hnone⟩ := h.alarmed a ((List.mem_append.mp ha).resolve_right hb)
      rw [k.station a hb, Station.without_of_none hnone]
      exact ⟨hmode, hnone⟩
  station := fun a ha => by
    obtain ⟨has, hbs⟩ := not_or.mp (List.mem_append.not.mp ha)
    rw [k.station a hbs, h.station a has, Station.without_without]
  door := fun r => by rw [k.door, h.door, Door.without_without]
  held := h.held.trans k.held
  register := h.register.trans k.register fun i hi => by
    obtain ⟨a, -, ha⟩ := k.named i hi
    exact (h.mem_carriedOn.mp ha).2.2
  named := fun i hi => by
    rcases List.mem_append.mp hi with hi | hi
    · exact (h.named i hi).imp fun _ => And.imp_left (List.mem_append_left _)
    · obtain ⟨a, hab, ha⟩ := k.named i hi
      exact ⟨a, List.mem_append_right _ hab, (h.mem_carriedOn.mp ha).2.1⟩
  atOnce := fun hfree a ha i hi => by
    by_cases hw : i ∈ w
    · exact List.mem_append_left _ hw
    · have has : a ∉ as := fun has => hw (h.atOnce hfree a has i hi)
      exact List.mem_append_right _ (k.atOnce (h.busy.not.mpr hfree) a ((List.mem_append.mp ha).resolve_left has) i
        (h.mem_carriedOn.mpr ⟨has, hi, hw⟩))
  behind := fun hbusy => by
    obtain ⟨rfl, hpool, hoccupancy, hhanded⟩ := h.behind hbusy
    obtain ⟨rfl, hpool', hoccupancy', hhanded'⟩ := k.behind (h.busy.mpr hbusy)
    refine ⟨rfl, hpool'.trans hpool, hoccupancy'.trans hoccupancy, fun a ha i hi => ?_⟩
    by_cases has : a ∈ as
    · exact k.held.handedOver List.not_mem_nil (hhanded a has i hi)
    · exact hhanded' a ((List.mem_append.mp ha).resolve_left has) i (h.mem_carriedOn.mpr ⟨has, hi, List.not_mem_nil⟩)

end Alarmed

/-- R121: EVAC-RELEASE queued where no decision command is pending. -/
theorem alarmed_mode {a : LoopAddr} {s t : State} {p : Option OutstandingPoll} (hd : (s.station a).decision = none)
    (ht : t = { s.setStation a { s.station a with mode := some .evacRelease } with polling := p }) : Alarmed [a] [] s t := by
  subst ht
  have hnobody : carriedOn (s.station a) = [] := by rw [carriedOn, hd]
  exact {
    kept := by constructor <;> rfl
    lastServed := rfl
    counters := rfl
    hold := fun _ => rfl
    busy := Iff.rfl
    alarmed := fun b hb => by
      obtain rfl := List.mem_singleton.mp hb
      exact ⟨congrArg Station.mode (State.setStation_station_same ..), (congrArg Station.decision (State.setStation_station_same ..)).trans hd⟩
    station := fun b hb => by
      rw [Station.without_nil]
      exact State.setStation_station_other _ _ _ fun e => hb (List.mem_singleton.mpr e.symm)
    door := fun r => (Door.without_nil _).symm
    held := .of_same rfl
    register := .of_same rfl rfl
    named := nofun
    atOnce := fun _ b hb k hk => by
      obtain rfl := List.mem_singleton.mp hb
      rwa [hnobody] at hk
    behind := fun _ => ⟨rfl, rfl, rfl, fun b hb k hk => by
      obtain rfl := List.mem_singleton.mp hb
      rw [hnobody] at hk
      cases hk⟩ }

/-- R121: EVAC-RELEASE queued in place of a decision command: the command is lost and the read cleared. -/
theorem alarmed_discarded {a : LoopAddr} {s t u : State} {c : List PoolIx} {p : Option OutstandingPoll}
    (ht : t = { s.setStation a { s.station a with mode := some .evacRelease, decision := none } with polling := p })
    (h : CommandLost (s.station a) c t u) : Alarmed [a] c s (clearRead a u) := by
  obtain ⟨rd, q, turn, hclear, hturn⟩ := clearRead_changes a u
  have hkept : Kept s t := by
    rw [ht]
    constructor <;> rfl
  have hhere : t.station a = { s.station a with mode := some .evacRelease, decision := none } := by
    rw [ht]
    exact State.setStation_station_same ..
  have hother : ∀ b, b ≠ a → t.station b = s.station b := fun b hb => by
    rw [ht]
    exact State.setStation_station_other _ _ _ (Ne.symm hb)
  have hbusy : Busy t ↔ Busy s := by rw [ht]; exact Iff.rfl
  have hu : u.station a = t.station a := by rw [h.uncarried.station, Station.without_of_none (by rw [hhere])]
  obtain ⟨hlost, hresolved, hbusy', hatOnce, hbehind⟩ := h
  have hcleared : (clearRead a u).station a = { u.station a with read := rd } := by
    rw [hclear]
    exact State.setStation_station_same ..
  have hcarried : ∀ k ∈ c, k ∈ carriedOn (s.station a) := fun k hk => by
    by_cases hb : Busy t
    · rw [(hbehind hb).1] at hk
      cases hk
    · rwa [← hatOnce hb]
  exact {
    kept := (hkept.trans hlost.kept).trans (clearRead_kept a u)
    lastServed := by
      rw [hclear]
      exact hlost.lastServed.trans (by rw [ht]; rfl)
    counters := by
      rw [hclear]
      exact hlost.counters.trans (by rw [ht]; rfl)
    hold := fun r => by
      rw [hclear]
      exact (hlost.hold r).trans (by rw [ht]; rfl)
    busy := by
      refine (busy_of_same ?_ ?_).trans (hbusy'.trans hbusy) <;> rw [hclear]
      · exact hturn
      · rfl
    alarmed := fun b hb => by
      obtain rfl := List.mem_singleton.mp hb
      rw [hcleared, hu, hhere]
      exact ⟨rfl, rfl⟩
    station := fun b hb => by
      have hne : b ≠ a := fun e => hb (List.mem_singleton.mpr e)
      rw [hclear, ← hother b hne, ← hlost.station]
      exact State.setStation_station_other _ _ _ (Ne.symm hne)
    door := fun r => by
      rw [hclear]
      exact (hlost.door r).trans (by rw [ht]; rfl)
    held := by
      obtain ⟨new, hnew, hheld⟩ := hlost.held
      refine ⟨new, hnew, ?_⟩
      rw [hclear]
      exact hheld.trans (by rw [ht]; rfl)
    register := by
      rw [hclear]
      rw [ht] at hresolved
      exact ⟨hresolved.presence, hresolved.list, hresolved.named⟩
    named := fun k hk => ⟨a, List.mem_singleton_self a, hcarried k hk⟩
    atOnce := fun hfree b hb k hk => by
      obtain rfl := List.mem_singleton.mp hb
      rwa [hatOnce (hbusy.not.mpr hfree)]
    behind := fun hb => by
      obtain ⟨hc, hpool, hoccupancy, hhanded⟩ := hbehind (hbusy.mpr hb)
      rw [hclear]
      refine ⟨hc, hpool.trans (by rw [ht]; rfl), hoccupancy.trans (by rw [ht]; rfl), fun b hb k hk => ?_⟩
      obtain rfl := List.mem_singleton.mp hb
      exact hhanded k hk }

/-- R121, R132: EVAC-RELEASE queued at one station. -/
theorem queueMode_alarmed (a : LoopAddr) (s : State) : ∃ c, Alarmed [a] c s (queueMode false .evacRelease a s) := by
  have hmode := loseCarried_frame a .mode (s.setStation a { s.station a with mode := some .evacRelease })
  unfold queueMode
  dsimp only
  generalize loseCarried a .mode (s.setStation a { s.station a with mode := some .evacRelease }) = t at hmode
  have hhere : t.station a = { s.station a with mode := some .evacRelease } := by
    rw [hmode]
    exact State.setStation_station_same ..
  split
  · next hd =>
    obtain ⟨c, hc⟩ := loseCommand_lost (s.station a) (replaceDecision a none t)
    refine ⟨c, ?_⟩
    rw [discardDecision_eq, hhere]
    refine alarmed_discarded (p := (replaceDecision a none t).polling) ?_ hc
    rw [replaceDecision, hhere, hmode]
    simp only [State.setStation, put_put]
  · next hd =>
    refine ⟨[], alarmed_mode ?_ hmode⟩
    cases h : (s.station a).decision with
    | none => rfl
    | some d => exact absurd (by rw [hhere]; exact h) (hd d rfl)

theorem queueModes_alarmed (as : List LoopAddr) (s : State) :
    ∃ w, Alarmed as w s (as.foldl (fun s a => queueMode false .evacRelease a s) s) := by
  induction as generalizing s with
  | nil => exact ⟨[], .refl s⟩
  | cons a as ih =>
    obtain ⟨c, hc⟩ := queueMode_alarmed a s
    obtain ⟨w, hw⟩ := ih (queueMode false .evacRelease a s)
    exact ⟨c ++ w, hc.trans hw⟩

end Sys2Proof.Machine
end

section
/-! An evacuation's first edge (O46): its announcement, every door put in EVACUATION with its tied set untied, every hold ended, and
what they leave together. -/

namespace Sys2Proof.Machine

open Claims

/-! ### The doors -/

/-- R132: a door put in EVACUATION with nobody tied to it. -/
def Door.evacuated (d : Door) : Door := { d with state := .evacuation, openingPending := false, tied := [] }

/-- R111, R132: the doors of the rooms `rs` are in EVACUATION, and those on their running releases, `v`, cease to be carried. -/
structure DoorsOpened (rs : List RoomNo) (v : List PoolIx) (s t : State) : Prop where
  rest : t = { s with stations := t.stations, doors := t.doors, heldEffects := t.heldEffects }
  station : ∀ a, t.station a = (s.station a).without v
  effects : t.heldEffects = s.heldEffects.map (·.without v)
  door : ∀ r ∈ rs, t.door r = (s.door r).evacuated
  doorOther : ∀ r, r ∉ rs → t.door r = (s.door r).without v
  named : ∀ k ∈ v, ∃ r ∈ rs, k ∈ onRelease s r
  untied : ∀ r ∈ rs, ∀ k ∈ onRelease s r, k ∈ v

namespace DoorsOpened

variable {rs qs : List RoomNo} {v c : List PoolIx} {s t u : State}

theorem refl (s : State) : DoorsOpened [] [] s s :=
  ⟨rfl, fun _ => by simp, by simp [PresenceEffect.without_nil], by simp, fun _ _ => by simp, by simp, by simp⟩

theorem held (h : DoorsOpened rs v s t) : HeldWithout v s t := ⟨[], by simp, by rw [h.effects, List.append_nil]⟩

theorem kept (h : DoorsOpened rs v s t) : Kept s t := by
  rw [h.rest]
  constructor <;> rfl

theorem mem_onRelease (h : DoorsOpened rs v s t) (r : RoomNo) (k : PoolIx) : k ∈ onRelease t r ↔ k ∈ onRelease s r ∧ k ∉ v := by
  have hties := h.held.tiesAt r k
  by_cases hr : r ∈ rs
  · have hall := h.untied r hr k
    simp only [onRelease, List.mem_append, h.door r hr, Door.evacuated, List.not_mem_nil, false_or, hties] at hall ⊢
    exact ⟨fun hk => ⟨.inr hk.1, hk.2⟩, fun hk => absurd (hall hk.1) hk.2⟩
  · simp only [onRelease, List.mem_append, h.doorOther r hr, Door.without, List.mem_filter, decide_eq_true_eq, hties, or_and_right]

theorem evacuated_again (h : DoorsOpened rs v s t) (r : RoomNo) : (t.door r).evacuated = (s.door r).evacuated := by
  by_cases hr : r ∈ rs
  · rw [h.door r hr]
    rfl
  · rw [h.doorOther r hr]
    rfl

theorem trans (h : DoorsOpened rs v s t) (k : DoorsOpened qs c t u) : DoorsOpened (rs ++ qs) (v ++ c) s u where
  rest := k.rest.trans (by rw [h.rest])
  station := fun a => by rw [k.station, h.station, Station.without_without]
  effects := by
    rw [k.effects, h.effects, List.map_map]
    simp only [Function.comp_def, PresenceEffect.without_without]
  door := fun r hr => by
    by_cases hq : r ∈ qs
    · rw [k.door r hq, h.evacuated_again]
    · rw [k.doorOther r hq, h.door r ((List.mem_append.mp hr).resolve_right hq)]
      rfl
  doorOther := fun r hr => by
    obtain ⟨hrs, hqs⟩ := not_or.mp (List.mem_append.not.mp hr)
    rw [k.doorOther r hqs, h.doorOther r hrs, Door.without_without]
  named := fun i hi => by
    rcases List.mem_append.mp hi with hi | hi
    · exact (h.named i hi).imp fun _ => And.imp_left (List.mem_append_left _)
    · obtain ⟨r, hr, hon⟩ := k.named i hi
      exact ⟨r, List.mem_append_right _ hr, ((h.mem_onRelease r i).mp hon).1⟩
  untied := fun r hr i hi => by
    by_cases hv : i ∈ v
    · exact List.mem_append_left _ hv
    · have hqs : r ∈ qs := (List.mem_append.mp hr).resolve_left fun hrs => hv (h.untied r hrs i hi)
      exact List.mem_append_right _ (k.untied r hqs i ((h.mem_onRelease r i).mpr ⟨hi, hv⟩))

/-- R104, R111: nobody is left to be tied to an opened door. -/
theorem nobody_tied (h : DoorsOpened rs v s t) {r : RoomNo} {who : List PoolIx} (hr : r ∈ rs) (he : PresenceEffect.tie r who ∈ t.heldEffects) :
    who = [] := by
  have hon : ∀ k ∈ who, k ∈ onRelease t r := fun k hk =>
    List.mem_append_right _ (List.mem_flatMap.mpr ⟨_, he, by simpa [PresenceEffect.tiesAt] using hk⟩)
  refine List.eq_nil_iff_forall_not_mem.mpr fun k hk => ?_
  obtain ⟨hs, hv⟩ := (h.mem_onRelease r k).mp (hon k hk)
  exact hv (h.untied r hr k hs)

end DoorsOpened

theorem uncarry_nil (s : State) : uncarry [] s = s := by
  have hstations : mapAll (Station.without []) s.stations = s.stations := table_ext fun a => by rw [look_mapAll, Station.without_nil]
  have hdoors : mapAll (Door.without []) s.doors = s.doors := table_ext fun r => by rw [look_mapAll, Door.without_nil]
  have heffects : s.heldEffects.map (·.without []) = s.heldEffects := by simp only [PresenceEffect.without_nil, List.map_id']
  calc uncarry [] s = { s with
        stations := mapAll (Station.without []) s.stations, doors := mapAll (Door.without []) s.doors
        heldEffects := s.heldEffects.map (·.without []) } := rfl
    _ = s := by rw [hstations, hdoors, heffects]

theorem evacuateDoor_opened (r : RoomNo) (s : State) : DoorsOpened [r] (onRelease s r) s (evacuateDoor s r) := by
  have hsame : onRelease (s.setDoor r { s.door r with state := .evacuation, openingPending := false }) r = onRelease s r := by
    simp [onRelease]
  have huncarry : evacuateDoor s r = uncarry (onRelease s r) (s.setDoor r { s.door r with state := .evacuation, openingPending := false }) := by
    unfold evacuateDoor untie
    dsimp only
    rw [hsame]
    split
    · next hnobody => rw [List.isEmpty_iff.mp hnobody, uncarry_nil]
    · rfl
  have htied : (s.door r).tied.filter (· ∉ onRelease s r) = [] :=
    List.filter_eq_nil_iff.mpr fun i hi => by simp [onRelease, hi]
  rw [huncarry]
  have h := uncarry_uncarried (s.setDoor r { s.door r with state := .evacuation, openingPending := false }) (onRelease s r)
  refine ⟨rfl, h.station, rfl, fun q hq => ?_, fun q hq => ?_, fun k hk => ⟨r, List.mem_singleton_self r, hk⟩, fun q hq k hk => ?_⟩
  · obtain rfl := List.mem_singleton.mp hq
    rw [h.door, State.setDoor_door_same, Door.without, Door.evacuated, htied]
  · rw [h.door, State.setDoor_door_other _ _ _ fun e => hq (List.mem_singleton.mpr e.symm)]
  · obtain rfl := List.mem_singleton.mp hq
    exact hk

theorem evacuateDoors_opened (rs : List RoomNo) (s : State) : ∃ v, DoorsOpened rs v s (rs.foldl evacuateDoor s) := by
  induction rs generalizing s with
  | nil => exact ⟨[], .refl s⟩
  | cons r rs ih =>
    obtain ⟨v, hv⟩ := ih (evacuateDoor s r)
    exact ⟨_, (evacuateDoor_opened r s).trans hv⟩

/-! ### The holds -/

/-- R92: the record of a room's hold that an evacuation ends. -/
def holdEnded (s : State) (r : RoomNo) : Option JournalBody :=
  (s.hold r).map fun h =>
    { kind := .holdCancelled, station := entryStation s r, room := some r, badge := some h.badge
      permit := (s.permit h.slot).map (·.number), outcome := some (.reason .evacuation) }

theorem holdsCancelled_eq (s : State) : holdsCancelled s = (List.finRange 64).filterMap (holdEnded s) := rfl

theorem holdEnded_kept {s t : State} (h : Kept s t) {r : RoomNo} (hr : t.hold r = s.hold r) : holdEnded t r = holdEnded s r := by
  simp only [holdEnded, hr, entryStation_kept h, permit_of_permits h.permits]

/-- R92: the holds of the rooms `rs` ended, each with its record, and nothing else changed. -/
structure HoldsEnded (rs : List RoomNo) (s t : State) : Prop where
  rest : t = { s with holds := t.holds, journal := t.journal, nextSequence := t.nextSequence }
  ended : ∀ r ∈ rs, t.hold r = none
  other : ∀ r, r ∉ rs → t.hold r = s.hold r
  recorded : Recorded (rs.filterMap (holdEnded s)) s t

theorem HoldsEnded.kept {rs : List RoomNo} {s t : State} (h : HoldsEnded rs s t) : Kept s t := by
  rw [h.rest]
  constructor <;> rfl

theorem cancelHold_ended (r : RoomNo) {s : State} (hs : s.supply = .normal) :
    HoldsEnded [r] s (cancelHold (entryStation s r) (some .evacuation) s r) := by
  unfold cancelHold
  cases hr : s.hold r with
  | none =>
    refine ⟨rfl, fun q hq => ?_, fun q _ => rfl, ?_⟩
    · obtain rfl := List.mem_singleton.mp hq
      exact hr
    · rw [List.filterMap_cons_none (by rw [holdEnded, hr]; rfl)]
      exact .of_same rfl
  | some h =>
    have hwritten : Recorded [_] (s.setHold r none) (holdRecord .holdCancelled (entryStation s r) r h (some .evacuation) (s.setHold r none)) :=
      writeJournal_recorded _ hs
    have hhold : ∀ q, (holdRecord .holdCancelled (entryStation s r) r h (some .evacuation) (s.setHold r none)).hold q =
        (s.setHold r none).hold q := (writeJournal_uncarried ..).hold
    refine ⟨?_, fun q hq => ?_, fun q hq => ?_, ?_⟩
    · dsimp only
      rw [holdRecord, writeJournal_frame]
      rfl
    · obtain rfl := List.mem_singleton.mp hq
      rw [hhold, State.setHold_hold_same]
    · rw [hhold, State.setHold_hold_other _ _ _ fun e => hq (List.mem_singleton.mpr e.symm)]
    · rw [List.filterMap_cons_some (by rw [holdEnded, hr]; rfl)]
      exact hwritten

theorem HoldsEnded.trans {rs qs : List RoomNo} {s t u : State} (h : HoldsEnded rs s t) (k : HoldsEnded qs t u) (hd : ∀ r ∈ qs, r ∉ rs) :
    HoldsEnded (rs ++ qs) s u where
  rest := k.rest.trans (by rw [h.rest])
  ended := fun r hr => by
    by_cases hq : r ∈ qs
    · exact k.ended r hq
    · exact (k.other r hq).trans (h.ended r ((List.mem_append.mp hr).resolve_right hq))
  other := fun r hr => by
    obtain ⟨hrs, hqs⟩ := not_or.mp (List.mem_append.not.mp hr)
    exact (k.other r hqs).trans (h.other r hrs)
  recorded := by
    have hsame : qs.filterMap (holdEnded t) = qs.filterMap (holdEnded s) :=
      List.filterMap_congr fun r hr => holdEnded_kept h.kept (h.other r (hd r hr))
    rw [List.filterMap_append, ← hsame]
    exact h.recorded.trans k.recorded

theorem cancelHolds_ended (rs : List RoomNo) (hn : rs.Nodup) {s : State} (hs : s.supply = .normal) :
    HoldsEnded rs s (rs.foldl (fun s r => cancelHold (entryStation s r) (some .evacuation) s r) s) := by
  induction rs generalizing s with
  | nil => exact ⟨rfl, nofun, fun _ _ => rfl, .of_same rfl⟩
  | cons r rs ih =>
    obtain ⟨hr, hrs⟩ := List.nodup_cons.mp hn
    have hone := cancelHold_ended r hs
    exact hone.trans (ih hrs (hone.kept.supply.trans hs)) fun q hq e => hr (List.mem_singleton.mp e ▸ hq)

end Sys2Proof.Machine
end

section
/-! What an evacuation's first edge leaves (O46): the statement's clauses, each read off the commands, the doors and the holds. -/

namespace Sys2Proof.Machine

open Claims

/-! ### The announcement -/

/-- R132: the line taken, and the evacuation announced. -/
def edgeAnnounced (s : State) : State :=
  announceEvacuation { s with evacuateLine := true, evacuateTaken := true, evacuating := true, edgeCount := 1 }

/-- R132, R161: the announcement goes to the queues, with the attention lines, and to the journal. -/
structure EdgeAnnounced (s t : State) : Prop where
  rest : t = { s with
    evacuateLine := true, evacuateTaken := true, evacuating := true, edgeCount := 1
    notices := t.notices, journal := t.journal, nextSequence := t.nextSequence, ports := t.ports }
  journal : t.journal = s.journal.drop (s.journal.length + 1 - 512) ++
    [⟨s.nextSequence, s.clock, { kind := .evacStart, value := some 1 }⟩]
  notice : ∀ l, (s.queue l).notices.length < 32 → (⟨{ kind := .evacuation, figures := .value 1 }, 7, s.clock⟩ : Notice) ∈ (t.queue l).notices

theorem edgeAnnounced_announced {s : State} (hs : s.supply = .normal) : EdgeAnnounced s (edgeAnnounced s) := by
  have hposted := post_frame { kind := .evacuation, figures := .value 1 }
    { s with evacuateLine := true, evacuateTaken := true, evacuating := true, edgeCount := 1 }
  have hqueue := post_both_queue { kind := .evacuation, figures := .value 1 }
    { s with evacuateLine := true, evacuateTaken := true, evacuating := true, edgeCount := 1 } rfl hs
  unfold edgeAnnounced announceEvacuation
  dsimp only at hposted hqueue ⊢
  generalize post { kind := .evacuation, figures := .value 1 }
    { s with evacuateLine := true, evacuateTaken := true, evacuating := true, edgeCount := 1 } = u at hposted hqueue
  have hu : u.supply = .normal := by
    rw [hposted]
    exact hs
  refine ⟨?_, ?_, fun l hl => ?_⟩
  · rw [writeJournal_frame, hposted]
  · rw [writeJournal_normal _ u hu, hposted]
    rfl
  · rw [writeJournal_queue, hqueue]
    show _ ∈ ((s.queue l).offer _).1.notices
    rw [offer_room _ _ hl]
    exact List.mem_append_right _ (List.mem_singleton_self _)

/-! ### From the announcement to the last hold -/

/-- R92, R111, R121, R132: what follows the announcement, in its order: the commands at the polled addresses, the doors, the holds. -/
structure EdgeTaken (w v : List PoolIx) (s t u x : State) : Prop where
  commands : Alarmed (polledAddresses s) w s t
  doors : DoorsOpened (List.finRange 64) v t u
  holds : HoldsEnded (List.finRange 64) u x
  records : RecordsUnused s t
  works : Works s x

theorem startEvacuation_taken {s : State} (hs : s.supply = .normal) :
    ∃ w v t u, EdgeTaken w v (edgeAnnounced s) t u (startEvacuation { s with evacuateLine := true, evacuateTaken := true }) := by
  have hnormal : (edgeAnnounced s).supply = .normal := by
    rw [(edgeAnnounced_announced hs).rest]
    exact hs
  obtain ⟨w, hw⟩ := queueModes_alarmed (polledAddresses (edgeAnnounced s)) (edgeAnnounced s)
  obtain ⟨v, hv⟩ := evacuateDoors_opened (List.finRange 64) (queueModeEverywhere false .evacRelease (edgeAnnounced s))
  refine ⟨w, v, _, _, hw, hv, cancelHolds_ended _ (List.nodup_finRange 64) (hv.kept.supply.trans (hw.kept.supply.trans hnormal)),
    RecordsUnused.foldl (fun s a => queueMode_recordsUnused .evacRelease a s) _ _, ?_⟩
  have hcommands : Works (edgeAnnounced s) (queueModeEverywhere false .evacRelease (edgeAnnounced s)) :=
    (Works.refl _).then_queueModeEverywhere
  have hdoors : Works (edgeAnnounced s) ((List.finRange 64).foldl evacuateDoor (queueModeEverywhere false .evacRelease (edgeAnnounced s))) :=
    Works.then_foldl (fun _ _ hu => hu.then_evacuateDoor) _ hcommands
  exact Works.then_foldl (fun _ _ hu => hu.then_cancelHold) _ hdoors

namespace EdgeTaken

variable {w v : List PoolIx} {s t u x : State}

theorem kept (h : EdgeTaken w v s t u x) : Kept s x := (h.commands.kept.trans h.doors.kept).trans h.holds.kept

theorem station (h : EdgeTaken w v s t u x) {a : LoopAddr} (ha : Polled s a) :
    (x.station a).mode = some .evacRelease ∧ (x.station a).decision = none := by
  obtain ⟨hmode, hnone⟩ := h.commands.alarmed a ((mem_polledAddresses s a).mpr ha)
  have hx : x.station a = (t.station a).without v := by
    rw [h.holds.rest]
    exact h.doors.station a
  rw [hx, Station.without_of_none hnone]
  exact ⟨hmode, hnone⟩

theorem door (h : EdgeTaken w v s t u x) (r : RoomNo) : x.door r = (s.door r).evacuated := by
  have hx : x.door r = (t.door r).evacuated := by
    rw [h.holds.rest]
    exact h.doors.door r (List.mem_finRange r)
  rw [hx, h.commands.door]
  rfl

theorem heldEffects (h : EdgeTaken w v s t u x) : x.heldEffects = u.heldEffects := by rw [h.holds.rest]

theorem nobody_tied (h : EdgeTaken w v s t u x) {r : RoomNo} {who : List PoolIx} (he : PresenceEffect.tie r who ∈ x.heldEffects) : who = [] :=
  h.doors.nobody_tied (List.mem_finRange r) (h.heldEffects ▸ he)

theorem pool (h : EdgeTaken w v s t u x) : x.pool = t.pool := by rw [h.holds.rest, h.doors.rest]

theorem occupancy (h : EdgeTaken w v s t u x) : x.occupancy = t.occupancy := by rw [h.holds.rest, h.doors.rest]

theorem presence (h : EdgeTaken w v s t u x) (i : PoolIx) : x.presence i = t.presence i := by rw [State.presence, h.pool]; rfl

/-- R111, R132: other presences stay. -/
theorem presence_kept (h : EdgeTaken w v s t u x) {i : PoolIx} (hi : ∀ a, Polled s a → i ∉ carriedOn (s.station a)) :
    x.presence i = s.presence i := by
  rw [h.presence]
  refine h.commands.register.presence i fun hw => ?_
  obtain ⟨a, ha, hcarried⟩ := h.commands.named i hw
  exact hi a ((mem_polledAddresses s a).mp ha) hcarried

/-- R103, R121: with no turn in progress the presences of the commands are resolved at once. -/
theorem presence_resolved (h : EdgeTaken w v s t u x) (hfree : ¬ Busy s) {a : LoopAddr} {i : PoolIx} {p : Presence} (ha : Polled s a)
    (hi : i ∈ carriedOn (s.station a)) (hp : Pristine i p s) : x.presence i = p.unused := by
  rw [h.presence]
  exact h.commands.register.named i (h.commands.atOnce hfree a ((mem_polledAddresses s a).mpr ha) i hi) p hp

/-- R104: in a turn their resolution is held, but for those on a door's running release, who are untied. -/
theorem handed (h : EdgeTaken w v s t u x) (hbusy : Busy s) {a : LoopAddr} {i : PoolIx} (ha : Polled s a)
    (hi : i ∈ carriedOn (s.station a)) (hr : ∀ r, i ∉ running s r) : HandedOver i x := by
  obtain ⟨-, -, -, hhanded⟩ := h.commands.behind hbusy
  have hv : i ∉ v := fun hv => by
    obtain ⟨r, -, hon⟩ := h.doors.named i hv
    refine hr r (running_eq s r ▸ ?_)
    simp only [onRelease, List.mem_append, h.commands.door, Door.without, List.mem_filter, h.commands.held.tiesAt] at hon ⊢
    exact hon.imp And.left And.left
  have hu := h.doors.held.handedOver hv (hhanded a ((mem_polledAddresses s a).mpr ha) i hi)
  rwa [HandedOver, h.heldEffects]

theorem register_kept (h : EdgeTaken w v s t u x) (hbusy : Busy s) : x.pool = s.pool ∧ x.occupancy = s.occupancy := by
  obtain ⟨-, hpool, hoccupancy, -⟩ := h.commands.behind hbusy
  exact ⟨h.pool.trans hpool, h.occupancy.trans hoccupancy⟩

theorem hold (h : EdgeTaken w v s t u x) (r : RoomNo) : x.hold r = none := h.holds.ended r (List.mem_finRange r)

/-- R92, R103: the records of the resolutions, and then those of the holds. -/
theorem recorded (h : EdgeTaken w v s t u x) : ∃ mid, Recorded (mid ++ holdsCancelled s) s x ∧ ∀ b ∈ mid, UnusedRecord b := by
  obtain ⟨mid, hmid, hall⟩ := h.records
  have hdoors : Recorded [] t u := .of_same (by rw [h.doors.rest])
  have hkept : Kept s u := h.commands.kept.trans h.doors.kept
  have hhold : ∀ r, u.hold r = s.hold r := fun r => by
    rw [← h.commands.hold, h.doors.rest]
    rfl
  have hholds : (List.finRange 64).filterMap (holdEnded u) = holdsCancelled s :=
    List.filterMap_congr fun r _ => holdEnded_kept hkept (hhold r)
  have hrecorded := (hmid.trans hdoors).trans h.holds.recorded
  rw [List.append_nil, hholds] at hrecorded
  exact ⟨mid, hrecorded, hall⟩

theorem lastServed (h : EdgeTaken w v s t u x) : x.lastServed = s.lastServed := by
  rw [h.holds.rest, h.doors.rest]
  exact h.commands.lastServed

theorem counters (h : EdgeTaken w v s t u x) : x.counters = s.counters := by
  rw [h.holds.rest, h.doors.rest]
  exact h.commands.counters

/-- R153: a notice of the highest level stays. -/
theorem notice (h : EdgeTaken w v s t u x) {n : Notice} (hn : n.level = 7) {l : Link} (hm : n ∈ (s.queue l).notices) :
    n ∈ (x.queue l).notices :=
  List.count_pos_iff.mp ((List.count_pos_iff.mpr hm).trans_le (h.works.count_le hn l))

end EdgeTaken

/-- R132, R162: the journal after the edge begins with the announcement. -/
theorem EdgeAnnounced.journal_after {s t x : State} {bs : List JournalBody} (h : EdgeAnnounced s t) (k : Recorded bs t x) :
    ∃ later, later.map JournalRecord.body = bs ∧ x.journal = (s.journal ++
      (⟨s.nextSequence, s.clock, { kind := .evacStart, value := some 1 }⟩ : JournalRecord) :: later).drop
        (s.journal.length + 1 + later.length - 512) := by
  have hlen : t.journal.length ≤ 512 := by
    rw [h.journal]
    simp
    omega
  obtain ⟨-, later, hbs, hlater⟩ := k hlen
  rw [h.journal] at hlater
  exact ⟨later, hbs, hlater.trans (drop_record_drop (by decide) s.journal later _)⟩

/-- R132: the frame of the edge. -/
theorem EdgeTaken.eq_with {w v : List PoolIx} {s s' t u x : State} (ha : EdgeAnnounced s s') (h : EdgeTaken w v s' t u x) : x = { s with
    evacuateLine := true, evacuateTaken := true, evacuating := true, edgeCount := 1, stations := x.stations, doors := x.doors
    holds := x.holds, pool := x.pool, occupancy := x.occupancy, heldEffects := x.heldEffects, readQueue := x.readQueue
    turn := x.turn, polling := x.polling, notices := x.notices, journal := x.journal, nextSequence := x.nextSequence
    ports := x.ports, freeUsed := x.freeUsed } := by
  have hall := h.kept.eq_with
  rw [h.lastServed, h.counters, ha.rest] at hall
  exact hall

end Sys2Proof.Machine
end

section
/-! The rising edge of EVACUATE (O46), clause by clause. -/

namespace Sys2Proof.Machine

open Claims

theorem exec_evacuateRise_first {s : State} (hs : s.supply = .normal) (hl : s.evacuateLine = false) (he : s.evacuating = false) :
    exec .evacuateRise s = .next (startEvacuation { s with evacuateLine := true, evacuateTaken := true }) := by
  simp only [exec, execEvacuateRise, hs, hl, he, Bool.false_eq_true, if_false]

theorem exec_evacuateRise_further {s : State} (hs : s.supply = .normal) (hl : s.evacuateLine = false) (he : s.evacuating = true) :
    exec .evacuateRise s = .next (furtherEdge { s with evacuateLine := true, evacuateTaken := true }) := by
  simp only [exec, execEvacuateRise, hs, hl, he, Bool.false_eq_true, if_false]

theorem exec_evacuateRise_high {s : State} (hl : s.evacuateLine = true) : exec .evacuateRise s = .next s := by
  simp only [exec, execEvacuateRise, hl, if_true]

/-- R133: in BACKUP the line is read and not taken. -/
theorem exec_evacuateRise_backup {s : State} (hs : s.supply = .backup) : exec .evacuateRise s = .next { s with evacuateLine := true } := by
  cases hl : s.evacuateLine with
  | true =>
    have hsame : s = { s with evacuateLine := true } := by rw [← hl]
    exact (exec_evacuateRise_high hl).trans (congrArg Host.Outcome.next hsame)
  | false => simp only [exec, execEvacuateRise, hs, hl, Bool.false_eq_true, if_false]

theorem exec_evacuateFall_backup {s : State} (hs : s.supply = .backup) : exec .evacuateFall s = .next { s with evacuateLine := false } := by
  simp only [exec, execEvacuateFall, hs]

theorem exec_evacuateFall_normal {s : State} (hs : s.supply = .normal) :
    exec .evacuateFall s = .next { s with evacuateLine := false, evacuateTaken := false } := by
  simp only [exec, execEvacuateFall, hs]

/-- R132: the announcement leaves everything that the commands, the doors and the holds are read from. -/
theorem EdgeAnnounced.taken_from {w v : List PoolIx} {s s' t u x : State} (ha : EdgeAnnounced s s') (h : EdgeTaken w v s' t u x) :
    EdgeTaken w v { s with
      evacuateLine := true, evacuateTaken := true, evacuating := true, edgeCount := 1
      notices := s'.notices, journal := s'.journal, nextSequence := s'.nextSequence, ports := s'.ports } t u x :=
  ha.rest ▸ h

end Sys2Proof.Machine
end

section
/-! ALL CLEAR (O46): its commands, its presences carried on nothing, and its register, read off that of a reset. -/

namespace Sys2Proof.Machine

open Claims

/-! ### RESUME-NORMAL -/

/-- R121: RESUME-NORMAL replaces no decision command. -/
theorem queueMode_resume (own : Bool) (a : LoopAddr) (s : State) : ∃ p,
    queueMode own .resumeNormal a s = { s.setStation a { s.station a with mode := some .resumeNormal } with polling := p } :=
  ⟨_, loseCarried_frame a .mode _⟩

theorem queueModes_resume (own : Bool) (as : List LoopAddr) (s : State) : ∃ p,
    ModesQueued .resumeNormal as { s with polling := p } (as.foldl (fun s a => queueMode own .resumeNormal a s) s) := by
  induction as generalizing s with
  | nil => exact ⟨s.polling, rfl, fun a => rfl⟩
  | cons b as ih =>
    obtain ⟨q, hq⟩ := queueMode_resume own b s
    rw [List.foldl_cons, hq]
    obtain ⟨p, hrest, hstation⟩ := ih { s.setStation b { s.station b with mode := some .resumeNormal } with polling := q }
    have hmode : (s.setStation b { s.station b with mode := some .resumeNormal }).station = fun a =>
        if a = b then { s.station a with mode := some .resumeNormal } else s.station a := funext fun a => by
      by_cases h : a = b
      · subst h
        simp
      · simp [h, Ne.symm h]
    refine ⟨p, hrest.trans rfl, fun a => (hstation a).trans ?_⟩
    show (if a ∈ as then { State.station _ a with mode := some .resumeNormal } else State.station _ a) =
      if a ∈ b :: as then { s.station a with mode := some .resumeNormal } else s.station a
    rw [show State.station { s.setStation b _ with polling := p } a = _ from congrFun hmode a]
    by_cases hb : a = b <;> simp [hb]

/-! ### Presences carried on nothing -/

theorem sweepOne_uncarried (become : PresenceState → Option PresenceState) (record : Bool) (x : State × List (RoomNo × Nat)) (i : PoolIx) :
    ∃ w, Uncarried w x.1 (sweepOne become record x i).1 := by
  unfold sweepOne
  split
  · exact ⟨[], .refl _⟩
  · split
    · exact ⟨[], setPresenceState_uncarried ..⟩
    · obtain ⟨w, -, h⟩ := removePresence_uncarried x.1 i
      refine ⟨w, ?_⟩
      dsimp only
      split
      · exact h.then_quiet (writeJournal_uncarried ..)
      · exact h

theorem sweepOne_sameHeld (become : PresenceState → Option PresenceState) (record : Bool) (x : State × List (RoomNo × Nat)) (i : PoolIx) :
    SameHeld x.1 (sweepOne become record x i).1 := by
  unfold sweepOne
  split
  · exact .refl _
  · split
    · exact setPresenceState_sameHeld ..
    · dsimp only
      split
      · exact (removePresence_sameHeld ..).trans (writeJournal_sameHeld ..)
      · exact removePresence_sameHeld ..

theorem changePresences_uncarried (become : PresenceState → Option PresenceState) (record : Bool) (s : State) :
    Uncarried (List.finRange 128) s (changePresences become record s).1 := by
  refine List.foldlRecOn (motive := fun x : State × List (RoomNo × Nat) => Uncarried (List.finRange 128) s x.1) _ _ (uncarry_uncarried s _)
    fun x h i _ => ?_
  obtain ⟨w, hw⟩ := sweepOne_uncarried become record x i
  exact h.then_within hw fun i _ => List.mem_finRange i

/-- R115: after ALL CLEAR every presence is carried on nothing. -/
theorem presencesAtAllClear_uncarried (s : State) : Uncarried (List.finRange 128) s (presencesAtAllClear s) := by
  refine List.foldlRecOn (motive := Uncarried (List.finRange 128) s) _ _ (changePresences_uncarried loseSight true s) fun t h r _ => ?_
  split
  · exact h
  · exact h.then_quiet (reexamine_uncarried ..)

theorem presencesAtAllClear_sameHeld (s : State) : SameHeld s (presencesAtAllClear s) := by
  have hchange : SameHeld s (changePresences loseSight true s).1 :=
    (uncarry_sameHeld ..).trans (SameHeld.foldl_pair (fun x i => sweepOne_sameHeld loseSight true x i) _ (uncarry _ s, []))
  refine hchange.trans (SameHeld.foldl (fun t r => ?_) _ _)
  split
  · exact .refl t
  · exact reexamine_sameHeld ..

theorem filter_notMem_finRange (l : List PoolIx) : l.filter (· ∉ List.finRange 128) = [] :=
  List.filter_eq_nil_iff.mpr fun i _ => by simp

/-- R101: with every presence taken off the stations, the doors and the effects held, none is carried. -/
theorem isCarried_of_uncarried {s t : State} (h : Uncarried (List.finRange 128) s t) (k : SameHeld s t) (i : PoolIx) :
    isCarried t i = false := by
  obtain ⟨new, -, hheld⟩ := h.held
  have hnew : new = [] := by
    have hlen := congrArg List.length hheld
    rw [k.effects, List.length_append, List.length_map] at hlen
    exact List.length_eq_zero_iff.mp (by omega)
  have hdoors : ∀ d ∈ t.doors.toList, d.tied.contains i = false := fun d hd => by
    rw [toList_eq_looks] at hd
    obtain ⟨r, -, rfl⟩ := List.mem_map.mp hd
    rw [show look t.doors r = _ from h.door r, Door.without, filter_notMem_finRange]
    rfl
  have hstations : ∀ x ∈ t.stations.toList, (x.decision.any fun c => c.carries.contains i) = false := fun x hx => by
    rw [toList_eq_looks] at hx
    obtain ⟨a, -, rfl⟩ := List.mem_map.mp hx
    rw [show look t.stations a = _ from h.station a, Station.without]
    rcases (s.station a).decision with _ | _ | _ | _ <;>
      simp [DecisionCommand.without, DecisionCommand.carries]
  have heffects : ∀ e ∈ t.heldEffects, e.names.contains i = false := fun e he => by
    rw [hheld, hnew, List.append_nil] at he
    obtain ⟨f, -, rfl⟩ := List.mem_map.mp he
    cases f <;> simp [PresenceEffect.without, PresenceEffect.names]
  simp only [isCarried, isTied, List.any_eq_false.mpr fun d hd => Bool.eq_false_iff.mp (hdoors d hd),
    List.any_eq_false.mpr fun x hx => Bool.eq_false_iff.mp (hstations x hx),
    List.any_eq_false.mpr fun e he => Bool.eq_false_iff.mp (heffects e he), Bool.or_false]

/-! ### The register -/

/-- The same presences in the same lists, under the same rooms and clock. -/
structure SameRegister (s t : State) : Prop where
  pool : t.pool = s.pool := by rfl
  occupancy : t.occupancy = s.occupancy := by rfl
  rooms : t.rooms = s.rooms := by rfl
  clock : t.clock = s.clock := by rfl

namespace SameRegister

variable {s t u : State}

theorem trans (h : SameRegister s t) (k : SameRegister t u) : SameRegister s u :=
  ⟨k.pool.trans h.pool, k.occupancy.trans h.occupancy, k.rooms.trans h.rooms, k.clock.trans h.clock⟩

theorem presence (h : SameRegister s t) (i : PoolIx) : t.presence i = s.presence i := by rw [State.presence, State.presence, h.pool]

theorem roomState (h : SameRegister s t) (r : RoomNo) : t.roomState r = s.roomState r := by
  rw [State.roomState, State.roomState, h.occupancy]

theorem setPresence (h : SameRegister s t) (i : PoolIx) (x : Option Presence) : SameRegister (s.setPresence i x) (t.setPresence i x) :=
  ⟨congrArg (put · i x) h.pool, h.occupancy, h.rooms, h.clock⟩

theorem setRoomState (h : SameRegister s t) (r : RoomNo) (x : RoomOccupancy) : SameRegister (s.setRoomState r x) (t.setRoomState r x) :=
  ⟨h.pool, congrArg (put · r x) h.occupancy, h.rooms, h.clock⟩

theorem then_writeJournal (h : SameRegister s t) (b : JournalBody) : SameRegister s (writeJournal b t) := by
  rw [writeJournal_frame]
  exact h.trans {}

theorem setPresenceState (h : SameRegister s t) (i : PoolIx) (x : PresenceState) :
    SameRegister (setPresenceState i x s) (setPresenceState i x t) := by
  unfold Machine.setPresenceState
  rw [h.presence]
  cases s.presence i with
  | none => exact h
  | some p => exact h.setPresence ..

theorem removePresence (h : SameRegister s t) (i : PoolIx) : SameRegister (removePresence i s) (removePresence i t) := by
  unfold Machine.removePresence
  rw [h.presence]
  cases s.presence i with
  | none => exact h
  | some p =>
    have hroom := (h.setPresence i none).setRoomState p.room { s.roomState p.room with list := (s.roomState p.room).list.erase i }
    dsimp only
    rw [h.roomState]
    exact ⟨hroom.pool, hroom.occupancy, hroom.rooms, hroom.clock⟩

theorem refreshRoom (h : SameRegister s t) (r : RoomNo) : SameRegister (refreshRoom r s) (refreshRoom r t) := by
  have hsame : refreshed t r = refreshed s r := by
    simp only [refreshed, lonePresence, nowMinute, State.room, h.roomState, h.presence, h.rooms, h.clock]
  rw [refreshRoom_refreshed, refreshRoom_refreshed, hsame]
  exact h.setRoomState ..

theorem then_escortCheck (h : SameRegister s t) (r : RoomNo) (gone : List Nat) : SameRegister s (escortCheck r gone t) := by
  unfold escortCheck
  dsimp only
  split
  · exact h
  · refine SameRegister.then_writeJournal ?_ _
    rw [post_frame]
    split <;> exact h.trans {}

/-- R115: re-examined with its report or without it, a room is the same. -/
theorem reexamine (h : SameRegister s t) (r : RoomNo) (gone : List Nat) : SameRegister (Machine.refreshRoom r s) (reexamine r gone t) :=
  (h.refreshRoom r).then_escortCheck r gone

/-- R115: a presence is changed the same whether or not its removal is recorded. -/
theorem sweepOne {x y : State × List (RoomNo × Nat)} (h : SameRegister x.1 y.1) (become : PresenceState → Option PresenceState) (i : PoolIx) :
    SameRegister (sweepOne become false x i).1 (sweepOne become true y i).1 := by
  unfold Machine.sweepOne
  rw [h.presence]
  cases x.1.presence i with
  | none => exact h
  | some p =>
    dsimp only
    cases become p.state with
    | some st => exact h.setPresenceState i st
    | none => exact (h.removePresence i).then_writeJournal _

theorem changePresences (h : SameRegister s t) (become : PresenceState → Option PresenceState) :
    SameRegister (changePresences become false s).1 (changePresences become true t).1 := by
  refine List.foldl_rel (r := fun x y : State × List (RoomNo × Nat) => SameRegister x.1 y.1) ?_ fun i _ x y hxy => hxy.sweepOne become i
  exact ⟨h.pool, h.occupancy, h.rooms, h.clock⟩

/-- R115, R116: ALL CLEAR leaves the register that a reset losing sight of everyone leaves. -/
theorem allClear (h : SameRegister s t) : SameRegister (presencesAtReset loseSight s) (presencesAtAllClear t) := by
  unfold presencesAtReset presencesAtAllClear reexamineHeld
  refine List.foldl_rel (h.changePresences loseSight) fun r _ x y hxy => ?_
  rw [h.roomState]
  split
  · exact hxy
  · exact hxy.reexamine r _

end SameRegister

end Sys2Proof.Machine
end

section
/-! ALL CLEAR (O46): its service in its turn, and what each record of the part is after it. -/

namespace Sys2Proof.Machine

open Claims

/-! ### The doors and the service -/

/-- R134: a settled door is UNKNOWN with nothing known of its contact. -/
theorem settleDoor_evacuation {d : Door} (h : d.state = .evacuation) :
    settleDoor d = { d with state := .unknown .clear, contact := none, pushMark := false, openingPending := false } := by
  unfold settleDoor
  rw [h]

theorem settleDoor_other {d : Door} (h : d.state ≠ .evacuation) : settleDoor d = d := by
  unfold settleDoor
  split
  · next he => exact absurd he h
  · rfl

/-- R134: every door in EVACUATION settled. -/
def doorsSettled (s : State) : State := { s with doors := mapAll settleDoor s.doors }

/-- R115, R134: the part after ALL CLEAR's commands have been queued, `m`, and after its doors are settled and its presences are
changed, `u`. -/
structure AllClearTaken (s m u : State) : Prop where
  modes : ∃ p, ModesQueued .resumeNormal (polledAddresses s) { s with evacuating := false, edgeCount := 0, polling := p } m
  presences : u = presencesAtAllClear (doorsSettled m)

/-- R134: ALL CLEAR in its turn is accepted, journalled and answered. -/
theorem exec_allClear {l : Link} {s : State} (h : InTurn l .allClear s) (he : s.evacuating = true) (ht : s.evacuateTaken = false) :
    ∃ m u, AllClearTaken s m u ∧ exec (.allClear l) s =
      .next (endTurn (answered l .allClear .done .nothing (writeJournal { kind := .allClear } u))) := by
  obtain ⟨p, hp⟩ := queueModes_resume true (polledAddresses s) { s with evacuating := false, edgeCount := 0 }
  refine ⟨_, _, ⟨⟨p, hp⟩, rfl⟩, ?_⟩
  generalize hm : (polledAddresses s).foldl _ _ = m at hp
  have hserve : serveRequest l .allClear s = acceptAllClear l s := checked_passes l _ _ s (by simp [he, ht])
  have haccept : acceptAllClear l s =
      reply l .done .nothing (writeJournal { kind := .allClear } (presencesAtAllClear (doorsSettled m))) := by rw [← hm]; rfl
  have hport : ((presencesAtAllClear (doorsSettled m)).port l).inFlight = some ⟨.allClear, .handed⟩ := by
    obtain ⟨b, hb⟩ := (presencesAtAllClear_uncarried (doorsSettled m)).port l
    have hsame : (doorsSettled m).port l = s.port l := by
      rw [doorsSettled, hp.rest]
      rfl
    rw [hb, hsame]
    exact h.1.2
  rw [exec_inTurn rfl rfl h, hserve, haccept, reply_handed (r := .allClear) (by rw [writeJournal_port]; exact hport)]

/-! ### Each record of the part -/

namespace AllClearTaken

variable {s m u : State}

theorem uncarried (h : AllClearTaken s m u) : Uncarried (List.finRange 128) (doorsSettled m) u :=
  h.presences ▸ presencesAtAllClear_uncarried _

theorem nobodyCarried (h : AllClearTaken s m u) (i : PoolIx) : isCarried u i = false :=
  isCarried_of_uncarried h.uncarried (h.presences ▸ presencesAtAllClear_sameHeld _) i

theorem kept (h : AllClearTaken s m u) : Kept { s with evacuating := false, edgeCount := 0 } u := by
  obtain ⟨p, hrest, -⟩ := h.modes
  have hm : Kept { s with evacuating := false, edgeCount := 0 } (doorsSettled m) := by
    rw [doorsSettled, hrest]
    constructor <;> rfl
  exact hm.trans h.uncarried.kept

theorem mode (h : AllClearTaken s m u) {a : LoopAddr} (ha : Polled s a) : (u.station a).mode = some .resumeNormal := by
  obtain ⟨p, -, hstation⟩ := h.modes
  have hm : (m.station a).mode = some .resumeNormal := by
    rw [hstation, if_pos ((mem_polledAddresses s a).mpr ha)]
  rw [h.uncarried.station]
  exact hm

theorem door (h : AllClearTaken s m u) (r : RoomNo) : u.door r = (settleDoor (s.door r)).without (List.finRange 128) := by
  obtain ⟨p, hrest, -⟩ := h.modes
  have hm : (doorsSettled m).door r = settleDoor (s.door r) := by
    rw [doorsSettled, hrest]
    exact look_mapAll ..
  rw [h.uncarried.door, hm]

theorem door_settled (h : AllClearTaken s m u) {r : RoomNo} (hr : (s.door r).state = .evacuation) :
    (u.door r).state = .unknown .clear ∧ (u.door r).contact = none ∧ (u.door r).pushMark = false := by
  rw [h.door, settleDoor_evacuation hr]
  exact ⟨rfl, rfl, rfl⟩

theorem door_other (h : AllClearTaken s m u) {r : RoomNo} (hr : (s.door r).state ≠ .evacuation) :
    (u.door r).state = (s.door r).state := by
  rw [h.door, settleDoor_other hr]
  rfl

theorem hold (h : AllClearTaken s m u) (r : RoomNo) : u.hold r = s.hold r := by
  obtain ⟨p, hrest, -⟩ := h.modes
  rw [h.uncarried.hold, doorsSettled, hrest]
  rfl

theorem port (h : AllClearTaken s m u) (l : Link) : ∃ b, u.port l = { s.port l with attention := b } := by
  obtain ⟨p, hrest, -⟩ := h.modes
  have hport := h.uncarried.port l
  rw [doorsSettled, hrest] at hport
  exact hport

/-- R115: the register is that of a reset that loses sight of everyone. -/
theorem register (h : AllClearTaken s m u) : SameRegister (presencesAtReset loseSight (quiesce s)) u := by
  obtain ⟨p, hrest, -⟩ := h.modes
  have hquiet : SameRegister (quiesce s) (doorsSettled m) := by
    rw [doorsSettled, hrest]
    constructor <;> rfl
  exact h.presences ▸ hquiet.allClear

theorem presence (h : AllClearTaken s m u) (i : PoolIx) : u.presence i = (s.presence i).bind fun p =>
    if p.state = .arriving then none else some { p with state := .unverified } := by
  have hsame : (quiesce s).presence i = s.presence i := rfl
  rw [h.register.presence, presencesAtReset_presence loseSight (quiesce_carriesNobody s), changed, hsame]
  refine congrArg (Option.bind _) (funext fun p => ?_)
  rcases p with ⟨_, _, _, _, x, _⟩
  cases x <;> rfl

theorem refreshed (h : AllClearTaken s m u) (hl : Listed s) (r : RoomNo) : Refreshed s u r := by
  have hr := presencesAtReset_refreshed (become := loseSight) (fun x => by cases x <;> rfl) (quiesce_carriesNobody s) hl r
  have hs : Refreshed s (presencesAtReset loseSight (quiesce s)) r :=
    ⟨hr.list, hr.untouched, hr.mark, hr.nobody, hr.same, hr.fresh⟩
  exact refreshed_of_register h.register.pool h.register.occupancy h.register.rooms hs

end AllClearTaken

/-! ### The record, the reply and the turn's end -/

/-- R134: the record, the reply and the turn's end leave the rest of the part. -/
theorem allClear_ended (l : Link) (u : State) : ∃ journal next ports turn lastServed readQueue,
    endTurn (answered l .allClear .done .nothing (writeJournal { kind := .allClear } u)) = { u with
      journal := journal, nextSequence := next, ports := ports, turn := turn, lastServed := lastServed, readQueue := readQueue } := by
  rw [endTurn_frame, answered, writeJournal_frame]
  exact ⟨_, _, _, _, _, _, rfl⟩

theorem endTurn_journal (s : State) : (endTurn s).journal = s.journal := by rw [endTurn_frame]

/-- R134, R162: its record is the last. -/
theorem allClear_journal (l : Link) {u : State} (hs : u.supply = .normal) : ∃ n,
    (endTurn (answered l .allClear .done .nothing (writeJournal { kind := .allClear } u))).journal.getLast? =
      some ⟨n, u.clock, { kind := .allClear }⟩ := by
  have hjournal : (answered l .allClear .done .nothing (writeJournal { kind := .allClear } u)).journal =
      (writeJournal { kind := .allClear } u).journal := rfl
  rw [endTurn_journal, hjournal, writeJournal_normal _ u hs]
  exact ⟨u.nextSequence, List.getLast?_concat⟩

theorem allClear_transmit (l : Link) (u : State) :
    ((endTurn (answered l .allClear .done .nothing (writeJournal { kind := .allClear } u))).port l).transmit =
      (u.port l).transmit.take 3 ++ [⟨Request.allClear.code, .done, .nothing, true⟩] := by
  rw [endTurn_port, answered, State.setPort_port_same, writeJournal_port]

end Sys2Proof.Machine

open Sys2Proof Sys2Proof.Machine Sys2Proof.Claims in
/-- Settles O46: the first edge is its announcement, then the commands, the doors and the holds, each a fold with its own law; a further
edge and a fall are their rows unfolded; and ALL CLEAR's register is that of a reset that loses sight of everyone. -/
theorem evacuationBeginsAndEnds : Obligations.EvacuationBeginsAndEnds := by
  refine ⟨fun s hs hline hcalm => ?first, fun s hs hline he => exec_evacuateRise_further hs hline he,
    fun s => ⟨exec_evacuateRise_high, fun hs => ⟨exec_evacuateRise_backup hs, exec_evacuateFall_backup hs⟩, exec_evacuateFall_normal⟩,
    fun l s hturn he ht => ?allClear⟩
  case first =>
    have ha := edgeAnnounced_announced hs
    obtain ⟨w, v, t, u, h⟩ := startEvacuation_taken hs
    rw [exec_evacuateRise_first hs hline hcalm]
    generalize startEvacuation { s with evacuateLine := true, evacuateTaken := true } = x at h
    obtain ⟨mid, hmid, hunused⟩ := h.recorded
    obtain ⟨later, hbodies, hjournal⟩ := ha.journal_after hmid
    have hframe := h.eq_with ha
    have hedge := ha.taken_from h
    have hlines : x.evacuateLine = true ∧ x.evacuateTaken = true ∧ x.evacuating = true ∧ x.edgeCount = 1 := by
      rw [hframe]
      exact ⟨rfl, rfl, rfl, rfl⟩
    obtain ⟨hl, ht, he, hc⟩ := hlines
    have hholds : holdsCancelled (edgeAnnounced s) = holdsCancelled s := by
      rw [ha.rest]
      rfl
    rw [hholds] at hbodies
    refine ⟨x, rfl, hl, ht, he, hc, hedge.hold, hedge.door, fun r who => hedge.nobody_tied, fun a hp => hedge.station hp,
      fun l hroom => h.notice rfl (ha.notice l hroom), ⟨later, mid, hjournal, hbodies, hunused⟩,
      fun i p hp hi => (hedge.presence_kept hi).trans hp,
      fun a i p hpolled hi hp hlist hturn heffects =>
        hedge.presence_resolved ((not_busy_iff s).mpr ⟨hturn, heffects⟩) hpolled hi ⟨hp, hlist⟩,
      fun hbusy => ?_, hframe⟩
    obtain ⟨hpool, hoccupancy⟩ := hedge.register_kept hbusy
    exact ⟨hpool, hoccupancy, fun a i hpolled hi hr => hedge.handed hbusy hpolled hi hr⟩
  case allClear =>
    obtain ⟨m, u, h, hexec⟩ := exec_allClear hturn he ht
    have hkept := h.kept
    obtain ⟨n, hlast⟩ := allClear_journal l (hkept.supply.trans hturn.1.1)
    have htransmit := allClear_transmit l u
    obtain ⟨b, hport⟩ := h.port l
    rw [hport] at htransmit
    rw [hkept.clock] at hlast
    rw [hexec]
    refine ⟨_, rfl, ?_⟩
    obtain ⟨journal, next, ports, turn, lastServed, readQueue, hended⟩ := allClear_ended l u
    rw [hended] at hlast htransmit ⊢
    refine ⟨hkept.evacuating, hkept.edgeCount, fun a ha => h.mode ha, fun r hr => ?evacuated, fun r hr => ?other, h.presence,
      h.nobodyCarried, fun hl r => refreshed_of_register (t := u) rfl rfl rfl (h.refreshed hl r), ⟨n, hlast⟩, htransmit, h.hold,
      fun i => permit_of_permits hkept.permits i⟩
    case evacuated => exact h.door_settled hr
    case other => exact h.door_other hr
end

section
/-! Presences resolved, one or several on a release, and the room re-examined once (O41). -/

namespace Sys2Proof.Machine

open Claims

/-! ### One presence -/

/-- R108: the badge of a presence that a resolution removes, if it is a supervisor's. -/
def removedBadge (removed : PresenceState) (s : State) (i : PoolIx) : Option Nat :=
  (s.presence i).bind fun p => if p.state = removed ∧ (s.permit p.slot).any (·.role == .supervisor) = true then some p.badge else none

section
variable {i : PoolIx} {p : Presence} {s : State} {x : State × List Nat}

theorem removedBadge_removed {removed : PresenceState} (hp : s.presence i = some p) (hx : p.state = removed) :
    (removedBadge removed s i).toList = supervisorBadge s i := by
  rw [supervisorBadge_present hp]
  simp only [removedBadge, hp, Option.bind_some, hx, true_and]
  split <;> rfl

theorem removedBadge_stays {removed : PresenceState} (hp : s.presence i = some p) (hx : p.state ≠ removed) :
    removedBadge removed s i = none := by
  simp only [removedBadge, hp, Option.bind_some, hx, false_and, if_false]

theorem report_presence (e : CountEvent) (room : Option RoomNo) (n : Nat) (s : State) (k : PoolIx) :
    (report e room n s).presence k = s.presence k := by
  rw [report_frame]
  rfl

/-- R102: one presence opened, by the statement's account and by the model's. -/
theorem resolveOpened_eq (i : PoolIx) (x : State × List Nat) :
    resolveOpened i x = (openedOne i x.1, x.2 ++ (removedBadge .leaving x.1 i).toList) := by
  unfold resolveOpened openedOne
  cases hp : x.1.presence i with
  | none => simp [removedBadge, hp]
  | some p =>
    dsimp only
    cases hx : p.state with
    | arriving =>
      rw [permitNumber_kept (setPresenceState_kept ..), removedBadge_stays hp (by rw [hx]; decide)]
      simp [setPresenceState, hp]
    | leaving => rw [permitNumber_kept (removePresence_kept ..), removedBadge_removed hp hx]
    | inside | unverified => simp [removedBadge_stays hp, hx]

/-- R103: one presence unused. -/
theorem resolveUnused_eq (i : PoolIx) (x : State × List Nat) :
    resolveUnused i x = (unusedOne i x.1, x.2 ++ (removedBadge .arriving x.1 i).toList) := by
  unfold resolveUnused unusedOne
  cases hp : x.1.presence i with
  | none => simp [removedBadge, hp]
  | some p =>
    dsimp only
    cases hx : p.state with
    | arriving => rw [permitNumber_kept (removePresence_kept ..), removedBadge_removed hp hx]
    | leaving =>
      rw [permitNumber_kept (setPresenceState_kept ..), removedBadge_stays hp (by rw [hx]; decide)]
      simp [setPresenceState, hp]
    | inside | unverified => simp [removedBadge_stays hp, hx]

/-- R102: the others stay as they are. -/
theorem openedOne_other {k : PoolIx} (hk : k ≠ i) (s : State) : (openedOne i s).presence k = s.presence k := by
  unfold openedOne
  cases s.presence i with
  | none => rfl
  | some p =>
    dsimp only
    cases p.state with
    | arriving => rw [report_presence, writeJournal_presence, State.setPresence_presence_other _ _ _ hk.symm]
    | leaving => rw [report_presence, writeJournal_presence, removePresence_presence, if_neg hk]
    | inside | unverified => rfl

theorem unusedOne_other {k : PoolIx} (hk : k ≠ i) (s : State) : (unusedOne i s).presence k = s.presence k := by
  have h := resolveUnused_presence i k (s, [])
  rwa [resolveUnused_eq, if_neg hk] at h

theorem openedOne_arriving (hp : s.presence i = some p) (hx : p.state = .arriving) :
    openedOne i s = report .entries (some p.room) 1 (writeJournal
      { kind := .entered, station := entryStation s p.room, room := some p.room, badge := some p.badge
        permit := (s.permit p.slot).map (·.number) } (s.setPresence i (some { p with state := .inside }))) := by
  simp only [openedOne, hp, hx]

theorem openedOne_leaving (hp : s.presence i = some p) (hx : p.state = .leaving) :
    openedOne i s = report .exits (some p.room) 1 (writeJournal
      { kind := .exit, station := exitStation s p.room, room := some p.room, badge := some p.badge
        permit := (s.permit p.slot).map (·.number) } (removePresence i s)) := by
  simp only [openedOne, hp, hx]

theorem unusedOne_arriving (hp : s.presence i = some p) (hx : p.state = .arriving) :
    unusedOne i s = writeJournal
      { kind := .grantUnused, room := some p.room, badge := some p.badge, permit := (s.permit p.slot).map (·.number) }
      (removePresence i s) := by
  simp only [unusedOne, hp, hx]

theorem unusedOne_leaving (hp : s.presence i = some p) (hx : p.state = .leaving) :
    unusedOne i s = writeJournal
      { kind := .exitUnused, room := some p.room, badge := some p.badge, permit := (s.permit p.slot).map (·.number) }
      (s.setPresence i (some { p with state := .inside })) := by
  simp only [unusedOne, hp, hx]

end

/-! ### Several presences of one room -/

/-- R102, R103: a resolution treats each presence alone, removes those in one state, and leaves the others and their permits. -/
structure ResolvesAlone (one : PoolIx → State × List Nat → State × List Nat) (alone : PoolIx → State → State)
    (removed : PresenceState) : Prop where
  eq : ∀ i x, one i x = (alone i x.1, x.2 ++ (removedBadge removed x.1 i).toList)
  other : ∀ {i k}, k ≠ i → ∀ s, (alone i s).presence k = s.presence k
  kept : ∀ i s, Kept s (alone i s)

theorem resolveOpened_alone : ResolvesAlone resolveOpened openedOne .leaving where
  eq := resolveOpened_eq
  other := openedOne_other
  kept := fun i s => by simpa only [resolveOpened_eq] using resolveOpened_kept i (s, [])

theorem resolveUnused_alone : ResolvesAlone resolveUnused unusedOne .arriving where
  eq := resolveUnused_eq
  other := unusedOne_other
  kept := fun i s => by simpa only [resolveUnused_eq] using resolveUnused_kept i (s, [])

namespace ResolvesAlone

variable {one : PoolIx → State × List Nat → State × List Nat} {alone : PoolIx → State → State} {removed : PresenceState}

theorem removedBadge_other (h : ResolvesAlone one alone removed) {i k : PoolIx} (hk : k ≠ i) (s : State) :
    removedBadge removed (alone i s) k = removedBadge removed s k := by
  simp only [removedBadge, h.other hk, permit_of_permits (h.kept i s).permits]

/-- R102, R103: the supervisors removed are those that the presences were before the first was resolved. -/
theorem foldl (h : ResolvesAlone one alone removed) {is : List PoolIx} (hn : is.Nodup) (s : State) (gone : List Nat) :
    is.foldl (fun x i => one i x) (s, gone) =
      (is.foldl (fun t i => alone i t) s, gone ++ is.filterMap (removedBadge removed s)) := by
  induction is generalizing s gone with
  | nil => simp
  | cons i is ih =>
    obtain ⟨hi, his⟩ := List.nodup_cons.mp hn
    have hlater : is.filterMap (removedBadge removed (alone i s)) = is.filterMap (removedBadge removed s) :=
      List.filterMap_congr fun k hk => h.removedBadge_other (i := i) (k := k) (fun e => hi (e ▸ hk)) s
    rw [List.foldl_cons, h.eq, ih his, hlater, List.foldl_cons, List.append_assoc]
    cases hb : removedBadge removed s i <;> simp [hb]

end ResolvesAlone

/-- R102: presences of one room make one room to re-examine. -/
theorem roomsOfPresences_one {r : RoomNo} {who : List PoolIx} {s : State} (hwho : who ≠ [])
    (h : ∀ i ∈ who, ∃ p, s.presence i = some p ∧ p.room = r) : roomsOfPresences s who = [r] := by
  obtain ⟨i, is, rfl⟩ := List.exists_cons_of_ne_nil hwho
  obtain ⟨p, hp, rfl⟩ := h i List.mem_cons_self
  have hrest : ((is.filterMap s.presence).map (·.room)).filter (fun q => !q == p.room) = [] :=
    List.filter_eq_nil_iff.mpr fun q hq => by
      obtain ⟨x, hx, rfl⟩ := List.mem_map.mp hq
      obtain ⟨j, hj, hjx⟩ := List.mem_filterMap.mp hx
      obtain ⟨y, hy, hroom⟩ := h j (List.mem_cons_of_mem i hj)
      obtain rfl := Option.some.inj (hjx.symm.trans hy)
      simp [hroom]
  rw [roomsOfPresences, List.filterMap_cons_some hp, List.map_cons, List.eraseDups_cons, hrest, List.eraseDups_nil]

/-- R102, R103, R105: presences of one room are resolved in the order of its list, and it is re-examined once. -/
theorem resolve_oneRoom {one : PoolIx → State × List Nat → State × List Nat} {alone : PoolIx → State → State} {removed : PresenceState}
    (h : ResolvesAlone one alone removed) {r : RoomNo} {who order : List PoolIx} {s : State} (hwho : who ≠ [])
    (hroom : ∀ i ∈ who, ∃ p, s.presence i = some p ∧ p.room = r) (ho : (s.roomState r).list.filter (· ∈ who) = order)
    (hn : order.Nodup) : resolve one who s =
      reexamine r (order.filterMap (removedBadge removed s)) (order.foldl (fun t i => alone i t) (uncarry who s)) := by
  have hlist : ((uncarry who s).roomState r).list.filter (· ∈ who) = order := ho
  rw [resolve, roomsOfPresences_one hwho hroom, List.foldl_cons, List.foldl_nil, resolveRoom, hlist, h.foldl hn, List.nil_append]
  rfl

/-- R102, R103: a release that carries one presence. -/
theorem resolve_onePresence {one : PoolIx → State × List Nat → State × List Nat} {alone : PoolIx → State → State}
    {removed : PresenceState} (h : ResolvesAlone one alone removed) {i : PoolIx} {p : Presence} {s : State}
    (hp : s.presence i = some p) (hlist : (s.roomState p.room).list.filter (· = i) = [i]) :
    resolve one [i] s = reexamine p.room (removedBadge removed s i).toList (alone i (uncarry [i] s)) := by
  rw [resolve_oneRoom h (r := p.room) (order := [i]) (List.cons_ne_nil i []) (by simp [hp]) (by simpa using hlist)
    (List.nodup_singleton i)]
  cases hb : removedBadge removed s i <;> simp [hb]

/-! ### Re-examination -/

section
variable {r : RoomNo} {badge : Nat} {s : State}

/-- R108: with no supervisor removed there is nothing to check. -/
theorem reexamine_nobody (r : RoomNo) (s : State) : reexamine r [] s = refreshRoom r s := by
  simp [reexamine, escortCheck]

theorem refreshRoom_roomPresences (r : RoomNo) (s : State) : roomPresences (refreshRoom r s) r = roomPresences s r := by
  rw [roomPresences, refreshRoom_refreshed, State.setRoomState_roomState_same]
  rfl

/-- R108: the presences of a room that need an escort. -/
def escortNeeders (s : State) (r : RoomNo) : Nat :=
  ((roomPresences s r).filter fun p => (s.permit p.slot).any fun q => q.escort && decide (q.role = .worker)).length

/-- R108: a supervisor is in a room. -/
def Escorted (s : State) (r : RoomNo) : Prop := ∃ p ∈ roomPresences s r, ∃ q, s.permit p.slot = some q ∧ q.role = .supervisor

theorem escorted_iff (s : State) (r : RoomNo) : (roomPresences s r).any (isSupervisor s) = true ↔ Escorted s r := by
  simp only [List.any_eq_true, isSupervisor, permitOf, Option.any_eq_true, beq_iff_eq, Escorted]

/-- R105, R108: the escort check reads the room as it was before it was brought up to date. -/
theorem reexamine_one (r : RoomNo) (badge : Nat) (s : State) : reexamine r [badge] s =
    if (roomPresences s r).any (isSupervisor s) || escortNeeders s r == 0 then refreshRoom r s
    else writeJournal { kind := .unescorted, room := some r, badge := some badge, value := some (escortNeeders s r) }
      (post { kind := .unescorted, room := some r, badge := some badge, figures := .value (escortNeeders s r) } (refreshRoom r s)) := by
  unfold reexamine escortCheck
  simp only [refreshRoom_roomPresences, List.isEmpty_cons, Bool.false_or]
  rfl

theorem reexamine_escorted (h : Escorted s r ∨ escortNeeders s r = 0) : reexamine r [badge] s = refreshRoom r s := by
  rw [reexamine_one, if_pos]
  rw [Bool.or_eq_true, escorted_iff, beq_iff_eq]
  exact h

theorem reexamine_unescorted (h : ¬ Escorted s r) (hn : 0 < escortNeeders s r) : reexamine r [badge] s =
    writeJournal { kind := .unescorted, room := some r, badge := some badge, value := some (escortNeeders s r) }
      (post { kind := .unescorted, room := some r, badge := some badge, figures := .value (escortNeeders s r) } (refreshRoom r s)) := by
  rw [reexamine_one, if_neg]
  rw [Bool.or_eq_true, escorted_iff, beq_iff_eq]
  exact not_or.mpr ⟨h, hn.ne'⟩

/-- R105, R106, R110: what a re-examination leaves of its room. -/
theorem refreshRoom_broughtUp (r : RoomNo) (s : State) : BroughtUp r s (refreshRoom r s) := by
  have hroom : (refreshRoom r s).roomState r = refreshed s r := by
    rw [refreshRoom_refreshed, State.setRoomState_roomState_same]
  rw [BroughtUp, hroom]
  refine ⟨rfl, rfl, fun hno => ?_, fun i hi => ⟨fun k hk hw => ?_, fun hk => ?_⟩⟩
  · have hnone : lonePresence s r = none := Option.eq_none_iff_forall_ne_some.mpr fun i hi => hno i ((lonePresence_iff s r i).mp hi)
    simp only [refreshed, hnone, loneAfter]
  · simp only [refreshed, (lonePresence_iff s r i).mpr hi, hk, loneAfter, if_pos hw]
  · simp only [refreshed, (lonePresence_iff s r i).mpr hi]
    cases hl : (s.roomState r).lone with
    | none => rfl
    | some k => exact if_neg (hk k hl)

end

end Sys2Proof.Machine

open Sys2Proof Sys2Proof.Machine Sys2Proof.Claims in
/-- Settles O41: a resolution is a fold over the room's list of presences resolved each alone, and one presence is the shortest such
list; a re-examination is the room brought up to date and the escort check. -/
theorem presencesAreResolvedAndRoomsReexamined : Obligations.PresencesAreResolvedAndRoomsReexamined := by
  refine ⟨fun i p s hp hlist => ?one, fun r who s hwho hroom hn => ?several, fun r s =>
    ⟨refreshRoom r s, refreshRoom_broughtUp r s, ?frame, reexamine_nobody r s, fun badge => ⟨reexamine_escorted, reexamine_unescorted⟩⟩⟩
  case one =>
    have hcarried : (uncarry [i] s).presence i = some p := hp
    have hopened := resolve_onePresence resolveOpened_alone hp hlist
    have hunused := resolve_onePresence resolveUnused_alone hp hlist
    refine ⟨fun hx => ?_, fun hx => ?_, fun hx => ?_, fun hx => ?_⟩
    · rw [removedBadge_stays hp (by rw [hx]; decide), openedOne_arriving hcarried hx] at hopened
      exact hopened
    · rw [removedBadge_removed hp hx, supervisorBadge_present hp, openedOne_leaving hcarried hx] at hopened
      exact hopened
    · rw [removedBadge_removed hp hx, supervisorBadge_present hp, unusedOne_arriving hcarried hx] at hunused
      exact hunused
    · rw [removedBadge_stays hp (by rw [hx]; decide), unusedOne_leaving hcarried hx] at hunused
      exact hunused
  case several =>
    have horder := hn.filter fun i => decide (i ∈ who)
    exact ⟨resolve_oneRoom resolveOpened_alone hwho hroom rfl horder, resolve_oneRoom resolveUnused_alone hwho hroom rfl horder⟩
  case frame =>
    rw [refreshRoom_refreshed, State.setRoomState_roomState_same]
    rfl
end

section
/-! READ OCCUPANCY and RECONCILE ROOM (O42): what is shown of a presence, and a room's presences removed one after another, each with
its record. -/

namespace Sys2Proof.Machine

open Claims

/-! ### READ OCCUPANCY -/

section
variable {r : RoomNo} {badge : Nat} {i : PoolIx} {s : State}

theorem isTied_eq (s : State) (i : PoolIx) : isTied s i = decide (∃ r, i ∈ (s.door r).tied) := by
  rw [isTied, toList_eq_looks, Bool.eq_iff_iff, decide_eq_true_eq]
  simp [State.door]

/-- R112: a presence on a slot that is not VACANT is shown with its permit's figures. -/
theorem occupantView_viewed (s : State) (i : PoolIx) (p : Presence) : Viewed s i p (occupantView s i p) := fun q hq => by
  have hrole : (if isSupervisor s p then Role.supervisor else .worker) = q.role := by
    simp only [isSupervisor, permitOf, hq, Option.any_some]
    cases q.role <;> rfl
  simp only [occupantView, hrole, permitNumber, permitOf, hq, Option.map_some, Option.any_some, isTied_eq]

theorem occupants_viewed (s : State) (is : List PoolIx) :
    List.Forall₂ (fun i v => ∀ p, s.presence i = some p → Viewed s i p v) (is.filter fun i => (s.presence i).isSome)
      (is.filterMap fun i => (s.presence i).map (occupantView s i)) := by
  induction is with
  | nil => exact .nil
  | cons i is ih =>
    cases hp : s.presence i with
    | none => simpa [hp] using ih
    | some p =>
      simp only [List.filter_cons, List.filterMap_cons, hp, Option.isSome_some, if_true, Option.map_some]
      exact .cons (fun q hq => Option.some.inj (hp.symm.trans hq) ▸ occupantView_viewed s i p) ih

theorem loneView_some {k : Lone} {p : Presence} (hk : (s.roomState r).lone = some k) (hp : s.presence k.who = some p) :
    loneView s r = some (p.badge, k.since, k.reported) := by
  simp only [loneView, hk, Option.bind_some, hp, Option.map_some]

theorem loneView_none (h : (s.roomState r).lone = none) : loneView s r = none := by
  simp only [loneView, h, Option.bind_none]

theorem badgeOccupancyReply_absent (h : ∀ i p, s.presence i = some p → p.badge ≠ badge) :
    badgeOccupancyReply s badge = .badgeOccupancy none := by
  simp only [badgeOccupancyReply, findBadge_absent h, Option.bind_none]

theorem badgeOccupancyReply_present {p : Presence} (h : Present s badge i p) : badgeOccupancyReply s badge =
    .badgeOccupancy (some (occupantView s i p, p.room, (s.roomState p.room).list.idxOf i)) := by
  simp only [badgeOccupancyReply, findBadge_present h, Option.bind_some, h.1, Option.map_some]

end

/-! ### Records written -/

/-- The same records under the same sequence number, clock and supply. -/
structure SameLog (s t : State) : Prop where
  journal : t.journal = s.journal := by rfl
  next : t.nextSequence = s.nextSequence := by rfl
  clock : t.clock = s.clock := by rfl
  supply : t.supply = s.supply := by rfl

theorem SameLog.writeJournal {s t : State} (h : SameLog s t) (b : JournalBody) :
    SameLog (Machine.writeJournal b s) (Machine.writeJournal b t) := by
  cases hs : s.supply with
  | backup =>
    rw [writeJournal_backup b s hs, writeJournal_backup b t (h.supply.trans hs)]
    exact h
  | normal =>
    rw [writeJournal_normal b s hs, writeJournal_normal b t (h.supply.trans hs)]
    exact ⟨by simp only [h.journal, h.next, h.clock], by simp only [h.next], h.clock, h.supply⟩

/-- R162: as many sequence numbers are used as records are written. -/
theorem writeJournals_next {α : Type} (f : α → JournalBody) (xs : List α) {s : State} (hs : s.supply = .normal) :
    (xs.foldl (fun u x => writeJournal (f x) u) s).nextSequence = s.nextSequence + BitVec.ofNat 32 xs.length := by
  induction xs generalizing s with
  | nil => simp
  | cons x xs ih =>
    rw [List.foldl_cons, ih ((writeJournal_kept ..).supply.trans hs), writeJournal_normal _ s hs, List.length_cons,
      BitVec.ofNat_add, BitVec.add_comm (BitVec.ofNat 32 xs.length), BitVec.add_assoc]
    rfl

/-! ### Presences removed and journalled -/

section
variable {r : RoomNo} {i : PoolIx} {is : List PoolIx} {p : Presence} {s t u : State}

theorem PresenceState.code_eq (x : PresenceState) :
    x.code = match x with | .arriving => 0 | .inside => 1 | .leaving => 2 | .unverified => 3 := by cases x <;> rfl

/-- R113: one presence removed, by the statement's account and by the model's. -/
theorem reconcileOne_eq (hp : s.presence i = some p) (gone : List Nat) :
    reconcileOne i (s, gone) = (reconciled i p s, gone ++ supervisorBadge s i) := by
  simp only [reconcileOne, hp, PresenceState.code_eq]
  rfl

theorem reconcileRecord_kept (h : t.permits = s.permits) (p : Presence) : reconcileRecord p t = reconcileRecord p s := by
  simp only [reconcileRecord, permit_of_permits h]

theorem removePresence_eq (hp : s.presence i = some p) : removePresence i s = uncarry [i] ((s.setPresence i none).setRoomState p.room
    { s.roomState p.room with list := (s.roomState p.room).list.erase i }) := by
  simp only [removePresence, hp]

/-- R113: presences of a room have been removed, each with its record, and nothing else has changed. -/
structure Reconciled (r : RoomNo) (is : List PoolIx) (s t : State) : Prop where
  room : t.roomState r = { s.roomState r with list := (s.roomState r).list.filter (· ∉ is) }
  other : ∀ q, q ≠ r → t.roomState q = s.roomState q
  presence : ∀ k, t.presence k = if k ∈ is then none else s.presence k
  log : SameLog ((is.filterMap s.presence).foldl (fun u p => writeJournal (reconcileRecord p s) u) s) t
  station : ∀ a, t.station a = (s.station a).without is
  door : ∀ q, t.door q = (s.door q).without is
  held : t.heldEffects = s.heldEffects.map (·.without is)
  rest : t = { s with
    pool := t.pool, occupancy := t.occupancy, stations := t.stations, doors := t.doors
    heldEffects := t.heldEffects, journal := t.journal, nextSequence := t.nextSequence }

theorem Reconciled.nobody (r : RoomNo) (s : State) : Reconciled r [] s s :=
  ⟨by simp, fun _ _ => rfl, fun k => by simp, {}, fun a => by simp, fun q => by simp, by simp [PresenceEffect.without_nil], rfl⟩

/-- R113: one presence of a room's list. -/
theorem reconciled_one (hp : s.presence i = some p) (hr : p.room = r) (hn : (s.roomState r).list.Nodup) :
    Reconciled r [i] s (reconciled i p s) := by
  subst hr
  have hlist : (s.roomState p.room).list.erase i = (s.roomState p.room).list.filter (· ∉ [i]) := by
    rw [hn.erase_eq_filter]
    exact List.filter_congr fun k _ => by simp [bne, beq_eq_decide]
  refine ⟨?_, fun q hq => ?_, fun k => ?_, ?_, fun a => ?_, fun q => ?_, ?_, ?_⟩
  · rw [reconciled, writeJournal_roomState, removePresence_eq hp, ← hlist]
    exact State.setRoomState_roomState_same ..
  · rw [reconciled, writeJournal_roomState, removePresence_eq hp]
    exact State.setRoomState_roomState_other _ _ _ hq.symm
  · rw [reconciled, writeJournal_presence, removePresence_presence]
    simp only [List.mem_singleton]
  · rw [List.filterMap_cons_some hp, List.filterMap_nil, List.foldl_cons, List.foldl_nil, reconciled, removePresence_eq hp]
    exact SameLog.writeJournal {} _
  · rw [reconciled, (writeJournal_uncarried ..).station, Station.without_nil, removePresence_eq hp]
    exact (uncarry_uncarried ..).station a
  · rw [reconciled, (writeJournal_uncarried ..).door, Door.without_nil, removePresence_eq hp]
    exact (uncarry_uncarried ..).door q
  · rw [reconciled, writeJournal_frame, removePresence_eq hp]
    rfl
  · rw [reconciled, writeJournal_frame, removePresence_eq hp]
    rfl

/-- R113: one after another. -/
theorem Reconciled.cons (hi : i ∉ is) (h : Reconciled r [i] s t) (k : Reconciled r is t u) : Reconciled r (i :: is) s u := by
  have hpermits : t.permits = s.permits := by rw [h.rest]
  have hother : ∀ j ∈ is, j ∉ [i] := fun j hj e => hi (List.mem_singleton.mp e ▸ hj)
  have hlater : is.filterMap t.presence = is.filterMap s.presence :=
    List.filterMap_congr fun j hj => by rw [h.presence, if_neg (hother j hj)]
  have hlog : SameLog ((is.filterMap s.presence).foldl (fun u p => writeJournal (reconcileRecord p s) u)
      (([i].filterMap s.presence).foldl (fun u p => writeJournal (reconcileRecord p s) u) s)) u := by
    have hfold := List.foldl_rel (r := SameLog) (l := is.filterMap s.presence) (f := fun u p => writeJournal (reconcileRecord p s) u)
      (g := fun u p => writeJournal (reconcileRecord p t) u) h.log fun p _ x y hxy => by
        rw [reconcileRecord_kept hpermits]
        exact hxy.writeJournal _
    have hlast := k.log
    rw [hlater] at hlast
    exact ⟨hlast.journal.trans hfold.journal, hlast.next.trans hfold.next, hlast.clock.trans hfold.clock,
      hlast.supply.trans hfold.supply⟩
  refine ⟨?_, fun q hq => (k.other q hq).trans (h.other q hq), fun j => ?_, ?_, fun a => ?_, fun q => ?_, ?_, ?_⟩
  · rw [k.room, h.room, filter_notMem_append]
    rfl
  · rw [k.presence, h.presence]
    by_cases hj : j = i <;> simp [hj]
  · rw [← List.foldl_append, ← List.filterMap_append] at hlog
    exact hlog
  · rw [k.station, h.station, Station.without_without]
    rfl
  · rw [k.door, h.door, Door.without_without]
    rfl
  · rw [k.held, h.held, List.map_map]
    exact List.map_congr_left fun e _ => e.without_without [i] is
  · rw [k.rest, h.rest]

theorem reconcileOnes_reconciled (hn : is.Nodup) (h : ∀ i ∈ is, ∃ p, s.presence i = some p ∧ p.room = r)
    (hl : (s.roomState r).list.Nodup) (gone : List Nat) :
    Reconciled r is s (is.foldl (fun x i => reconcileOne i x) (s, gone)).1 := by
  induction is generalizing s gone with
  | nil => exact .nobody r s
  | cons i is ih =>
    obtain ⟨hi, his⟩ := List.nodup_cons.mp hn
    obtain ⟨p, hp, hr⟩ := h i List.mem_cons_self
    have hone := reconciled_one hp hr hl
    have hother : ∀ j ∈ is, j ∉ [i] := fun j hj e => hi (List.mem_singleton.mp e ▸ hj)
    rw [List.foldl_cons, reconcileOne_eq hp]
    refine hone.cons hi (ih his (fun j hj => ?_) (by rw [hone.room]; exact hl.filter _) _)
    rw [hone.presence, if_neg (hother j hj)]
    exact h j (List.mem_cons_of_mem i hj)

/-- R105, R110: an empty room has no lone presence and no mark, and there is nobody to escort. -/
theorem reexamine_empty (h : (s.roomState r).list = []) (gone : List Nat) : reexamine r gone s = s.setRoomState r ⟨[], none, false⟩ := by
  have hlone : lonePresence s r = none := Option.eq_none_iff_forall_ne_some.mpr fun i hi => by
    obtain ⟨-, hone⟩ := (lonePresence_iff s r i).mp hi
    rw [h] at hone
    cases hone
  have hnone : refreshRoom r s = s.setRoomState r ⟨[], none, false⟩ := by
    rw [refreshRoom_refreshed, refreshed, hlone, h]
    simp only [loneAfter, List.isEmpty_nil, Bool.not_true, Bool.and_false]
  have hpresences : roomPresences (s.setRoomState r ⟨[], none, false⟩) r = [] := by
    rw [roomPresences, State.setRoomState_roomState_same]
    rfl
  simp only [reexamine, hnone, escortCheck, hpresences, List.filter_nil, List.length_nil, beq_self_eq_true, Bool.or_true, if_true]

/-- R113: ALL, which leaves the room as one that holds nobody. -/
theorem reconcile_all (hn : (s.roomState r).list.Nodup) (h : ∀ i ∈ (s.roomState r).list, ∃ p, s.presence i = some p ∧ p.room = r) :
    ∃ v, Reconciled r (s.roomState r).list s v ∧ reconcile r (s.roomState r).list s = v.setRoomState r ⟨[], none, false⟩ := by
  have hall := reconcileOnes_reconciled hn h hn []
  refine ⟨_, hall, reexamine_empty ?_ _⟩
  rw [hall.room]
  exact List.filter_eq_nil_iff.mpr fun i hi => by simp [hi]

/-- R113: a presence removed and its room re-examined leave the request in flight. -/
theorem reexamine_reconciled_inFlight (l : Link) (gone : List Nat) :
    ((reexamine r gone (reconciled i p s)).port l).inFlight = (s.port l).inFlight := by
  obtain ⟨w, -, hremoved⟩ := removePresence_uncarried s i
  obtain ⟨b, hb⟩ := ((hremoved.then_quiet (writeJournal_uncarried _ (reconcileRecord p s))).then_quiet (reexamine_uncarried _ r gone)).port l
  rw [reconciled, hb]

end

/-! ### RECONCILE ROOM in its turn -/

section
variable {l : Link} {r : RoomNo} {badge : Nat} {s : State}

/-- R113: a badge other than 0 and a room pass the checks. -/
theorem serveReconcileRoom_badge (hb : badge ≠ 0) :
    serveRequest l (.reconcileRoom r.val (some badge)) s = reconcileBadge l r badge s := by
  have hserve : serveReconcileRoom l r.val (some badge) s = _ := checked_passes l _ _ s (by simp [roomNo?_val, hb])
  rw [show serveRequest l (.reconcileRoom r.val (some badge)) s = _ from hserve, roomNo?_val]

theorem serveReconcileRoom_all : serveRequest l (.reconcileRoom r.val none) s = reconcileAll l r s := by
  have hserve : serveReconcileRoom l r.val none s = _ := checked_passes l _ _ s (by simp [roomNo?_val])
  rw [show serveRequest l (.reconcileRoom r.val none) s = _ from hserve, roomNo?_val]

/-- R113: nobody in the room has the badge. -/
theorem reconcileBadge_absent (h : ∀ p ∈ roomPresences s r, p.badge ≠ badge) :
    reconcileBadge l r badge s = reply l .empty (.reconciled 0) s := by
  have hnone : ((s.roomState r).list.filter fun i => (s.presence i).any (·.badge == badge)) = [] :=
    List.filter_eq_nil_iff.mpr fun i hi hany => by
      obtain ⟨p, hp, hb⟩ := (Option.any_eq_true _ _).mp hany
      exact h p (List.mem_filterMap.mpr ⟨i, hi, hp⟩) (beq_iff_eq.mp hb)
  simp only [reconcileBadge, hnone]

/-- R113: the badge's presence, listed in the room. -/
theorem reconcileBadge_present {i : PoolIx} {p : Presence} (h : Present s badge i p)
    (hlist : (s.roomState r).list.filter (· = i) = [i]) : reconcileBadge l r badge s = reply l .done (.reconciled 1)
      (reexamine r (if (s.permit p.slot).any (·.role == .supervisor) = true then [badge] else []) (reconciled i p s)) := by
  obtain ⟨hp, hb, honly⟩ := h
  have hsame : ((s.roomState r).list.filter fun k => (s.presence k).any (·.badge == badge)) = [i] := by
    rw [← hlist]
    refine List.filter_congr fun k _ => ?_
    rw [Bool.eq_iff_iff, Option.any_eq_true, decide_eq_true_eq]
    refine ⟨fun ⟨q, hq, hqb⟩ => honly k q hq (beq_iff_eq.mp hqb), ?_⟩
    rintro rfl
    exact ⟨p, hp, beq_iff_eq.mpr hb⟩
  simp only [reconcileBadge, hsame, reconcile, List.foldl_cons, List.foldl_nil, reconcileOne_eq hp, List.nil_append,
    supervisorBadge_present hp, hb]

end

end Sys2Proof.Machine

open Sys2Proof Sys2Proof.Machine Sys2Proof.Claims in
/-- Settles O42: the reads are replies on what stands, a badge is removed like any one presence, and ALL is the removals of the list one
after another. -/
theorem occupancyIsReadAndReconciled : Obligations.OccupancyIsReadAndReconciled := by
  refine ⟨fun l r s h => ?room, fun l badge s h hb => ?badge, fun l r s => ⟨fun badge h hb => ?one, fun h hn hlist => ?all⟩⟩
  case room =>
    refine ⟨occupants s r, loneView s r, occupants_viewed s _, fun k p => loneView_some, loneView_none, ?_⟩
    rw [exec_inTurn rfl rfl h, ← reply_handed h.1.2]
    simp only [serveRequest, serveReadOccupancy, roomNo?_val]
    rfl
  case badge =>
    have hserve : serveRequest l (.readOccupancy (.badge badge)) s = reply l .done (badgeOccupancyReply s badge) s :=
      checked_passes l _ _ s (by simp [hb])
    rw [exec_inTurn rfl rfl h, hserve, reply_handed h.1.2]
    exact ⟨fun habsent => by rw [badgeOccupancyReply_absent habsent],
      fun i p hp => ⟨_, occupantView_viewed s i p, by rw [badgeOccupancyReply_present hp]⟩⟩
  case one =>
    rw [exec_inTurn rfl rfl h, serveReconcileRoom_badge hb]
    refine ⟨fun habsent => by rw [reconcileBadge_absent habsent, reply_handed h.1.2], fun i p hp hlist => ?_⟩
    rw [reconcileBadge_present hp hlist, reply_handed (r := .reconcileRoom r.val (some badge))]
    rw [reexamine_reconciled_inFlight]
    exact h.1.2
  case all =>
    obtain ⟨v, hv, hall⟩ := reconcile_all hn hlist
    have hlength : (roomPresences s r).length = (s.roomState r).list.length :=
      List.filterMap_length_eq_length.mpr fun i hi => by
        obtain ⟨p, hp, -⟩ := hlist i hi
        rw [hp]
        rfl
    have hnext : v.nextSequence = s.nextSequence + BitVec.ofNat 32 (s.roomState r).list.length :=
      hv.log.next.trans ((writeJournals_next _ _ h.1.1).trans (by rw [← hlength]; rfl))
    refine ⟨v.setRoomState r ⟨[], none, false⟩, ?_, State.setRoomState_roomState_same .., fun q hq => ?_, hv.presence, hnext,
      hv.log.journal, hv.station, hv.door, hv.held, ?_⟩
    · rw [exec_inTurn rfl rfl h, serveReconcileRoom_all, reconcileAll, hall]
      simp only [State.setRoomState_roomState_same, State.setRoomState_setRoomState]
      rw [reply_handed (r := .reconcileRoom r.val none)]
      rw [State.setRoomState_port, hv.rest]
      exact h.1.2
    · rw [State.setRoomState_roomState_other _ _ _ hq.symm, hv.other q hq]
    · rw [hv.rest]
      rfl
end

section
/-! Door reports, deliveries, timers and held resolutions (O45): what a contact report makes of a door in each state, and that a good
reply with nothing else to say is its judgement and its door report. -/

namespace Sys2Proof.Machine

open Claims

/-! ### The running release -/

section
variable {r : RoomNo} {s : State}

/-- R126: once the presences on a running release are taken off, its door's tied set is empty. -/
theorem uncarry_onRelease_tied (r : RoomNo) (s : State) : ((uncarry (onRelease s r) s).door r).tied = [] := by
  rw [uncarry_tied]
  exact List.filter_eq_nil_iff.mpr fun i hi => by simp [onRelease, hi]

/-- R102: the resolution handed over names those on the release, so that it is reported when there is any. -/
theorem handOver_held {f : List PoolIx → PresenceEffect} (hf : ∀ who, (f who).names = who) (hn : onRelease s r ≠ [])
    (h : s.turn ≠ none ∨ s.heldEffects ≠ []) : handOver f r s =
      { uncarry (onRelease s r) s with heldEffects := (uncarry (onRelease s r) s).heldEffects ++ [f (onRelease s r)] } := by
  rw [handOver_some f r s hn]
  exact reportEffect_held _ _ (by rwa [hf]) (h.imp_right fun he hnil => he (List.map_eq_nil_iff.mp hnil))

theorem handOver_atOnce {f : List PoolIx → PresenceEffect} (hf : ∀ who, (f who).names = who) (hn : onRelease s r ≠ [])
    (ht : s.turn = none) (hh : s.heldEffects = []) :
    handOver f r s = applyEffect (f (onRelease s r)) (uncarry (onRelease s r) s) := by
  rw [handOver_some f r s hn]
  exact reportEffect_atOnce _ _ (by rwa [hf]) ht (List.map_eq_nil_iff.mpr hh)

end

/-! ### A RELEASE delivered -/

section
variable {r : RoomNo} {seconds : Nat} {who : List PoolIx} {s : State}

/-- R126: a closed door is released, and the presences are to be tied to it. -/
theorem deliverRelease_closed (h : (s.door r).state = .secure ∨ ∃ n, (s.door r).state = .released n) :
    deliverRelease r seconds who s = reportEffect (.tie r who) (s.setDoor r { s.door r with state := .released seconds }) := by
  rcases h with h | ⟨n, h⟩ <;> simp only [deliverRelease, h]

/-- R126: the presences find a door that is open already. -/
theorem deliverRelease_open (h : (∃ n, (s.door r).state = .opened n) ∨ (s.door r).state = .held ∨ (s.door r).state = .forced) :
    deliverRelease r seconds who s = reportEffect (.opened who) s := by
  rcases h with ⟨n, h⟩ | h | h <;> simp only [deliverRelease, h]

theorem deliverRelease_unknown {x : Resumption} (h : (s.door r).state = .unknown x) :
    deliverRelease r seconds who s = reportEffect (.unused who) s := by simp only [deliverRelease, h]

theorem deliverRelease_evacuation (h : (s.door r).state = .evacuation) :
    deliverRelease r seconds who s = reportEffect (.drop who) s := by simp only [deliverRelease, h]

end

/-! ### Contact reports -/

/-- R128, R130: the model's way to a HELD door. -/
theorem holdDoor_heldOpen (r : RoomNo) (s : State) : holdDoor r s = heldOpen r (s.door r) s := rfl

section
variable {r : RoomNo} {s : State}

/-- R127: a released door opens. -/
theorem contactReport_released {n : Nat} (h : (s.door r).state = .released n) (hc : (s.door r).contact ≠ some true) :
    contactReport r true s =
      handOver .opened r (s.setDoor r { s.door r with contact := some true, state := .opened s.timings.heldOpen }) := by
  simp only [contactReport.eq_def, h, beq_eq_false_iff_ne.mpr hc]

/-- R127: a secure door that opens waits for its exit station's judgement. -/
theorem contactReport_secure (h : (s.door r).state = .secure) (hc : (s.door r).contact ≠ some true) :
    contactReport r true s = s.setDoor r { s.door r with contact := some true, openingPending := true } := by
  simp only [contactReport.eq_def, h, beq_eq_false_iff_ne.mpr hc]

/-- R130: the first report settles an UNKNOWN door. -/
theorem contactReport_back (h : (s.door r).state = .unknown .back) :
    contactReport r true s = heldOpen r { s.door r with contact := some true } s := by
  simp only [contactReport.eq_def, h, holdDoor_heldOpen, heldOpen, State.setDoor_door_same, State.setDoor_setDoor]
  rfl

theorem contactReport_clear (h : (s.door r).state = .unknown .clear) :
    contactReport r true s = s.setDoor r { s.door r with contact := some true, state := .opened s.timings.heldOpen } := by
  simp only [contactReport.eq_def, h]

theorem contactReport_closed {x : Resumption} (h : (s.door r).state = .unknown x) :
    contactReport r false s = s.setDoor r { s.door r with contact := some false, state := .secure } := by
  simp only [contactReport.eq_def, h]

/-- R127, R128: an open door closes. -/
theorem contactReport_closes (h : (∃ n, (s.door r).state = .opened n) ∨ (s.door r).state = .held ∨ (s.door r).state = .forced)
    (hc : (s.door r).contact = some true) :
    contactReport r false s = s.setDoor r { s.door r with contact := some false, state := .secure } := by
  rcases h with ⟨n, h⟩ | h | h <;> simp only [contactReport.eq_def, h, hc, beq_self_eq_true]

/-- R130: in an evacuation a report moves no door. -/
theorem contactReport_evacuation (isOpen : Bool) (h : (s.door r).state = .evacuation) :
    contactReport r isOpen s = s.setDoor r { s.door r with contact := some isOpen } := by
  simp only [contactReport.eq_def, h]

/-- R127: a closed door is moved by an opening alone. -/
theorem contactReport_stays_closed {isOpen : Bool} (h : (s.door r).state = .secure ∨ ∃ n, (s.door r).state = .released n)
    (hc : ¬ (isOpen = true ∧ (s.door r).contact ≠ some true)) :
    contactReport r isOpen s = s.setDoor r { s.door r with contact := some isOpen } := by
  cases isOpen with
  | false => rcases h with h | ⟨n, h⟩ <;> simp only [contactReport.eq_def, h]
  | true =>
    have hopen : (s.door r).contact = some true := not_not.mp fun hne => hc ⟨rfl, hne⟩
    rcases h with h | ⟨n, h⟩ <;> simp only [contactReport.eq_def, h, hopen, beq_self_eq_true]

/-- R127, R128: an open door is moved by a closing alone. -/
theorem contactReport_stays_open {isOpen : Bool}
    (h : (∃ n, (s.door r).state = .opened n) ∨ (s.door r).state = .held ∨ (s.door r).state = .forced)
    (hc : ¬ (isOpen = false ∧ (s.door r).contact = some true)) :
    contactReport r isOpen s = s.setDoor r { s.door r with contact := some isOpen } := by
  cases isOpen with
  | true => rcases h with ⟨n, h⟩ | h | h <;> simp only [contactReport.eq_def, h]
  | false =>
    have hclosed : (s.door r).contact ≠ some true := fun he => hc ⟨rfl, he⟩
    rcases h with ⟨n, h⟩ | h | h <;> simp only [contactReport.eq_def, h, beq_eq_false_iff_ne.mpr hclosed]

end

/-! ### The judgement of a pending opening -/

section
variable {r : RoomNo} {bar : Bool} {s : State}

/-- R127: an opening judged by the reply's push-bar report or by the mark. -/
theorem judgeOpening_used (h : (s.door r).openingPending = true) (hb : bar = true ∨ (s.door r).pushMark = true) :
    judgeOpening r bar s = judgedEgress r s := by
  have huse : (bar || (s.door r).pushMark) = true := Bool.or_eq_true_iff.mpr hb
  have hroom : ∀ e b j (t : State), (judged e b j r t).roomState r = t.roomState r := fun e b j t => by
    rw [judged_frame]
    rfl
  simp only [judgeOpening, judgedEgress, h, huse, Bool.not_true, if_false, if_true, Bool.false_eq_true]
  simp only [State.setDoor_door_same, State.setDoor_setDoor]
  exact congrArg (fun o => State.setRoomState _ r { o with uncertain := true }) (hroom ..)

/-- R127: what a judgement can do. -/
theorem judgeOpening_cases (r : RoomNo) (bar : Bool) (s : State) :
    judgeOpening r bar s = s ∨ judgeOpening r bar s = judgedEgress r s ∨ judgeOpening r bar s = judgedForced r s := by
  cases ho : (s.door r).openingPending with
  | false => exact .inl (judgeOpening_none ho)
  | true =>
    by_cases hb : bar = true ∨ (s.door r).pushMark = true
    · exact .inr (.inl (judgeOpening_used ho hb))
    · obtain ⟨hbar, hmark⟩ := not_or.mp hb
      obtain rfl := Bool.eq_false_iff.mpr hbar
      exact .inr (.inr (judgeOpening_forced ho (Bool.eq_false_iff.mpr hmark)))

theorem judged_station (e : CountEvent) (b : NoticeBody) (j : JournalBody) (r : RoomNo) (s : State) (a : LoopAddr) :
    (judged e b j r s).station a = s.station a := by
  rw [judged_frame]
  rfl

theorem judgedEgress_door (r : RoomNo) (s : State) : (judgedEgress r s).door r =
    { s.door r with state := .opened s.timings.heldOpen, pushMark := false, openingPending := false } :=
  (judged_door .unreadEgress _ _ r r _).trans (State.setDoor_door_same ..)

theorem judgedForced_door (r : RoomNo) (s : State) : (judgedForced r s).door r =
    { s.door r with state := .forced, pushMark := false, openingPending := false } :=
  (judged_door .doorForced _ _ r r _).trans (State.setDoor_door_same ..)

/-- R127: a judgement leaves the stations as they were. -/
theorem judgeAt_station (a : LoopAddr) (bar : Bool) (s : State) (b : LoopAddr) : (judgeAt a bar s).station b = s.station b := by
  unfold judgeAt
  split
  · next r _ =>
    split
    · rfl
    · rcases judgeOpening_cases r bar s with h | h | h <;> rw [h]
      · exact judged_station .unreadEgress _ _ r _ b
      · exact judged_station .doorForced _ _ r _ b
  · rfl

end

theorem setDoor_door (r : RoomNo) (s : State) : s.setDoor r (s.door r) = s := by simp [State.setDoor, State.door]

/-- R125: a judging reply leaves the mark clear, as its judgement left it. -/
theorem pushBarReport_judged {r : RoomNo} {s : State} (bar : Bool) (h : (s.door r).pushMark = false) :
    pushBarReport r bar true s = s := by
  have hsame : { s.door r with pushMark := false } = s.door r := by rw [← h]
  rw [pushBarReport, Bool.not_true, Bool.and_false, hsame, setDoor_door]

/-! ### A reply that carries nothing but its door report -/

section
variable {a : LoopAddr} {r : RoomNo} {rep : StatusReport} {s : State}

theorem setStation_station (a : LoopAddr) (s : State) : s.setStation a (s.station a) = s := by simp [State.setStation, State.station]

/-- R122: a reply of a mapped station that is ONLINE without a miss changes nothing of it. -/
theorem comeOnline_online (hr : roomOf s a = some r) (ho : (s.station a).state = .online) (hm : (s.station a).misses = 0) :
    comeOnline a s = s := by
  have hstate : stationState s a = .online := by
    revert hr
    unfold stationState roomOf
    cases mapOutcome s a with
    | mapped q configured => exact fun _ => ho
    | unpolled | conflict => exact nofun
  have hsame : { s.station a with state := .online, misses := 0 } = s.station a := by rw [← ho, ← hm]
  simp only [comeOnline, hstate, hsame, setStation_station]

/-- R123: a tamper input that stays is no report. -/
theorem tamperReport_same {isSet : Bool} (h : isSet = (s.station a).tamper) : tamperReport a isSet s = s := by
  subst h
  simp only [tamperReport, Bool.and_not_self, Bool.false_eq_true, if_false]
  exact setStation_station a s

theorem offerRead_none (a : LoopAddr) (s : State) : offerRead a 0 s = s := by simp [offerRead]

/-- R119: a good reply from the address polled. -/
theorem exec_statusReply {c : Carried} (hs : s.supply = .normal) (hp : s.polling = some ⟨a, c⟩) (ha : rep.address = a) :
    exec (.statusReply rep) s = .next (takeReply a c rep (unpolled s)) := by
  show execStatusReply rep s = _
  simp only [execStatusReply, hs, hp, ha, if_true, unpolled]

/-- R119: such a reply is its judgement and its door report. -/
theorem exec_plainReply (h : PlainReply a r rep s) : exec (.statusReply rep) s =
    .next (doorReport a rep.door (openingPends s a) (judgeAt a rep.door (unpolled s))) := by
  obtain ⟨hs, hp, hr, ha, hread, hstate, hmisses, htamper⟩ := h
  have hstation := judgeAt_station a rep.door (unpolled s) a
  have hroom : roomOf (judgeAt a rep.door (unpolled s)) a = some r := (roomOf_kept (judgeAt_kept ..) a).trans hr
  rw [exec_statusReply hs hp ha, takeReply, hread, offerRead_none]
  simp only [deliver]
  rw [comeOnline_online hroom (by rw [hstation]; exact hstate) (by rw [hstation]; exact hmisses),
    tamperReport_same (by rw [hstation]; exact htamper)]
  rfl

/-- R119, R127: at an entry station it is the contact report. -/
theorem exec_plainReply_entry (h : PlainReply a r rep s) (he : isEntry a = true) :
    exec (.statusReply rep) s = .next (contactReport r rep.door (unpolled s)) := by
  have hroom : roomOf (unpolled s) a = some r := h.2.2.1
  rw [exec_plainReply h, judgeAt_nothing (.inl he)]
  simp only [doorReport, hroom, he, if_true]

/-- R119, R125, R127: at an exit station it is the judgement and then the push-bar report. -/
theorem exec_plainReply_exit (h : PlainReply a r rep s) (he : isEntry a = false) : exec (.statusReply rep) s =
    .next (pushBarReport r rep.door (s.door r).openingPending (judgeOpening r rep.door (unpolled s))) := by
  have hr : roomOf s a = some r := h.2.2.1
  have hroom : roomOf (judgeOpening r rep.door (unpolled s)) a = some r := (roomOf_kept (judgeOpening_kept ..) a).trans hr
  have hpends : openingPends s a = (s.door r).openingPending := by simp [openingPends, hr]
  rw [exec_plainReply h, judgeAt_exit he (s := unpolled s) hr, hpends]
  simp only [doorReport, hroom, he, Bool.false_eq_true, if_false]

end

/-! ### Timers and held resolutions -/

section
variable {r : RoomNo} {s : State}

/-- R129: a release whose ticks have run out with the contact not open. -/
theorem exec_releaseEnd_ends (hs : s.supply = .normal) (h : (s.door r).state = .released 0) (hc : (s.door r).contact ≠ some true) :
    exec (.releaseEnd r) s = .next (handOver .unused r (s.setDoor r { s.door r with state := .secure })) := by
  show execReleaseEnd r s = _
  rcases hx : (s.door r).contact with _ | _ | _
  · simp only [execReleaseEnd, hs, h, hx]
  · simp only [execReleaseEnd, hs, h, hx]
  · exact absurd hx hc

theorem exec_releaseEnd_idle (hs : s.supply = .normal) (h : (s.door r).state ≠ .released 0 ∨ (s.door r).contact = some true) :
    exec (.releaseEnd r) s = .next s := by
  show execReleaseEnd r s = _
  by_cases hx : (s.door r).state = .released 0
  · simp only [execReleaseEnd, hs, hx, h.resolve_left (not_not.mpr hx)]
  · simp only [execReleaseEnd, hs]
    split
    · rfl
    · rfl
    · next h0 _ => exact absurd h0 hx
    · rfl

/-- R128: an open door whose limit has run out. -/
theorem exec_heldOpenLimit_ends (hs : s.supply = .normal) (h : (s.door r).state = .opened 0) :
    exec (.heldOpenLimit r) s = .next (heldOpen r (s.door r) s) := by
  show execHeldOpenLimit r s = _
  simp only [execHeldOpenLimit, hs, h, holdDoor_heldOpen]

theorem exec_heldOpenLimit_idle (hs : s.supply = .normal) (h : (s.door r).state ≠ .opened 0) :
    exec (.heldOpenLimit r) s = .next s := by
  show execHeldOpenLimit r s = _
  simp only [execHeldOpenLimit, hs]

/-- R104: the oldest effect held, with no turn in progress. -/
theorem exec_heldResolution_oldest {e : PresenceEffect} {es : List PresenceEffect} (ht : s.turn = none) (hh : s.heldEffects = e :: es) :
    exec .heldResolution s = .next (grantNext (applyEffect e { s with heldEffects := es })) := by
  show execHeldResolution s = _
  simp only [execHeldResolution, ht, hh]

theorem exec_heldResolution_idle (h : s.turn ≠ none ∨ s.heldEffects = []) : exec .heldResolution s = .next s := by
  show execHeldResolution s = _
  rcases ht : s.turn with _ | turn
  · simp only [execHeldResolution, ht, h.resolve_left (not_not.mpr ht)]
  · simp only [execHeldResolution, ht]

end

end Sys2Proof.Machine

open Sys2Proof Sys2Proof.Machine Sys2Proof.Claims in
/-- Settles O45: a hand-over by the turn and the effects held, a delivery and a contact report by the door's state, a judgement by the
push-bar, and the timers and held resolutions by their rows. -/
theorem doorsFollowTheirReports : Obligations.DoorsFollowTheirReports := by
  refine ⟨fun f r s hf => ?handOver, fun r seconds who s => ⟨deliverRelease_closed, deliverRelease_open,
      fun x => deliverRelease_unknown, deliverRelease_evacuation⟩, fun a r rep s h he => ?entry, fun a r rep s h he => ?exit,
    fun r s hs => ⟨exec_releaseEnd_ends hs, exec_releaseEnd_idle hs, exec_heldOpenLimit_ends hs, exec_heldOpenLimit_idle hs⟩,
    fun s => ⟨fun e es => exec_heldResolution_oldest, exec_heldResolution_idle⟩⟩
  case handOver =>
    rw [running_eq]
    exact ⟨handOver_nobody f r s, fun hn => ⟨handOver_held hf hn, handOver_atOnce hf hn⟩, uncarry_onRelease_tied r s⟩
  case entry =>
    intro u d opens closes leaves
    have hleaves : ∀ {t}, contactReport r rep.door u = t → leaves t := fun ht => ht ▸ exec_plainReply_entry h he
    have hopen : ∀ {t}, rep.door = true → contactReport r true u = t → leaves t := fun hd ht => hleaves (by rw [hd]; exact ht)
    have hclosed : ∀ {t}, rep.door = false → contactReport r false u = t → leaves t := fun hd ht => hleaves (by rw [hd]; exact ht)
    refine ⟨fun n hx ho => ?_, fun hx ho => ?_, fun hx hd => ?_, fun hx hd => ?_, fun x hx hd => ?_, fun hx hc => ?_, fun hx => ?_⟩
    · exact hopen ho.1 ((contactReport_released (s := u) hx ho.2).trans (by simp only [d, ho.1]; rfl))
    · exact hopen ho.1 ((contactReport_secure (s := u) hx ho.2).trans (by simp only [d, ho.1]; rfl))
    · exact hopen hd ((contactReport_back (s := u) hx).trans (by simp only [d, hd]; rfl))
    · exact hopen hd ((contactReport_clear (s := u) hx).trans (by simp only [d, hd]; rfl))
    · exact hclosed hd ((contactReport_closed (s := u) hx).trans (by simp only [d, hd]; rfl))
    · exact hclosed hc.1 ((contactReport_closes (s := u) hx hc.2).trans (by simp only [d, hc.1]; rfl))
    · rcases hx with hx | ⟨hx, hno⟩ | ⟨hx, hno⟩
      · exact hleaves (contactReport_evacuation (s := u) rep.door hx)
      · exact hleaves (contactReport_stays_closed (s := u) hx hno)
      · exact hleaves (contactReport_stays_open (s := u) hx hno)
  case exit =>
    intro u leaves
    have hjudged : ∀ {t}, (s.door r).openingPending = true → judgeOpening r rep.door u = t → (t.door r).pushMark = false → leaves t :=
      fun ho ht hm => by
        show exec (.statusReply rep) s = _
        rw [exec_plainReply_exit h he, ho]
        exact congrArg _ ((congrArg _ ht).trans (pushBarReport_judged rep.door hm))
    refine ⟨fun ho => ?_, fun ho hb => ?_, fun ho hd hm => ?_⟩
    · show exec (.statusReply rep) s = _
      rw [exec_plainReply_exit h he, judgeOpening_none (s := unpolled s) ho, ho, pushBarReport, Bool.not_false, Bool.and_true]
      rfl
    · exact hjudged ho (judgeOpening_used (s := u) ho hb) (by rw [judgedEgress_door])
    · exact hjudged ho (by rw [hd]; exact judgeOpening_forced (s := u) ho hm) (by rw [judgedForced_door])
end

section
/-! What a good reply brings about, it brings about whatever POLL is out (O44): presences resolved, effects reported, commands queued and
reads cleared. -/

namespace Sys2Proof.Machine

/-! ### Presences -/

theorem removePresence_unpolled (i : PoolIx) (s : State) : removePresence i (unpolled s) = unpolled (removePresence i s) := by
  have hp : (unpolled s).presence i = s.presence i := rfl
  unfold removePresence
  rw [hp]
  cases s.presence i <;> rfl

theorem setPresenceState_unpolled (i : PoolIx) (x : PresenceState) (s : State) :
    setPresenceState i x (unpolled s) = unpolled (setPresenceState i x s) := by
  have hp : (unpolled s).presence i = s.presence i := rfl
  unfold setPresenceState
  rw [hp]
  cases s.presence i <;> rfl

theorem reexamine_unpolled (r : RoomNo) (gone : List Nat) (s : State) :
    reexamine r gone (unpolled s) = unpolled (reexamine r gone s) := by
  have hcheck : ∀ t, escortCheck r gone (unpolled t) = unpolled (escortCheck r gone t) := fun t => by
    have hused : ∀ k, { unpolled t with freeUsed := k } = unpolled { t with freeUsed := k } := fun _ => rfl
    simp only [escortCheck, hused, apply_ite unpolled, ← post_unpolled, ← writeJournal_unpolled]
    rfl
  exact hcheck (refreshRoom r s)

/-- R102, R103: a step of a resolution that collects the supervisors removed, whatever POLL is out. -/
def ResolvesUnpolled (one : PoolIx → State × List Nat → State × List Nat) : Prop :=
  ∀ i s gone, one i (unpolled s, gone) = ((unpolled (one i (s, gone)).1), (one i (s, gone)).2)

theorem resolveOpened_unpolled : ResolvesUnpolled resolveOpened := fun i s gone => by
  have hp : (unpolled s).presence i = s.presence i := rfl
  unfold resolveOpened
  simp only [hp, setPresenceState_unpolled, removePresence_unpolled]
  cases s.presence i with
  | none => rfl
  | some p =>
    cases hx : p.state with
    | arriving | leaving =>
      simp only [hx, ← report_unpolled, ← writeJournal_unpolled]
      rfl
    | inside | unverified => simp only [hx]

theorem resolveUnused_unpolled : ResolvesUnpolled resolveUnused := fun i s gone => by
  have hp : (unpolled s).presence i = s.presence i := rfl
  unfold resolveUnused
  simp only [hp, setPresenceState_unpolled, removePresence_unpolled]
  cases s.presence i with
  | none => rfl
  | some p =>
    cases hx : p.state with
    | arriving | leaving =>
      simp only [hx, ← writeJournal_unpolled]
      rfl
    | inside | unverified => simp only [hx]

theorem resolve_unpolled {one : PoolIx → State × List Nat → State × List Nat} (h : ResolvesUnpolled one) (who : List PoolIx)
    (s : State) : resolve one who (unpolled s) = unpolled (resolve one who s) := by
  have hall : ∀ (is : List PoolIx) (x : State × List Nat), is.foldl (fun x i => one i x) (unpolled x.1, x.2) =
      (unpolled (is.foldl (fun x i => one i x) x).1, (is.foldl (fun x i => one i x) x).2) := fun is x =>
    List.foldl_hom (fun y : State × List Nat => (unpolled y.1, y.2)) fun y i => h i y.1 y.2
  refine List.foldl_hom unpolled (init := uncarry who s) fun t r => ?_
  have hroom := hall ((t.roomState r).list.filter (· ∈ who)) (t, [])
  simp only [resolveRoom, ← reexamine_unpolled]
  exact congrArg (fun y : State × List Nat => reexamine r y.2 y.1) hroom

/-! ### Effects -/

theorem applyEffect_unpolled (e : PresenceEffect) (s : State) : applyEffect e (unpolled s) = unpolled (applyEffect e s) := by
  cases e with
  | tie | drop => rfl
  | opened who => exact resolve_unpolled resolveOpened_unpolled who s
  | unused who => exact resolve_unpolled resolveUnused_unpolled who s

theorem reportEffect_unpolled (e : PresenceEffect) (s : State) : reportEffect e (unpolled s) = unpolled (reportEffect e s) := by
  simp only [reportEffect, applyEffect_unpolled, apply_ite unpolled]
  rfl

theorem deliverRelease_unpolled (r : RoomNo) (seconds : Nat) (who : List PoolIx) (s : State) :
    deliverRelease r seconds who (unpolled s) = unpolled (deliverRelease r seconds who s) := by
  have hd : (unpolled s).door r = s.door r := rfl
  have hset : ∀ d, (unpolled s).setDoor r d = unpolled (s.setDoor r d) := fun _ => rfl
  unfold deliverRelease
  simp only [hd, hset, reportEffect_unpolled]
  cases (s.door r).state <;> rfl

/-! ### Commands and reads -/

theorem loseCommand_unpolled (own : Bool) (c : Option DecisionCommand) (s : State) :
    loseCommand own c (unpolled s) = unpolled (loseCommand own c s) := by
  unfold loseCommand
  split
  · simp only [effect, applyEffect_unpolled, reportEffect_unpolled, apply_ite unpolled]
  · rfl

theorem clearRead_unpolled (a : LoopAddr) (s : State) : clearRead a (unpolled s) = unpolled (clearRead a s) := by
  have hx : (unpolled s).station a = s.station a := rfl
  have ht : (unpolled s).turn = s.turn := rfl
  unfold clearRead
  simp only [hx, ht]
  rcases (s.station a).read with _ | ⟨badge, _ | _⟩
  case some.deciding =>
    rcases s.turn with _ | ⟨_ | _ | _ | _, began⟩
    case some.decision rd drop => by_cases h : rd.address = a <;> simp only [h, if_true, if_false] <;> rfl
    all_goals rfl
  all_goals rfl

/-- R121: a command that is taken off the POLL, or not, changes nothing else. -/
theorem unpolled_loseCarried (a : LoopAddr) (c : Carried) (s : State) : unpolled (loseCarried a c s) = unpolled s := by
  rw [loseCarried_frame]
  rfl

theorem loseCarried_unpolled (a : LoopAddr) (c : Carried) (s : State) :
    loseCarried a c (unpolled s) = unpolled (loseCarried a c s) := by
  rw [unpolled_loseCarried]
  rfl

theorem discardDecision_unpolled (own : Bool) (a : LoopAddr) (s : State) :
    discardDecision own a (unpolled s) = unpolled (discardDecision own a s) := by
  have hset : ∀ x, (unpolled s).setStation a x = unpolled (s.setStation a x) := fun _ => rfl
  simp only [discardDecision, hset, loseCarried_unpolled, loseCommand_unpolled]
  rfl

theorem queueMode_unpolled (own : Bool) (m : ModeCommand) (a : LoopAddr) (s : State) :
    queueMode own m a (unpolled s) = unpolled (queueMode own m a s) := by
  have hset : ∀ x, (unpolled s).setStation a x = unpolled (s.setStation a x) := fun _ => rfl
  have hx : ∀ t : State, (unpolled t).station a = t.station a := fun _ => rfl
  unfold queueMode
  simp only [hset, hx, loseCarried_unpolled, discardDecision_unpolled, clearRead_unpolled]
  split <;> rfl

end Sys2Proof.Machine
end

section
/-! What the effects that a good reply reports leave of the loop (O44): presences cease to be carried, and the stations, the turn and the
read queue are otherwise as they were. -/

namespace Sys2Proof.Machine

open Claims

/-- The presences named cease to be carried; the register, the doors, the effects held and the reports may change besides, but no
station, no turn, no read, no hold and no opening that pends. -/
structure Loosened (who : List PoolIx) (s t : State) : Prop where
  kept : Kept s t
  turn : t.turn = s.turn
  lastServed : t.lastServed = s.lastServed
  readQueue : t.readQueue = s.readQueue
  polling : t.polling = s.polling
  hold : ∀ r, t.hold r = s.hold r
  station : ∀ a, t.station a = (s.station a).without who
  pending : ∀ r, (t.door r).openingPending = (s.door r).openingPending

theorem Uncarried.loosened {w : List PoolIx} {s t : State} (h : Uncarried w s t) : Loosened w s t :=
  ⟨h.kept, h.turn, h.lastServed, h.readQueue, h.polling, h.hold, h.station, fun r => by rw [h.door r]; rfl⟩

namespace Loosened

variable {v w : List PoolIx} {s t u : State}

theorem refl (s : State) : Loosened [] s s := (Uncarried.refl s).loosened

theorem trans (h : Loosened v s t) (k : Loosened w t u) : Loosened (v ++ w) s u where
  kept := h.kept.trans k.kept
  turn := k.turn.trans h.turn
  lastServed := k.lastServed.trans h.lastServed
  readQueue := k.readQueue.trans h.readQueue
  polling := k.polling.trans h.polling
  hold := fun r => (k.hold r).trans (h.hold r)
  station := fun a => by rw [k.station, h.station, Station.without_without]
  pending := fun r => (k.pending r).trans (h.pending r)

theorem congr (h : Loosened v s t) (hw : ∀ k, k ∈ v ↔ k ∈ w) : Loosened w s t :=
  { h with station := fun a => (h.station a).trans (Station.without_congr hw _) }

theorem then_quiet (h : Loosened v s t) (k : Loosened [] t u) : Loosened v s u := (h.trans k).congr (by simp)

theorem then_within (h : Loosened v s t) (k : Loosened w t u) (hw : ∀ i ∈ w, i ∈ v) : Loosened v s u :=
  (h.trans k).congr fun i => by simpa using hw i

end Loosened

/-! ### Presences resolved -/

theorem report_loosened (e : CountEvent) (room : Option RoomNo) (n : Nat) (s : State) : Loosened [] s (report e room n s) := by
  rw [report_frame]
  exact { Loosened.refl s with kept := by constructor <;> rfl }

theorem setDoor_loosened {r : RoomNo} {d : Door} {s : State} (h : d.openingPending = (s.door r).openingPending) :
    Loosened [] s (s.setDoor r d) :=
  { Loosened.refl s with
    kept := setDoor_kept ..
    pending := fun q => by
      by_cases hq : r = q
      · subst hq; simpa using h
      · simp [hq] }

/-- R102: one presence opened. -/
theorem resolveOpened_loosened (i : PoolIx) (x : State × List Nat) :
    ∃ w, (∀ k ∈ w, k = i) ∧ Loosened w x.1 (resolveOpened i x).1 := by
  unfold resolveOpened
  split
  · exact ⟨[], by simp, .refl _⟩
  · dsimp only
    split
    · exact ⟨[], by simp,
        ((setPresenceState_uncarried ..).then_quiet (writeJournal_uncarried ..)).loosened.then_quiet (report_loosened ..)⟩
    · obtain ⟨w, hw, h⟩ := removePresence_uncarried x.1 i
      exact ⟨w, hw, (h.then_quiet (writeJournal_uncarried ..)).loosened.then_quiet (report_loosened ..)⟩
    · exact ⟨[], by simp, .refl _⟩
    · exact ⟨[], by simp, .refl _⟩

theorem resolveOpeneds_loosened {who : List PoolIx} {s : State} (is : List PoolIx) (hi : ∀ i ∈ is, i ∈ who) (x : State × List Nat)
    (h : Loosened who s x.1) : Loosened who s (is.foldl (fun x i => resolveOpened i x) x).1 := by
  induction is generalizing x with
  | nil => exact h
  | cons i is ih =>
    obtain ⟨w, hw, k⟩ := resolveOpened_loosened i x
    exact ih (fun j hj => hi j (List.mem_cons_of_mem i hj)) _ (h.then_within k fun j hj => hw j hj ▸ hi i List.mem_cons_self)

/-- R102: a release resolved as opened leaves its presences carried on nothing. -/
theorem resolveOpened_all_loosened (who : List PoolIx) (s : State) : Loosened who s (resolve resolveOpened who s) := by
  unfold resolve
  generalize roomsOfPresences s who = rs
  have h := (uncarry_uncarried s who).loosened
  generalize uncarry who s = t at h
  induction rs generalizing t with
  | nil => exact h
  | cons r rs ih =>
    refine ih _ (Loosened.then_quiet ?_ (reexamine_uncarried ..).loosened)
    exact resolveOpeneds_loosened _ (fun i hi => by simpa using (List.mem_filter.mp hi).2) (t, []) h

/-! ### Effects -/

theorem applyEffect_loosened (e : PresenceEffect) (s : State) : Loosened e.names s (applyEffect e s) := by
  cases e with
  | tie r who => exact (uncarry_uncarried s who).loosened.then_quiet (setDoor_loosened rfl)
  | opened who => exact resolveOpened_all_loosened who s
  | unused who => exact (resolveUnused_all_uncarried who s).loosened
  | drop who => exact (uncarry_uncarried s who).loosened

/-- R104: an effect reported is held, or carried out. -/
theorem reportEffect_loosened (e : PresenceEffect) (s : State) :
    ∃ w, (∀ k ∈ w, k ∈ e.names) ∧ Loosened w s (reportEffect e s) := by
  unfold reportEffect
  split
  · exact ⟨[], by simp, .refl s⟩
  · split
    · exact ⟨[], by simp, { Loosened.refl s with kept := by constructor <;> rfl }⟩
    · exact ⟨e.names, fun _ hk => hk, applyEffect_loosened e s⟩

/-- R104: an effect reported makes nothing wait that did not wait before it. -/
theorem reportEffect_busy (e : PresenceEffect) (s : State) : Busy (reportEffect e s) ↔ Busy s := by
  by_cases hn : e.names = []
  · rw [reportEffect_nobody e s hn]
  · by_cases h : Busy s
    · rw [reportEffect_held e s hn h]
      exact iff_of_true (.inr (by simp)) h
    · obtain ⟨ht, hh⟩ := (not_busy_iff s).mp h
      rw [reportEffect_atOnce e s hn ht hh]
      have hsame := applyEffect_sameHeld e s
      exact busy_of_same (by rw [hsame.turn]) hsame.effects

/-- R127, R129: those on a door's running release cease to be tied when it is handed over. -/
theorem handOver_loosened {f : List PoolIx → PresenceEffect} (hf : ∀ who, (f who).names = who) (r : RoomNo) (s : State) :
    Loosened (onRelease s r) s (handOver f r s) := by
  by_cases hn : onRelease s r = []
  · rw [handOver_nobody f r s hn, hn]
    exact .refl s
  · rw [handOver_some f r s hn]
    obtain ⟨w, hw, h⟩ := reportEffect_loosened (f (onRelease s r)) (uncarry (onRelease s r) s)
    exact (uncarry_uncarried s _).loosened.then_within h (by rwa [hf] at hw)

theorem handOver_busy (f : List PoolIx → PresenceEffect) (r : RoomNo) (s : State) : Busy (handOver f r s) ↔ Busy s := by
  by_cases hn : onRelease s r = []
  · rw [handOver_nobody f r s hn]
  · have hsame := uncarry_sameHeld (onRelease s r) s
    rw [handOver_some f r s hn, reportEffect_busy]
    exact busy_of_same (by rw [hsame.turn]) hsame.effects

/-- R126: a RELEASE delivered is at most a new door state and an effect reported. -/
theorem deliverRelease_eq (r : RoomNo) (seconds : Nat) (who : List PoolIx) (s : State) :
    ∃ x e, deliverRelease r seconds who s = reportEffect e (s.setDoor r { s.door r with state := x }) := by
  have hstays : s.setDoor r { s.door r with state := (s.door r).state } = s := setDoor_door r s
  cases h : (s.door r).state with
  | secure => exact ⟨_, _, deliverRelease_closed (.inl h)⟩
  | released n => exact ⟨_, _, deliverRelease_closed (.inr ⟨n, h⟩)⟩
  | opened n => exact ⟨_, .opened who, by rw [hstays, deliverRelease_open (.inl ⟨n, h⟩)]⟩
  | held => exact ⟨_, .opened who, by rw [hstays, deliverRelease_open (.inr (.inl h))]⟩
  | forced => exact ⟨_, .opened who, by rw [hstays, deliverRelease_open (.inr (.inr h))]⟩
  | unknown x => exact ⟨_, .unused who, by rw [hstays, deliverRelease_unknown h]⟩
  | evacuation => exact ⟨_, .drop who, by rw [hstays, deliverRelease_evacuation h]⟩

theorem deliverRelease_loosened (r : RoomNo) (seconds : Nat) (who : List PoolIx) (s : State) :
    (∃ w, Loosened w s (deliverRelease r seconds who s)) ∧ (Busy (deliverRelease r seconds who s) ↔ Busy s) := by
  obtain ⟨x, e, h⟩ := deliverRelease_eq r seconds who s
  rw [h]
  obtain ⟨w, -, hw⟩ := reportEffect_loosened e (s.setDoor r { s.door r with state := x })
  exact ⟨⟨_, (setDoor_loosened (d := { s.door r with state := x }) rfl).trans hw⟩, reportEffect_busy ..⟩

/-! ### Door reports -/

theorem judged_loosened (e : CountEvent) (b : NoticeBody) (j : JournalBody) (r : RoomNo) (s : State) :
    Loosened [] s (judged e b j r s) :=
  ((post_uncarried ..).then_quiet (writeJournal_uncarried ..)).loosened.then_quiet (report_loosened ..)

theorem judged_busy (e : CountEvent) (b : NoticeBody) (j : JournalBody) (r : RoomNo) (s : State) : Busy (judged e b j r s) ↔ Busy s := by
  rw [judged_frame]
  exact Iff.rfl

/-- R127, R128, R130: a contact report is a new door record, and then at most its running release handed over, or its being held. -/
theorem contactReport_cases (r : RoomNo) (isOpen : Bool) (s : State) : ∃ d : Door, d.tied = (s.door r).tied ∧
    (contactReport r isOpen s = s.setDoor r d ∨ contactReport r isOpen s = handOver .opened r (s.setDoor r d) ∨
      ∃ b j, contactReport r isOpen s = judged .doorHeld b j r (s.setDoor r d)) := by
  have hheld : ∀ d : Door, holdDoor r (s.setDoor r d) =
      judged .doorHeld { kind := .heldDoor, station := entryStation s r, room := some r }
        { kind := .held, station := entryStation s r, room := some r } r (s.setDoor r { d with state := .held }) := fun d => by
    rw [holdDoor_heldOpen, heldOpen, State.setDoor_door_same, State.setDoor_setDoor]
    rfl
  unfold contactReport
  dsimp only
  split
  case h_2 => exact ⟨_, by rfl, .inr (.inr ⟨_, _, hheld { s.door r with contact := some true }⟩)⟩
  case h_4 => exact ⟨_, by rfl, .inr (.inl rfl)⟩
  all_goals exact ⟨_, by rfl, .inl rfl⟩

theorem onRelease_setDoor {r : RoomNo} {d : Door} {s : State} (h : d.tied = (s.door r).tied) :
    onRelease (s.setDoor r d) r = onRelease s r := by simp [onRelease, h]

theorem contactReport_loosened (r : RoomNo) (isOpen : Bool) (s : State) :
    ∃ d w, (∀ k ∈ w, k ∈ onRelease s r) ∧ Loosened w (s.setDoor r d) (contactReport r isOpen s) ∧
      (Busy (contactReport r isOpen s) ↔ Busy s) := by
  obtain ⟨d, hd, h | h | ⟨b, j, h⟩⟩ := contactReport_cases r isOpen s <;> rw [h]
  · exact ⟨d, [], by simp, .refl _, Iff.rfl⟩
  · exact ⟨d, onRelease s r, fun _ hk => hk, onRelease_setDoor hd ▸ handOver_loosened (fun _ => rfl) r _, handOver_busy ..⟩
  · exact ⟨d, [], by simp, judged_loosened .., judged_busy ..⟩

end Sys2Proof.Machine
end

section
/-! The steps of a good reply (O44): what each leaves of the loop, and what it makes of the station that replied. -/

namespace Sys2Proof.Machine

open Claims

/-! ### What every step leaves -/

/-- R119: what each step of the reply of the station at `a` leaves, until the read it offers is taken. -/
structure ReplyStep (a : LoopAddr) (s t : State) : Prop where
  kept : Kept s t
  lastServed : t.lastServed = s.lastServed
  hold : ∀ r, t.hold r = s.hold r
  polling : s.polling = none → t.polling = none
  busy : Busy t ↔ Busy s
  read : (t.station a).read = (s.station a).read ∨ (t.station a).read = none
  unread : (s.station a).read = none → t.readQueue = s.readQueue ∧ t.turn = s.turn

namespace ReplyStep

variable {a : LoopAddr} {s t u : State}

theorem refl (a : LoopAddr) (s : State) : ReplyStep a s s :=
  ⟨.refl s, rfl, fun _ => rfl, id, Iff.rfl, .inl rfl, fun _ => ⟨rfl, rfl⟩⟩

theorem read_none (h : ReplyStep a s t) (hs : (s.station a).read = none) : (t.station a).read = none :=
  h.read.elim (fun he => he.trans hs) id

theorem trans (h : ReplyStep a s t) (k : ReplyStep a t u) : ReplyStep a s u where
  kept := h.kept.trans k.kept
  lastServed := k.lastServed.trans h.lastServed
  hold := fun r => (k.hold r).trans (h.hold r)
  polling := fun hp => k.polling (h.polling hp)
  busy := k.busy.trans h.busy
  read := k.read.elim (fun he => he ▸ h.read) .inr
  unread := fun hs => by
    obtain ⟨hq, ht⟩ := h.unread hs
    obtain ⟨kq, kt⟩ := k.unread (h.read_none hs)
    exact ⟨kq.trans hq, kt.trans ht⟩

/-- The station changed, its read kept. -/
theorem setStation {x : Station} (hx : x.read = (s.station a).read) : ReplyStep a s (s.setStation a x) :=
  { refl a s with kept := setStation_kept .., read := .inl (by simpa using hx) }

theorem setDoor (a : LoopAddr) (r : RoomNo) (d : Door) (s : State) : ReplyStep a s (s.setDoor r d) :=
  { refl a s with kept := setDoor_kept .. }

end ReplyStep

theorem Loosened.replyStep {w : List PoolIx} {s t : State} (h : Loosened w s t) (hb : Busy t ↔ Busy s) (a : LoopAddr) :
    ReplyStep a s t :=
  ⟨h.kept, h.lastServed, h.hold, fun hp => h.polling.trans hp, hb, .inl (by rw [h.station]; rfl), fun _ => ⟨h.readQueue, h.turn⟩⟩

theorem post_busy (b : NoticeBody) (s : State) : Busy (post b s) ↔ Busy s := by
  have h := post_sameHeld b s
  exact busy_of_same (by rw [h.turn]) h.effects

theorem writeJournal_busy (b : JournalBody) (s : State) : Busy (writeJournal b s) ↔ Busy s := by
  have h := writeJournal_sameHeld b s
  exact busy_of_same (by rw [h.turn]) h.effects

theorem clearRead_step (a : LoopAddr) (s : State) : ReplyStep a s (clearRead a s) := by
  obtain ⟨rd, q, turn, h, hturn⟩ := clearRead_changes a s
  refine ⟨clearRead_kept a s, by rw [h]; rfl, fun r => by rw [h]; rfl, fun hp => by rw [h]; exact hp, ?_, ?_, fun hr => ?_⟩
  · rw [h]
    exact busy_of_same hturn rfl
  · exact (clearRead_station a s).elim (fun hc => .inr (by rw [hc])) fun ⟨hc, _⟩ => .inl (by rw [hc])
  · rw [clearRead_none hr]
    exact ⟨rfl, rfl⟩

/-! ### The judgement -/

theorem judgedForced_step (a : LoopAddr) (r : RoomNo) (s : State) : ReplyStep a s (judgedForced r s) :=
  (ReplyStep.setDoor a r _ s).trans ((judged_loosened .doorForced ..).replyStep (judged_busy ..) a)

theorem judgedEgress_step (a : LoopAddr) (r : RoomNo) (s : State) : ReplyStep a s (judgedEgress r s) :=
  have hroom : ∀ (t : State) q x, ReplyStep a t (t.setRoomState q x) := fun t q x =>
    (setRoomState_uncarried t q x).loosened.replyStep Iff.rfl a
  ((ReplyStep.setDoor a r _ s).trans ((judged_loosened .unreadEgress ..).replyStep (judged_busy ..) a)).trans (hroom ..)

theorem judgeAt_step (a : LoopAddr) (bar : Bool) (s : State) : ReplyStep a s (judgeAt a bar s) := by
  unfold judgeAt
  split
  · next r _ =>
    split
    · exact .refl a s
    · rcases judgeOpening_cases r bar s with h | h | h <;> rw [h]
      · exact .refl a s
      · exact judgedEgress_step a r s
      · exact judgedForced_step a r s
  · exact .refl a s

/-- R127: a judgement leaves everyone on the running releases. -/
theorem judgeAt_onRelease (a : LoopAddr) (bar : Bool) (s : State) (q : RoomNo) : onRelease (judgeAt a bar s) q = onRelease s q := by
  have hset : ∀ (r : RoomNo) (d : Door), d.tied = (s.door r).tied → onRelease (s.setDoor r d) q = onRelease s q := fun r d hd => by
    by_cases hq : r = q
    · subst hq
      exact onRelease_setDoor hd
    · simp [onRelease, hq]
  have hjudged : ∀ e b j (r : RoomNo) (d : Door), d.tied = (s.door r).tied →
      onRelease (judged e b j r (s.setDoor r d)) q = onRelease s q := fun e b j r d hd => by
    rw [judged_frame]
    exact hset r d hd
  unfold judgeAt
  split
  · next r _ =>
    split
    · rfl
    · rcases judgeOpening_cases r bar s with h | h | h <;> rw [h]
      · exact hjudged .unreadEgress _ _ r _ rfl
      · exact hjudged .doorForced _ _ r _ rfl
  · rfl

/-! ### The delivery -/

section
variable {a : LoopAddr} {s : State}

/-- R118, R120: a station once the command carried has been delivered to it. -/
def Station.delivered (c : Carried) (rd : Option PendingRead) (x : Station) : Station :=
  match c with
  | .nothing => x
  | .mode => { x with mode := none }
  | .decision => { x with decision := none, read := rd }

/-- R118: a station's decision command is taken out of its slot. -/
def commandTaken (a : LoopAddr) (s : State) : State := s.setStation a { s.station a with decision := none }

theorem commandTaken_station (a : LoopAddr) (s : State) :
    (commandTaken a s).station a = { s.station a with decision := none } := State.setStation_station_same ..

theorem clearRead_roomOf (a : LoopAddr) (s : State) : roomOf (clearRead a (commandTaken a s)) a = roomOf s a :=
  roomOf_kept (Kept.trans (t := commandTaken a s) (setStation_kept ..) (clearRead_kept ..)) a

/-- R118, R126: a decision command delivered is gone, its read is cleared, and a RELEASE acts on the door. -/
theorem deliver_decision_release {seconds minutes : Nat} {who : List PoolIx} {r : RoomNo}
    (hx : (s.station a).decision = some (.release seconds minutes who)) (hr : roomOf s a = some r) :
    deliver a .decision s =
      deliverRelease r seconds who (clearRead a (commandTaken a s)) := by
  have hroom := (clearRead_roomOf a s).trans hr
  unfold commandTaken at hroom ⊢
  simp only [deliver, hx, hroom]

theorem deliver_decision_other {d : DecisionCommand} (hx : (s.station a).decision = some d)
    (h : roomOf s a = none ∨ ∀ seconds minutes who, d ≠ .release seconds minutes who) :
    deliver a .decision s = clearRead a (commandTaken a s) := by
  have hroom := clearRead_roomOf a s
  unfold commandTaken at hroom ⊢
  cases d with
  | release seconds minutes who =>
    have hnone := h.resolve_right fun hd => hd seconds minutes who rfl
    simp only [deliver, hx, hroom, hnone]
  | wait | refuse => simp only [deliver, hx]

/-- R120: with no decision in progress on it, the read of a command delivered is cleared. -/
theorem clearRead_delivered (h : ∀ q, (s.station a).read = some q → q.phase = .answered) :
    clearRead a (commandTaken a s) =
      s.setStation a { s.station a with decision := none, read := none } := by
  cases hr : (s.station a).read with
  | none =>
    rw [clearRead_none (by rw [commandTaken_station, hr]), commandTaken, ← hr]
  | some q =>
    obtain ⟨badge, phase⟩ := q
    obtain rfl : phase = .answered := h _ hr
    rw [clearRead_answered (badge := badge) (by rw [commandTaken_station, hr]), commandTaken_station, commandTaken,
      State.setStation_setStation]

/-- R118: a decision command delivered is that, and then at most a RELEASE at a door. -/
theorem deliver_decision_cases {d : DecisionCommand} (hx : (s.station a).decision = some d) :
    ∃ w, Loosened w (clearRead a (commandTaken a s)) (deliver a .decision s) ∧
      (Busy (deliver a .decision s) ↔ Busy (clearRead a (commandTaken a s))) := by
  by_cases h : roomOf s a = none ∨ ∀ seconds minutes who, d ≠ .release seconds minutes who
  · rw [deliver_decision_other hx h]
    exact ⟨[], .refl _, Iff.rfl⟩
  · obtain ⟨hroom, hd⟩ := not_or.mp h
    obtain ⟨r, hr⟩ := Option.ne_none_iff_exists'.mp hroom
    push Not at hd
    obtain ⟨seconds, minutes, who, rfl⟩ := hd
    rw [deliver_decision_release hx hr]
    obtain ⟨⟨w, hw⟩, hb⟩ := deliverRelease_loosened r seconds who (clearRead a (commandTaken a s))
    exact ⟨w, hw, hb⟩

theorem deliver_step (a : LoopAddr) (c : Carried) (s : State) : ReplyStep a s (deliver a c s) := by
  cases c with
  | nothing => exact .refl a s
  | mode => exact .setStation rfl
  | decision =>
    cases hx : (s.station a).decision with
    | none =>
      simp only [deliver, hx]
      exact .refl a s
    | some d =>
      obtain ⟨w, hw, hb⟩ := deliver_decision_cases hx
      exact (ReplyStep.trans (t := commandTaken a s) (.setStation rfl) (clearRead_step ..)).trans (hw.replyStep hb a)

theorem deliver_station (a : LoopAddr) (c : Carried) (s : State) :
    ∃ rd, (rd = (s.station a).read ∨ rd = none) ∧ (deliver a c s).station a = (s.station a).delivered c rd := by
  cases c with
  | nothing => exact ⟨_, .inl rfl, rfl⟩
  | mode => exact ⟨_, .inl rfl, State.setStation_station_same ..⟩
  | decision =>
    cases hx : (s.station a).decision with
    | none =>
      refine ⟨_, .inl rfl, ?_⟩
      simp only [deliver, hx, Station.delivered]
      rw [← hx]
    | some d =>
      obtain ⟨w, hw, -⟩ := deliver_decision_cases hx
      have hcleared := clearRead_station a (commandTaken a s)
      rw [commandTaken_station] at hcleared
      have hgone : (deliver a .decision s).station a = (clearRead a (commandTaken a s)).station a := by
        rw [hw.station, Station.without_of_none]
        rcases hcleared with h | ⟨h, -⟩ <;> rw [h]
      rcases hcleared with h | ⟨h, -⟩
      · exact ⟨none, .inr rfl, hgone.trans h⟩
      · exact ⟨(s.station a).read, .inl rfl, hgone.trans h⟩

end

end Sys2Proof.Machine
end

section
/-! The station brought ONLINE, its tamper input, the door's report and the read offered (O44). -/

namespace Sys2Proof.Machine

open Claims

/-! ### EVAC-RELEASE at one station -/

section
variable {a : LoopAddr}

theorem queueMode_step (m : ModeCommand) (a : LoopAddr) (s : State) : ReplyStep a s (queueMode false m a s) := by
  have hlost : ∀ c (t : State), ReplyStep a t (loseCarried a c t) := fun c t => by
    refine { ReplyStep.refl a t with
      kept := loseCarried_kept .., lastServed := ?_, hold := ?_, polling := fun hp => by simp only [loseCarried, hp]
      busy := ?_, read := ?_, unread := ?_ } <;> rw [loseCarried_frame]
    exacts [fun _ => rfl, Iff.rfl, .inl rfl, fun _ => ⟨rfl, rfl⟩]
  have hdiscard : ∀ t, ReplyStep a t (discardDecision false a t) := fun t => by
    obtain ⟨c, hc⟩ := loseCommand_lost (t.station a) (loseCarried a .decision (commandTaken a t))
    exact (ReplyStep.trans (t := commandTaken a t) (.setStation rfl) (hlost ..)).trans (hc.uncarried.loosened.replyStep hc.busy a)
  have hmode : ReplyStep a s (loseCarried a .mode (s.setStation a { s.station a with mode := some m })) :=
    ReplyStep.trans (t := s.setStation a { s.station a with mode := some m }) (.setStation rfl) (hlost ..)
  unfold queueMode
  dsimp only
  split
  · exact hmode.trans ((hdiscard _).trans (clearRead_step ..))
  · exact hmode

/-- R120, R121: EVAC-RELEASE takes the place of both commands of its station, and the read of a decision command goes with it. -/
theorem queueMode_station (a : LoopAddr) (s : State) : ∃ rd, (rd = (s.station a).read ∨ rd = none) ∧
    (queueMode false .evacRelease a s).station a = { s.station a with mode := some .evacRelease, decision := none, read := rd } := by
  have hmode := loseCarried_frame a .mode (s.setStation a { s.station a with mode := some .evacRelease })
  unfold queueMode
  dsimp only
  generalize loseCarried a .mode (s.setStation a { s.station a with mode := some .evacRelease }) = t at hmode
  have hhere : t.station a = { s.station a with mode := some .evacRelease } := by
    rw [hmode]
    exact State.setStation_station_same ..
  split
  · have hgone : (discardDecision false a t).station a = { t.station a with decision := none } := by
      obtain ⟨w, hw⟩ := loseCommand_uncarried false (t.station a).decision (replaceDecision a none t)
      have hreplaced : (replaceDecision a none t).station a = { t.station a with decision := none } := look_put_same ..
      rw [discardDecision_eq, hw.station, hreplaced, Station.without_of_none rfl]
    rcases clearRead_station a (discardDecision false a t) with h | ⟨h, -⟩ <;> rw [h, hgone, hhere]
    · exact ⟨none, .inr rfl, rfl⟩
    · exact ⟨_, .inl rfl, rfl⟩
  · next hd =>
    have hnone : (s.station a).decision = none := by
      rw [hhere] at hd
      exact Option.eq_none_iff_forall_ne_some.mpr fun d h => hd d rfl h
    exact ⟨_, .inl rfl, by rw [hhere, ← hnone]⟩

/-! ### The station ONLINE -/

/-- R122: a station that replied is ONLINE without a miss. -/
def heard (a : LoopAddr) (s : State) : State := s.setStation a { s.station a with state := .online, misses := 0 }

/-- R132: a station that comes ONLINE in an evacuation is told so, unless that command is pending from `s` on. -/
def alarm (a : LoopAddr) (s t : State) : State :=
  if s.evacuating = true ∧ (s.station a).mode ≠ some .evacRelease then queueMode false .evacRelease a t else t

/-- R122: the notice and the record of an OFFLINE station that answers again. -/
def announcedOnline (a : LoopAddr) (s t : State) : State :=
  writeJournal { kind := .stationOnline, station := some a, room := roomOf s a }
    (post { kind := .stationOnline, station := some a, room := roomOf s a } t)

theorem heard_station (a : LoopAddr) (s : State) : (heard a s).station a = { s.station a with state := .online, misses := 0 } :=
  State.setStation_station_same ..

theorem announcedOnline_uncarried (a : LoopAddr) (s t : State) : Uncarried [] t (announcedOnline a s t) :=
  (post_uncarried ..).then_quiet (writeJournal_uncarried ..)

theorem announcedOnline_station (a b : LoopAddr) (s t : State) : (announcedOnline a s t).station b = t.station b := by
  rw [(announcedOnline_uncarried ..).station, Station.without_nil]

variable {s : State}

theorem comeOnline_conflict (h : heldIn s a = .conflict) : comeOnline a s = s := by
  simp only [comeOnline, stationState_heldIn, h]

theorem comeOnline_heard (h : heldIn s a = .online) : comeOnline a s = heard a s := by
  simp only [comeOnline, stationState_heldIn, h]
  rfl

/-- R132: the alarm looks at what the replying station was before it came ONLINE. -/
theorem alarm_eq {t : State} (he : t.evacuating = s.evacuating) (hm : (t.station a).mode = (s.station a).mode) :
    (if t.evacuating && (t.station a).mode != some .evacRelease then queueMode false .evacRelease a t else t) = alarm a s t := by
  simp only [alarm, he, hm, Bool.and_eq_true, bne_iff_ne]

theorem comeOnline_unknown (h : heldIn s a = .unknown) : comeOnline a s = alarm a s (heard a s) := by
  simp only [comeOnline, stationState_heldIn, h]
  exact alarm_eq rfl (by simp)

theorem comeOnline_offline (h : heldIn s a = .offline) : comeOnline a s = alarm a s (announcedOnline a s (heard a s)) := by
  have hkept : Kept s (announcedOnline a s (heard a s)) :=
    Kept.trans (t := heard a s) (setStation_kept ..) (announcedOnline_uncarried ..).kept
  have hmode : ((announcedOnline a s (heard a s)).station a).mode = (s.station a).mode := by
    rw [announcedOnline_station, heard_station]
  simp only [comeOnline, stationState_heldIn, h]
  exact alarm_eq hkept.evacuating hmode

/-- R21: outside CONFLICT a station is held in its record's state. -/
theorem heldIn_eq_record (h : heldIn s a ≠ .conflict) : heldIn s a = (s.station a).state := by
  unfold heldIn at h ⊢
  split
  · next hc => exact absurd (if_pos hc) h
  · rfl

/-- R21, R122: a station held in CONFLICT, and one that is ONLINE without a miss, are left as they are. -/
theorem comeOnline_still (h : heldIn s a = .conflict ∨ heldIn s a = .online ∧ (s.station a).misses = 0) : comeOnline a s = s := by
  rcases h with h | ⟨h, hm⟩
  · exact comeOnline_conflict h
  · have hstate : (s.station a).state = .online := (heldIn_eq_record (by rw [h]; decide)).symm.trans h
    rw [comeOnline_heard h, heard, ← hstate, ← hm]
    exact setStation_station a s

theorem alarm_step (a : LoopAddr) (s t : State) : ReplyStep a t (alarm a s t) := by
  unfold alarm
  split
  · exact queueMode_step ..
  · exact .refl a t

theorem heard_step (a : LoopAddr) (s : State) : ReplyStep a s (heard a s) := .setStation rfl

theorem announcedOnline_step (a : LoopAddr) (s t : State) : ReplyStep a t (announcedOnline a s t) :=
  (announcedOnline_uncarried a s t).loosened.replyStep ((writeJournal_busy ..).trans (post_busy ..)) a

theorem comeOnline_step (a : LoopAddr) (s : State) : ReplyStep a s (comeOnline a s) := by
  cases h : heldIn s a with
  | conflict =>
    rw [comeOnline_conflict h]
    exact .refl a s
  | online => exact comeOnline_heard h ▸ heard_step a s
  | unknown => exact comeOnline_unknown h ▸ (heard_step a s).trans (alarm_step ..)
  | offline => exact comeOnline_offline h ▸ ((heard_step a s).trans (announcedOnline_step ..)).trans (alarm_step ..)

/-- R122: a replying station by the state it was held in. -/
def Station.heardIn (st : StationState) (x : Station) : Station :=
  if st = .conflict then x else { x with state := .online, misses := 0 }

/-- R122: outside an evacuation a reply's bringing the station ONLINE is that alone, with what is announced. -/
theorem comeOnline_quiet (a : LoopAddr) (h : s.evacuating = false) :
    Uncarried [] (s.setStation a ((s.station a).heardIn (heldIn s a))) (comeOnline a s) := by
  have hquiet : ∀ t, alarm a s t = t := fun t => if_neg (by simp [h])
  have hheard : heldIn s a ≠ .conflict → s.setStation a ((s.station a).heardIn (heldIn s a)) = heard a s := fun hc => by
    rw [Station.heardIn, if_neg hc]
    rfl
  cases hst : heldIn s a with
  | conflict =>
    rw [comeOnline_conflict hst, Station.heardIn, if_pos rfl, setStation_station]
    exact .refl s
  | online =>
    rw [comeOnline_heard hst, ← hst, hheard (by rw [hst]; decide)]
    exact .refl _
  | unknown =>
    rw [comeOnline_unknown hst, hquiet, ← hst, hheard (by rw [hst]; decide)]
    exact .refl _
  | offline =>
    rw [comeOnline_offline hst, hquiet, ← hst, hheard (by rw [hst]; decide)]
    exact announcedOnline_uncarried ..

/-- R122: what a station is once it has come ONLINE, but for its commands and its read. -/
structure Online (a : LoopAddr) (s t : State) : Prop where
  station : ∃ d m rd, t.station a = { (s.station a).heardIn (heldIn s a) with decision := d, mode := m, read := rd }
  decision : (s.station a).decision = none → (t.station a).decision = none
  alarmed : s.evacuating = true → heldIn s a = .unknown ∨ heldIn s a = .offline → (t.station a).mode = some .evacRelease

theorem alarm_online {t : State} (hst : heldIn s a = .unknown ∨ heldIn s a = .offline)
    (ht : t.station a = (s.station a).heardIn (heldIn s a)) : Online a s (alarm a s t) := by
  have hsame : t.station a = { s.station a with state := .online, misses := 0 } :=
    ht.trans (if_neg (by rcases hst with h | h <;> rw [h] <;> decide))
  by_cases h : s.evacuating = true ∧ (s.station a).mode ≠ some .evacRelease
  · obtain ⟨rd, -, hq⟩ := queueMode_station a t
    rw [alarm, if_pos h]
    exact ⟨⟨_, _, _, by rw [hq, ht]⟩, fun _ => by rw [hq], fun _ _ => by rw [hq]⟩
  · rw [alarm, if_neg h]
    exact ⟨⟨_, _, _, ht⟩, fun hd => by rw [hsame]; exact hd, fun he _ => by
      rw [hsame]
      exact not_not.mp fun hm => h ⟨he, hm⟩⟩

theorem comeOnline_station (a : LoopAddr) (s : State) : Online a s (comeOnline a s) := by
  have hheard : heldIn s a ≠ .conflict → (heard a s).station a = (s.station a).heardIn (heldIn s a) := fun hc => by
    rw [Station.heardIn, if_neg hc]
    exact heard_station a s
  cases hst : heldIn s a with
  | conflict =>
    rw [comeOnline_conflict hst]
    exact ⟨⟨_, _, _, by rw [Station.heardIn, if_pos hst]⟩, id, fun _ h => by simp [hst] at h⟩
  | online =>
    have hx := hheard (by rw [hst]; decide)
    rw [comeOnline_heard hst]
    exact ⟨⟨_, _, _, hx⟩, fun hd => by rw [heard_station]; exact hd, fun _ h => by simp [hst] at h⟩
  | unknown =>
    rw [comeOnline_unknown hst]
    exact alarm_online (.inl hst) (hheard (by rw [hst]; decide))
  | offline =>
    rw [comeOnline_offline hst]
    exact alarm_online (.inr hst) ((announcedOnline_station ..).trans (hheard (by rw [hst]; decide)))

end

/-! ### The tamper input -/

/-- R123: a station's tamper input taken, which a notice may report. -/
theorem tamperReport_uncarried (a : LoopAddr) (isSet : Bool) (s : State) :
    Uncarried [] (s.setStation a { s.station a with tamper := isSet }) (tamperReport a isSet s) := by
  unfold tamperReport
  dsimp only
  split
  · exact post_uncarried ..
  · exact .refl _

theorem tamperReport_station (a : LoopAddr) (isSet : Bool) (s : State) :
    (tamperReport a isSet s).station a = { s.station a with tamper := isSet } := by
  rw [(tamperReport_uncarried ..).station, Station.without_nil]
  exact State.setStation_station_same ..

theorem tamperReport_step (a : LoopAddr) (isSet : Bool) (s : State) : ReplyStep a s (tamperReport a isSet s) := by
  refine ReplyStep.trans (t := s.setStation a { s.station a with tamper := isSet }) (.setStation rfl) ?_
  refine (tamperReport_uncarried ..).loosened.replyStep ?_ a
  unfold tamperReport
  dsimp only
  split
  · exact post_busy ..
  · exact Iff.rfl

/-! ### The door's report -/

theorem doorReport_step (a : LoopAddr) (isSet judged : Bool) (s : State) : ReplyStep a s (doorReport a isSet judged s) := by
  unfold doorReport
  split
  · next r _ =>
    split
    · obtain ⟨d, w, -, hw, hb⟩ := contactReport_loosened r isSet s
      exact (ReplyStep.setDoor a r d s).trans (hw.replyStep hb a)
    · exact .setDoor ..
  · exact .refl a s

/-- R127: of the stations a door's report changes at most the commands that carry those on its running release. -/
theorem doorReport_station (a : LoopAddr) (isSet judged : Bool) (s : State) :
    ∃ w, (∀ k ∈ w, ∃ r, roomOf s a = some r ∧ k ∈ onRelease s r) ∧
      (doorReport a isSet judged s).station a = (s.station a).without w := by
  unfold doorReport
  split
  · next r hr =>
    split
    · obtain ⟨d, w, hon, hw, -⟩ := contactReport_loosened r isSet s
      exact ⟨w, fun k hk => ⟨r, hr, hon k hk⟩, hw.station a⟩
    · exact ⟨[], by simp, (Station.without_nil _).symm⟩
  · exact ⟨[], by simp, (Station.without_nil _).symm⟩

/-- R127: no read is queued and no turn granted by a door's report. -/
theorem doorReport_turns (a : LoopAddr) (isSet judged : Bool) (s : State) :
    (doorReport a isSet judged s).readQueue = s.readQueue ∧ (doorReport a isSet judged s).turn = s.turn := by
  unfold doorReport
  split
  · next r _ =>
    split
    · obtain ⟨d, w, -, hw, -⟩ := contactReport_loosened r isSet s
      exact ⟨hw.readQueue, hw.turn⟩
    · exact ⟨rfl, rfl⟩
  · exact ⟨rfl, rfl⟩

/-! ### The read -/

/-- R120: a read offered and not pending yet, put last in the read queue. -/
def reading (a : LoopAddr) (badge : Nat) (s : State) : State :=
  { s.setStation a { s.station a with read := some ⟨badge, .deciding⟩ } with readQueue := s.readQueue ++ [⟨a, badge⟩] }

section
variable {a : LoopAddr} {badge : Nat} {s : State}

theorem offerRead_still (h : badge = 0 ∨ (s.station a).read ≠ none) : offerRead a badge s = s :=
  if_pos (by simpa only [Option.isSome_iff_ne_none] using h)

theorem offerRead_taken (hb : badge ≠ 0) (h : (s.station a).read = none) : offerRead a badge s = grantNext (reading a badge s) :=
  if_neg (by simp [hb, h])

/-- R53: with no effect held a read that waits is granted its turn. -/
theorem grantNext_read {rd : Read} {rest : List Read} (hs : s.supply = .normal) (hb : ¬ Busy s) (hq : s.readQueue = rd :: rest) :
    grantNext s = { s with turn := some ⟨.decision rd false, s.clock⟩, readQueue := rest } := by
  obtain ⟨ht, hh⟩ := (not_busy_iff s).mp hb
  simp [grantNext, hs, ht, hh, hq]

/-- R120: a read offered changes its station's read, the read queue and the turn. -/
theorem offerRead_changes (a : LoopAddr) (badge : Nat) {s : State} (hs : s.supply = .normal) : ∃ rd q turn,
    offerRead a badge s = { s.setStation a { s.station a with read := rd } with readQueue := q, turn := turn } := by
  by_cases h : badge = 0 ∨ (s.station a).read ≠ none
  · rw [offerRead_still h]
    exact ⟨(s.station a).read, s.readQueue, s.turn, (setStation_station a s).symm⟩
  · obtain ⟨hb, hr⟩ := not_or.mp h
    rw [offerRead_taken hb (not_not.mp hr)]
    by_cases hbusy : Busy (reading a badge s)
    · exact ⟨_, _, s.turn, grantNext_busy _ hbusy⟩
    · obtain ⟨rd, rest, hq⟩ := List.exists_cons_of_ne_nil (l := (reading a badge s).readQueue) (by simp [reading])
      exact ⟨_, _, _, grantNext_read (s := reading a badge s) hs hbusy hq⟩

end

end Sys2Proof.Machine
end

section
/-! A good reply step by step (O44): each step done, what follows is the reply of the part with that step done. -/

namespace Sys2Proof.Machine

open Claims

section
variable {a : LoopAddr} {c : Carried} {rep : StatusReport} {s t : State}

/-! ### The reply as one of the part with a step done -/

/-- R117: the POLL out to an address carries nothing. -/
def emptyPoll (a : LoopAddr) (s : State) : State := { s with polling := some ⟨a, .nothing⟩ }

/-- R127: no opening comes to pend or ceases to. -/
def SamePending (s t : State) : Prop := ∀ r, (t.door r).openingPending = (s.door r).openingPending

theorem openingPends_same (hk : Kept s t) (hp : SamePending s t) (a : LoopAddr) : openingPends t a = openingPends s a := by
  unfold openingPends
  rw [roomOf_kept hk]
  exact congrArg (Option.any · (roomOf s a)) (funext hp)

theorem openingPends_of_room {r : RoomNo} (h : roomOf s a = some r) : openingPends s a = (s.door r).openingPending := by
  simp only [openingPends, h, Option.any_some]

theorem nothingToJudge_same (hk : Kept s t) (hp : SamePending s t) (h : NothingToJudge s a) : NothingToJudge t a :=
  h.imp_right fun hr r hroom => (hp r).trans (hr r ((roomOf_kept hk a).symm.trans hroom))

/-- R119: what a good reply takes before the door's report. -/
def heardOut (a : LoopAddr) (c : Carried) (isSet : Bool) (s : State) : State :=
  tamperReport a isSet (comeOnline a (deliver a c s))

theorem heardOut_step (a : LoopAddr) (c : Carried) (isSet : Bool) (s : State) : ReplyStep a s (heardOut a c isSet s) :=
  ((deliver_step ..).trans (comeOnline_step ..)).trans (tamperReport_step ..)

theorem takeReply_eq (a : LoopAddr) (c : Carried) (rep : StatusReport) (s : State) : takeReply a c rep s =
    offerRead a rep.read (doorReport a rep.door (openingPends s a) (heardOut a c rep.tamper (judgeAt a rep.door s))) := rfl

/-- R119: where the steps before the door's report come to the same, the replies do. -/
theorem reply_from (hs : s.supply = .normal) (hp : s.polling = some ⟨a, c⟩) (ha : rep.address = a) (hn : NothingToJudge s a)
    (hk : Kept s t) (hpend : SamePending s t) (h : heardOut a c rep.tamper (unpolled s) = heardOut a .nothing rep.tamper (unpolled t)) :
    exec (.statusReply rep) s = exec (.statusReply rep) (emptyPoll a t) := by
  have hpends : openingPends (unpolled t) a = openingPends (unpolled s) a := openingPends_same (s := s) (t := t) hk hpend a
  rw [exec_statusReply hs hp ha, exec_statusReply (s := emptyPoll a t) (hk.supply.trans hs) rfl ha]
  show _ = Host.Outcome.next (takeReply a .nothing rep (unpolled t))
  rw [takeReply_eq, takeReply_eq, judgeAt_nothing (s := unpolled s) hn,
    judgeAt_nothing (s := unpolled t) (nothingToJudge_same (s := s) (t := t) hk hpend hn), hpends, h]

/-- R118: a command delivered. -/
theorem reply_delivered (hs : s.supply = .normal) (hp : s.polling = some ⟨a, c⟩) (ha : rep.address = a) (hn : NothingToJudge s a)
    (hk : Kept s t) (hpend : SamePending s t) (h : deliver a c (unpolled s) = unpolled t) :
    exec (.statusReply rep) s = exec (.statusReply rep) (emptyPoll a t) :=
  reply_from hs hp ha hn hk hpend (congrArg (fun u => tamperReport a rep.tamper (comeOnline a u)) h)

/-- R122: the station ONLINE, which it stays. -/
theorem reply_online (hs : s.supply = .normal) (hp : s.polling = some ⟨a, .nothing⟩) (ha : rep.address = a)
    (hn : NothingToJudge s a) (hk : Kept s t) (hpend : SamePending s t) (h : comeOnline a (unpolled s) = unpolled t)
    (hheld : heldIn s a ≠ .conflict) : exec (.statusReply rep) s = exec (.statusReply rep) (emptyPoll a t) := by
  have hstill : comeOnline a (unpolled t) = unpolled t := by
    obtain ⟨d, m, rd, hx⟩ := (comeOnline_station a (unpolled s)).station
    rw [h] at hx
    have hmap : mapOutcome t a ≠ .conflict := by
      rw [mapOutcome_kept hk]
      exact fun hc => hheld (if_pos hc)
    have hnow : (t.station a).state = .online ∧ (t.station a).misses = 0 := by
      rw [show t.station a = _ from hx, Station.heardIn, if_neg (show heldIn (unpolled s) a ≠ _ from hheld)]
      exact ⟨rfl, rfl⟩
    exact comeOnline_still (.inr ⟨(if_neg hmap).trans hnow.1, hnow.2⟩)
  refine reply_from hs hp ha hn hk hpend ?_
  show tamperReport a rep.tamper (comeOnline a (unpolled s)) = tamperReport a rep.tamper (comeOnline a (unpolled t))
  rw [h, hstill]

/-- R123: the tamper input taken, which is then as reported. -/
theorem reply_tamper (hs : s.supply = .normal) (hp : s.polling = some ⟨a, .nothing⟩) (ha : rep.address = a)
    (hn : NothingToJudge s a) (h : heldIn s a = .conflict ∨ heldIn s a = .online ∧ (s.station a).misses = 0) :
    exec (.statusReply rep) s = exec (.statusReply rep) (emptyPoll a (tamperReport a rep.tamper s)) := by
  have hu := tamperReport_uncarried a rep.tamper s
  have hk : Kept s (tamperReport a rep.tamper s) := tamperReport_kept ..
  have hx := tamperReport_station a rep.tamper s
  have hunpolled : tamperReport a rep.tamper (unpolled s) = unpolled (tamperReport a rep.tamper s) := by
    simp only [tamperReport, apply_ite unpolled, ← post_unpolled]
    rfl
  have hheld : heldIn (tamperReport a rep.tamper s) a = heldIn s a := by
    unfold heldIn
    rw [mapOutcome_kept hk, hx]
  refine reply_from hs hp ha hn hk (fun r => hu.loosened.pending r) ?_
  show tamperReport a rep.tamper (comeOnline a (unpolled s)) =
    tamperReport a rep.tamper (comeOnline a (unpolled (tamperReport a rep.tamper s)))
  have hstill : heldIn (tamperReport a rep.tamper s) a = .conflict ∨
      heldIn (tamperReport a rep.tamper s) a = .online ∧ ((tamperReport a rep.tamper s).station a).misses = 0 := by
    rwa [hheld, hx]
  rw [comeOnline_still (s := unpolled s) h, comeOnline_still (s := unpolled (tamperReport a rep.tamper s)) hstill, hunpolled,
    tamperReport_same (s := unpolled (tamperReport a rep.tamper s)) (congrArg Station.tamper hx).symm]

/-! ### The steps -/

theorem deliver_decision_release_unpolled {seconds minutes : Nat} {who : List PoolIx} {r : RoomNo}
    (hread : ∀ q, (s.station a).read = some q → q.phase = .answered)
    (hx : (s.station a).decision = some (.release seconds minutes who)) (hr : roomOf s a = some r) :
    deliver a .decision (unpolled s) =
      unpolled (deliverRelease r seconds who (s.setStation a { s.station a with decision := none, read := none })) := by
  rw [deliver_decision_release (s := unpolled s) hx hr, clearRead_delivered (s := unpolled s) hread, ← deliverRelease_unpolled]
  rfl

theorem deliver_decision_other_unpolled {d : DecisionCommand} (hread : ∀ q, (s.station a).read = some q → q.phase = .answered)
    (hx : (s.station a).decision = some d) (h : roomOf s a = none ∨ ∀ seconds minutes who, d ≠ .release seconds minutes who) :
    deliver a .decision (unpolled s) = unpolled (s.setStation a { s.station a with decision := none, read := none }) := by
  rw [deliver_decision_other (s := unpolled s) hx h, clearRead_delivered (s := unpolled s) hread]
  rfl

theorem alarm_unpolled (a : LoopAddr) (s t : State) : alarm a (unpolled s) (unpolled t) = unpolled (alarm a s t) := by
  unfold alarm
  rw [queueMode_unpolled, apply_ite unpolled]
  rfl

theorem announcedOnline_unpolled (a : LoopAddr) (s t : State) :
    announcedOnline a (unpolled s) (unpolled t) = unpolled (announcedOnline a s t) := by
  unfold announcedOnline
  rw [post_unpolled, writeJournal_unpolled]
  rfl

theorem alarm_kept (a : LoopAddr) (s t : State) : Kept t (alarm a s t) := (alarm_step a s t).kept

/-- R121, R132: the alarm moves no door. -/
theorem alarm_samePending (a : LoopAddr) (s t : State) : SamePending t (alarm a s t) := fun r => by
  unfold alarm
  split
  · obtain ⟨c, hc⟩ := queueMode_alarmed a t
    rw [hc.door]
    rfl
  · rfl

/-- R125, R127: a reply that judged takes its push-bar report for clear. -/
theorem reply_judged {r : RoomNo} {u : State} (hs : s.supply = .normal) (hp : s.polling = some ⟨a, c⟩) (ha : rep.address = a)
    (he : isEntry a = false) (hr : roomOf s a = some r) (ho : (s.door r).openingPending = true) (hk : Kept s u)
    (hpoll : u.polling = s.polling) (hdone : (u.door r).openingPending = false)
    (hjudge : judgeOpening r rep.door (unpolled s) = unpolled u) :
    exec (.statusReply rep) s = exec (.statusReply { rep with door := false }) u := by
  have hroom : roomOf u a = some r := (roomOf_kept hk a).trans hr
  have hnothing : NothingToJudge (unpolled u) a := .inr fun q hq => by
    obtain rfl : r = q := Option.some.inj (hroom.symm.trans hq)
    exact hdone
  have hbefore : openingPends (unpolled s) a = true := (openingPends_of_room (s := unpolled s) hr).trans ho
  have hafter : openingPends (unpolled u) a = false := (openingPends_of_room (s := unpolled u) hroom).trans hdone
  have hheard : roomOf (heardOut a c rep.tamper (unpolled u)) a = some r :=
    (roomOf_kept (heardOut_step a c rep.tamper (unpolled u)).kept a).trans hroom
  have hdoor : doorReport a rep.door true (heardOut a c rep.tamper (unpolled u)) =
      doorReport a false false (heardOut a c rep.tamper (unpolled u)) := by
    simp only [doorReport, hheard, he, pushBarReport, Bool.not_true, Bool.and_false, Bool.false_and, Bool.false_eq_true, if_false]
  rw [exec_statusReply hs hp ha, exec_statusReply (rep := { rep with door := false }) (hk.supply.trans hs) (hpoll.trans hp) ha,
    takeReply_eq, takeReply_eq, judgeAt_exit he (s := unpolled s) hr, hjudge, judgeAt_nothing hnothing, hbefore, hafter, hdoor]

/-- R127: an opening judged, by the push-bar report or the mark or by neither. -/
theorem reply_judgedAs {r : RoomNo} (hs : s.supply = .normal) (hp : s.polling = some ⟨a, c⟩) (ha : rep.address = a)
    (he : isEntry a = false) (hr : roomOf s a = some r) (ho : (s.door r).openingPending = true) :
    exec (.statusReply rep) s = exec (.statusReply { rep with door := false })
      (if rep.door = true ∨ (s.door r).pushMark = true then judgedEgress r s else judgedForced r s) := by
  by_cases h : rep.door = true ∨ (s.door r).pushMark = true
  · rw [if_pos h]
    refine reply_judged hs hp ha he hr ho (judgedEgress_step a r s).kept (judged_polling .unreadEgress _ _ r (s.setDoor r _))
      (by rw [judgedEgress_door]) ?_
    rw [judgeOpening_used (s := unpolled s) ho h]
    exact congrArg (fun t => State.setRoomState t r { s.roomState r with uncertain := true })
      (judged_unpolled .unreadEgress _ _ r (s.setDoor r _))
  · rw [if_neg h]
    obtain ⟨hdoor, hmark⟩ := not_or.mp h
    refine reply_judged hs hp ha he hr ho (judgedForced_step a r s).kept (judged_polling .doorForced _ _ r (s.setDoor r _))
      (by rw [judgedForced_door]) ?_
    rw [Bool.eq_false_iff.mpr hdoor, judgeOpening_forced (s := unpolled s) ho (Bool.eq_false_iff.mpr hmark)]
    exact judged_unpolled .doorForced _ _ r (s.setDoor r _)

end

end Sys2Proof.Machine
end

section
/-! What a good reply leaves (O44): the station, its commands and its read, and the frame. -/

namespace Sys2Proof.Machine

open Claims

section
variable {a : LoopAddr} {c : Carried} {isSet : Bool} {s t u : State}

/-! ### The station heard out -/

theorem Station.delivered_state (c : Carried) (rd : Option PendingRead) (x : Station) :
    (x.delivered c rd).state = x.state ∧ (x.delivered c rd).misses = x.misses := by cases c <;> exact ⟨rfl, rfl⟩

theorem Station.delivered_mode (c : Carried) (rd : Option PendingRead) (x : Station) :
    (x.delivered c rd).mode = if c = .mode then none else x.mode := by cases c <;> rfl

theorem Station.delivered_other (hc : c ≠ .decision) (rd : Option PendingRead) (x : Station) :
    (x.delivered c rd).decision = x.decision ∧ (x.delivered c rd).read = x.read := by
  cases c with
  | nothing | mode => exact ⟨rfl, rfl⟩
  | decision => exact absurd rfl hc

theorem Station.heardIn_eq (st : StationState) (x : Station) : x.heardIn st = { x with
    state := if st = .conflict then x.state else .online, misses := if st = .conflict then x.misses else 0 } := by
  unfold Station.heardIn
  split <;> rfl

theorem heldIn_same (hk : Kept s t) (hx : (t.station a).state = (s.station a).state) : heldIn t a = heldIn s a := by
  unfold heldIn
  rw [mapOutcome_kept hk, hx]

theorem deliver_heldIn (a : LoopAddr) (c : Carried) (s : State) : heldIn (deliver a c s) a = heldIn s a := by
  obtain ⟨rd, -, hx⟩ := deliver_station a c s
  exact heldIn_same (deliver_kept ..) (by rw [hx]; exact (Station.delivered_state ..).1)

/-- R119: with no evacuation in progress the station is what the delivery, the state and the tamper input make of it. -/
theorem heardOut_station_quiet (a : LoopAddr) (c : Carried) (isSet : Bool) (he : s.evacuating = false) :
    ∃ rd, (heardOut a c isSet s).station a =
      { ((s.station a).delivered c rd).heardIn (heldIn s a) with tamper := isSet } := by
  obtain ⟨rd, -, hx⟩ := deliver_station a c s
  have honline := (comeOnline_quiet a ((deliver_kept a c s).evacuating.trans he)).station a
  rw [Station.without_nil, State.setStation_station_same, hx, deliver_heldIn] at honline
  exact ⟨rd, by rw [heardOut, tamperReport_station, honline]⟩

/-- R125, R126: with nobody made to cease being carried, nobody comes to be on a running release. -/
theorem Uncarried.onRelease_within {w : List PoolIx} (h : Uncarried w s t) {r : RoomNo} {k : PoolIx} (hk : k ∈ onRelease t r) :
    k ∈ onRelease s r := by
  rcases List.mem_append.mp hk with hk | hk
  · rw [h.door] at hk
    exact List.mem_append_left _ (List.mem_filter.mp hk).1
  · exact List.mem_append_right _ ((h.held.tiesAt r k).mp hk).1

/-- R119: with no evacuation and no decision command delivered, the read queue, the turn and the running releases stay. -/
theorem heardOut_loop_quiet (a : LoopAddr) (isSet : Bool) (hc : c ≠ .decision) (he : s.evacuating = false) :
    (heardOut a c isSet s).readQueue = s.readQueue ∧ (heardOut a c isSet s).turn = s.turn ∧
      ∀ r, ∀ k ∈ onRelease (heardOut a c isSet s) r, k ∈ onRelease s r := by
  have hdeliver : ∃ x, deliver a c s = s.setStation a x := by
    cases c with
    | nothing => exact ⟨_, (setStation_station a s).symm⟩
    | mode => exact ⟨_, rfl⟩
    | decision => exact absurd rfl hc
  obtain ⟨x, hx⟩ := hdeliver
  have honline := comeOnline_quiet a ((deliver_kept a c s).evacuating.trans he)
  have htamper := tamperReport_uncarried a isSet (comeOnline a (deliver a c s))
  rw [heardOut]
  refine ⟨htamper.readQueue.trans (honline.readQueue.trans (by rw [hx]; rfl)), htamper.turn.trans (honline.turn.trans (by rw [hx]; rfl)),
    fun r k hk => ?_⟩
  have hback := honline.onRelease_within (htamper.onRelease_within hk)
  rwa [hx] at hback

/-- R118 to R123: what a good reply has made of its station before the read it offers is taken; the presences named ceased to be
carried. -/
structure Replied (a : LoopAddr) (c : Carried) (isSet : Bool) (who : List PoolIx) (s t : State) : Prop where
  state : (t.station a).state = if heldIn s a = .conflict then (s.station a).state else .online
  misses : (t.station a).misses = if heldIn s a = .conflict then (s.station a).misses else 0
  tamper : (t.station a).tamper = isSet
  delivered : c = .decision → (t.station a).decision = none
  decision : c ≠ .decision → s.evacuating = false → (t.station a).decision = (s.station a).decision.map (·.without who)
  mode : s.evacuating = false → (t.station a).mode = if c = .mode then none else (s.station a).mode
  alarmed : s.evacuating = true → heldIn s a = .unknown ∨ heldIn s a = .offline → (t.station a).mode = some .evacRelease
  cleared : ∀ q, (s.station a).read = some q → q.phase = .answered → c = .decision → (s.station a).decision ≠ none →
    (t.station a).read = none
  quiet : c = .nothing → s.evacuating = false →
    (t.station a).read = (s.station a).read ∧ t.readQueue = s.readQueue ∧ t.turn = s.turn

theorem heardOut_replied (a : LoopAddr) (c : Carried) (isSet : Bool) (s : State) : Replied a c isSet [] s (heardOut a c isSet s) := by
  obtain ⟨rd, -, hdelivered⟩ := deliver_station a c s
  obtain ⟨⟨d, m, q, hx⟩, hnone, halarmed⟩ := comeOnline_station a (deliver a c s)
  rw [deliver_heldIn] at hx halarmed
  rw [hdelivered] at hx hnone
  rw [Station.heardIn_eq, (Station.delivered_state ..).1, (Station.delivered_state ..).2] at hx
  have hstep : ReplyStep a (deliver a c s) (heardOut a c isSet s) := (comeOnline_step ..).trans (tamperReport_step ..)
  have hstation : (heardOut a c isSet s).station a = { (comeOnline a (deliver a c s)).station a with tamper := isSet } :=
    tamperReport_station ..
  have hquiet := heardOut_station_quiet a c isSet (s := s)
  refine ⟨by rw [hstation, hx], by rw [hstation, hx], by rw [hstation], fun hc => ?_, fun hc he => ?_, fun he => ?_, fun he hst => ?_,
    fun p hp hphase hc hd => ?_, fun hc he => ?_⟩
  · rw [hstation]
    exact hnone (by rw [hc]; rfl)
  · obtain ⟨rd, hq⟩ := hquiet he
    rw [hq, Station.heardIn_eq]
    exact (Station.delivered_other hc ..).1.trans (congrArg Station.decision (Station.without_nil (s.station a))).symm
  · obtain ⟨rd, hq⟩ := hquiet he
    rw [hq, Station.heardIn_eq]
    exact Station.delivered_mode ..
  · rw [hstation]
    exact halarmed ((deliver_kept a c s).evacuating.trans he) hst
  · refine hstep.read_none ?_
    subst hc
    obtain ⟨command, hcommand⟩ := Option.ne_none_iff_exists'.mp hd
    obtain ⟨w, hw, -⟩ := deliver_decision_cases hcommand
    rw [hw.station, clearRead_delivered fun z hz => Option.some.inj (hz.symm.trans hp) ▸ hphase, State.setStation_station_same]
    rfl
  · obtain ⟨rd, hq⟩ := hquiet he
    have hc' : c ≠ .decision := by rw [hc]; decide
    obtain ⟨hqueue, hturn, -⟩ := heardOut_loop_quiet a isSet hc' he
    exact ⟨by rw [hq, Station.heardIn_eq]; exact (Station.delivered_other hc' ..).2, hqueue, hturn⟩

/-! ### The judgement and the door's report around it -/

/-- R127: a door's report after the rest. -/
theorem Replied.then_door {w : List PoolIx} (h : Replied a c isSet [] s t) (hx : u.station a = (t.station a).without w)
    (hq : u.readQueue = t.readQueue) (ht : u.turn = t.turn) : Replied a c isSet w s u where
  state := by rw [hx]; exact h.state
  misses := by rw [hx]; exact h.misses
  tamper := by rw [hx]; exact h.tamper
  delivered := fun hc => by rw [hx, Station.without_of_none (h.delivered hc)]; exact h.delivered hc
  decision := fun hc he => by
    rw [hx]
    exact congrArg (Option.map (·.without w)) ((h.decision hc he).trans (congrArg Station.decision (Station.without_nil _)))
  mode := fun he => by rw [hx]; exact h.mode he
  alarmed := fun he hst => by rw [hx]; exact h.alarmed he hst
  cleared := fun q hr hphase hc hd => by rw [hx]; exact h.cleared q hr hphase hc hd
  quiet := fun hc he => by
    obtain ⟨hr, hqueue, hturn⟩ := h.quiet hc he
    exact ⟨by rw [hx]; exact hr, hq.trans hqueue, ht.trans hturn⟩

/-- R127: the judgement before the rest. -/
theorem Replied.after_judgement {w : List PoolIx} (h : Replied a c isSet w t u) (hk : Kept s t) (hx : t.station a = s.station a)
    (hq : t.readQueue = s.readQueue) (ht : t.turn = s.turn) : Replied a c isSet w s u := by
  have hheld : heldIn t a = heldIn s a := heldIn_same hk (by rw [hx])
  have he := hk.evacuating
  obtain ⟨h1, h2, h3, h4, h5, h6, h7, h8, h9⟩ := h
  rw [hheld, hx] at h1 h2
  rw [he, hx] at h5 h6
  rw [he, hheld] at h7
  rw [hx] at h8
  rw [he, hx, hq, ht] at h9
  exact ⟨h1, h2, h3, h4, h5, h6, h7, h8, h9⟩

theorem judgeAt_turns (a : LoopAddr) (bar : Bool) (s : State) :
    (judgeAt a bar s).readQueue = s.readQueue ∧ (judgeAt a bar s).turn = s.turn := by
  have hjudged : ∀ e b j r (t : State), (judged e b j r t).readQueue = t.readQueue ∧ (judged e b j r t).turn = t.turn :=
    fun e b j r t => by
      rw [judged_frame]
      exact ⟨rfl, rfl⟩
  unfold judgeAt
  split
  · next r _ =>
    split
    · exact ⟨rfl, rfl⟩
    · rcases judgeOpening_cases r bar s with h | h | h <;> rw [h]
      · exact ⟨rfl, rfl⟩
      · exact hjudged .unreadEgress _ _ r _
      · exact hjudged .doorForced _ _ r _
  · exact ⟨rfl, rfl⟩

/-- R119: a good reply but for its read. -/
def beforeRead (a : LoopAddr) (c : Carried) (rep : StatusReport) (s : State) : State :=
  doorReport a rep.door (openingPends s a) (heardOut a c rep.tamper (judgeAt a rep.door s))

theorem beforeRead_step (a : LoopAddr) (c : Carried) (rep : StatusReport) (s : State) : ReplyStep a s (beforeRead a c rep s) :=
  ((judgeAt_step ..).trans (heardOut_step ..)).trans (doorReport_step ..)

theorem beforeRead_replied (a : LoopAddr) (c : Carried) (rep : StatusReport) (s : State) :
    ∃ w, Replied a c rep.tamper w s (beforeRead a c rep s) ∧
    (c ≠ .decision → s.evacuating = false → ∀ k ∈ w, ∃ r, roomOf s a = some r ∧ k ∈ onRelease s r) := by
  obtain ⟨hqueue, hturn⟩ := judgeAt_turns a rep.door s
  have hk := judgeAt_kept a rep.door s
  have hjudged := (heardOut_replied a c rep.tamper (judgeAt a rep.door s)).after_judgement hk (judgeAt_station ..) hqueue hturn
  obtain ⟨w, hw, hx⟩ := doorReport_station a rep.door (openingPends s a) (heardOut a c rep.tamper (judgeAt a rep.door s))
  obtain ⟨hq, ht⟩ := doorReport_turns a rep.door (openingPends s a) (heardOut a c rep.tamper (judgeAt a rep.door s))
  refine ⟨w, hjudged.then_door hx hq ht, fun hc he i hi => ?_⟩
  obtain ⟨r, hr, hon⟩ := hw i hi
  have hroom := roomOf_kept (hk.trans (heardOut_step a c rep.tamper (judgeAt a rep.door s)).kept) a
  obtain ⟨-, -, hwithin⟩ := heardOut_loop_quiet a rep.tamper hc (hk.evacuating.trans he)
  refine ⟨r, hroom.symm.trans hr, ?_⟩
  rw [← judgeAt_onRelease a rep.door s r]
  exact hwithin r i hon

end

end Sys2Proof.Machine
end

section
/-! The read taken, and good replies as a whole (O44). -/

namespace Sys2Proof.Machine

open Claims

section
variable {a : LoopAddr} {c : Carried} {badge : Nat} {rep : StatusReport} {s t : State}

/-- R123: a tamper input that was clear and is set now is posted. -/
theorem tamperReport_eq (a : LoopAddr) (isSet : Bool) (s : State) : tamperReport a isSet s =
    if isSet = true ∧ (s.station a).tamper = false then
      post { kind := .tamper, station := some a, room := roomOf s a } (s.setStation a { s.station a with tamper := isSet })
    else s.setStation a { s.station a with tamper := isSet } := by
  simp only [tamperReport, Bool.and_eq_true, Bool.not_eq_true']

/-- R53, R120: a read offered is pending, and queued or in its turn. -/
theorem offerRead_offered (hs : s.supply = .normal) (hb : badge ≠ 0) (hr : (s.station a).read = none) :
    ((offerRead a badge s).station a).read = some ⟨badge, .deciding⟩ ∧
      (s.turn ≠ none → (offerRead a badge s).readQueue = s.readQueue ++ [⟨a, badge⟩]) ∧
      (¬ Busy s → s.readQueue = [] → (offerRead a badge s).turn = some ⟨.decision ⟨a, badge⟩ false, s.clock⟩ ∧
        (offerRead a badge s).readQueue = []) := by
  have hread : ((reading a badge s).station a).read = some ⟨badge, .deciding⟩ :=
    congrArg Station.read (State.setStation_station_same s a { s.station a with read := some ⟨badge, .deciding⟩ })
  rw [offerRead_taken hb hr]
  by_cases hbusy : Busy s
  · rw [grantNext_busy (reading a badge s) hbusy]
    exact ⟨hread, fun _ => rfl, fun hfree => absurd hbusy hfree⟩
  · have hgranted : ∀ rd rest, s.readQueue ++ [⟨a, badge⟩] = rd :: rest → grantNext (reading a badge s) = _ :=
      fun rd rest hq => grantNext_read (s := reading a badge s) hs hbusy hq
    obtain ⟨ht, -⟩ := (not_busy_iff s).mp hbusy
    obtain ⟨rd, rest, hq⟩ := List.exists_cons_of_ne_nil (l := s.readQueue ++ [(⟨a, badge⟩ : Read)]) (by simp)
    rw [hgranted rd rest hq]
    refine ⟨hread, fun hno => absurd ht hno, fun _ hnil => ?_⟩
    rw [hnil, List.nil_append] at hq
    cases hq
    exact ⟨rfl, rfl⟩

/-- R119: the frame of a good reply. -/
theorem Kept.eq_reply (h : Kept s t) (hserved : t.lastServed = s.lastServed) (hhold : ∀ r, t.hold r = s.hold r)
    (hpoll : t.polling = none) : t = { s with
      polling := none, stations := t.stations, doors := t.doors, pool := t.pool, occupancy := t.occupancy
      heldEffects := t.heldEffects, readQueue := t.readQueue, turn := t.turn, notices := t.notices, journal := t.journal
      nextSequence := t.nextSequence, counters := t.counters, ports := t.ports, freeUsed := t.freeUsed } := by
  have hall := h.eq_with
  rwa [hserved, hpoll, show t.holds = s.holds from table_ext hhold] at hall

theorem takeReply_eq_with (a : LoopAddr) (c : Carried) (rep : StatusReport) (hs : s.supply = .normal) :
    (takeReply a c rep (unpolled s)).polling = none ∧
      ∀ t, takeReply a c rep (unpolled s) = t → t = { s with
        polling := none, stations := t.stations, doors := t.doors, pool := t.pool, occupancy := t.occupancy
        heldEffects := t.heldEffects, readQueue := t.readQueue, turn := t.turn, notices := t.notices, journal := t.journal
        nextSequence := t.nextSequence, counters := t.counters, ports := t.ports, freeUsed := t.freeUsed } := by
  have hstep := beforeRead_step a c rep (unpolled s)
  obtain ⟨rd, q, turn, htaken⟩ := offerRead_changes a rep.read (hstep.kept.supply.trans hs)
  have hkept : Kept s (takeReply a c rep (unpolled s)) := { takeReply_kept a c rep (unpolled s) with }
  have hpoll : (takeReply a c rep (unpolled s)).polling = none :=
    (congrArg State.polling htaken).trans (hstep.polling rfl)
  refine ⟨hpoll, fun t ht => ?_⟩
  subst ht
  exact hkept.eq_reply ((congrArg State.lastServed htaken).trans hstep.lastServed)
    (fun r => (congrArg (State.hold · r) htaken).trans (hstep.hold r)) hpoll

/-- R119: but for its read, the station a reply leaves is the one that was heard out. -/
theorem takeReply_station (a : LoopAddr) (c : Carried) (rep : StatusReport) (hs : s.supply = .normal) :
    ∃ rd, (takeReply a c rep (unpolled s)).station a = { (beforeRead a c rep (unpolled s)).station a with read := rd } := by
  obtain ⟨rd, q, turn, htaken⟩ := offerRead_changes a rep.read ((beforeRead_step a c rep (unpolled s)).kept.supply.trans hs)
  exact ⟨rd, (congrArg (State.station · a) htaken).trans (State.setStation_station_same ..)⟩

/-- R120: a read offered where none pends, with the turn and the read queue of before the reply. -/
theorem takeReply_offered (hs : s.supply = .normal) (hr : (s.station a).read = none) (hb : rep.read ≠ 0) :
    ((takeReply a c rep (unpolled s)).station a).read = some ⟨rep.read, .deciding⟩ ∧
      (s.turn ≠ none → (takeReply a c rep (unpolled s)).readQueue = s.readQueue ++ [⟨a, rep.read⟩]) ∧
      (s.turn = none → s.heldEffects = [] → s.readQueue = [] →
        (takeReply a c rep (unpolled s)).turn = some ⟨.decision ⟨a, rep.read⟩ false, s.clock⟩ ∧
          (takeReply a c rep (unpolled s)).readQueue = []) := by
  have hstep := beforeRead_step a c rep (unpolled s)
  obtain ⟨hqueue, hturn⟩ := hstep.unread hr
  obtain ⟨hread, hwaits, hgranted⟩ := offerRead_offered (hstep.kept.supply.trans hs) hb (hstep.read_none hr)
  refine ⟨hread, fun ht => ?_, fun ht hh hq => ?_⟩
  · exact (hwaits (hturn ▸ ht)).trans (congrArg (· ++ [_]) hqueue)
  · obtain ⟨hnow, hnil⟩ := hgranted (hstep.busy.not.mpr ((not_busy_iff s).mpr ⟨ht, hh⟩)) (hqueue.trans hq)
    exact ⟨hnow.trans (by rw [hstep.kept.clock]; rfl), hnil⟩

/-- R119: a reply that offers no read, or one to a station whose read pends, ends with the door's report. -/
theorem takeReply_unread (h : rep.read = 0 ∨ ((beforeRead a c rep (unpolled s)).station a).read ≠ none) :
    takeReply a c rep (unpolled s) = beforeRead a c rep (unpolled s) := offerRead_still h

end

end Sys2Proof.Machine

open Sys2Proof Sys2Proof.Machine Sys2Proof.Claims in
/-- Settles O44: a reply of another address is a miss; the judgement, the delivery, the station's state and its tamper input are each the
reply of the part with that step done; and what is left is read off the station heard out, the door's report and the read. -/
theorem goodRepliesAreTaken : Obligations.GoodRepliesAreTaken := by
  refine fun a c rep s hs hp => ⟨fun hne => ?other, fun ha => ⟨fun r he hr ho => reply_judgedAs hs hp ha he hr ho, ?mode, ?decision,
    ?nothing, ?left⟩⟩
  case other =>
    rw [exec_stationMiss hs hp]
    show execStatusReply rep s = _
    simp only [execStatusReply, hs, hp, if_neg hne, unpolled]
  case mode =>
    rintro hn rfl
    exact reply_delivered hs hp ha hn (setStation_kept ..) (fun _ => rfl) rfl
  case decision =>
    rintro hn rfl hread
    refine ⟨fun seconds minutes who r hx hr => ?_, fun hx h => ?_⟩
    · obtain ⟨⟨w, hw⟩, -⟩ := deliverRelease_loosened r seconds who
        (s.setStation a { s.station a with decision := none, read := none })
      exact reply_delivered hs hp ha hn ((setStation_kept ..).trans hw.kept) hw.pending (deliver_decision_release_unpolled hread hx hr)
    · obtain ⟨d, hd⟩ := Option.ne_none_iff_exists'.mp hx
      refine reply_delivered hs hp ha hn (setStation_kept ..) (fun _ => rfl) (deliver_decision_other_unpolled hread hd (h.imp_right ?_))
      exact fun hno seconds minutes who he => hno seconds minutes who (hd.trans (congrArg some he))
  case nothing =>
    rintro hn rfl
    have hannounced := announcedOnline_uncarried a s (heard a s)
    have hheard : Kept s (heard a s) := setStation_kept ..
    refine ⟨fun h => ?_, fun h => ?_, fun h => ?_,
      fun h => (reply_tamper hs hp ha hn h).trans (by rw [tamperReport_eq]; rfl)⟩
    · exact reply_online hs hp ha hn hheard (fun _ => rfl) (comeOnline_heard (s := unpolled s) h) (by rw [h]; decide)
    · exact reply_online hs hp ha hn (hheard.trans (alarm_kept ..)) (alarm_samePending a s (heard a s))
        ((comeOnline_unknown (s := unpolled s) h).trans (alarm_unpolled a s (heard a s))) (by rw [h]; decide)
    · refine reply_online hs hp ha hn ((hheard.trans hannounced.kept).trans (alarm_kept a s _))
        (fun r => (alarm_samePending a s _ r).trans (hannounced.loosened.pending r)) ?_ (by rw [h]; decide)
      have hposted := congrArg (alarm a (unpolled s)) (announcedOnline_unpolled a s (heard a s))
      exact (comeOnline_offline (s := unpolled s) h).trans (hposted.trans (alarm_unpolled ..))
  case left =>
    obtain ⟨hpoll, hframe⟩ := takeReply_eq_with a c rep hs
    obtain ⟨rd, hx⟩ := takeReply_station a c rep hs
    obtain ⟨w, hreplied, hw⟩ := beforeRead_replied a c rep (unpolled s)
    refine ⟨_, exec_statusReply hs hp ha, hpoll, ?_, fun hc => ?_, fun hc => ?_, ?_, fun hc => ?_, fun hc he => ⟨w, fun k hk => ?_, ?_⟩,
      fun he => ?_, fun he hst => ?_, fun hr hb => takeReply_offered hs hr hb, fun q hq hphase hc hd hb => ?_, fun hr hc he => ?_,
      hframe _ rfl⟩
    · rw [hx]; exact hreplied.state
    · rw [hx]; exact hreplied.misses.trans (if_pos hc)
    · rw [hx]; exact hreplied.misses.trans (if_neg hc)
    · rw [hx]; exact hreplied.tamper
    · rw [hx]; exact hreplied.delivered hc
    · obtain ⟨r, hr, hon⟩ := hw hc he k hk
      exact ⟨r, hr, by rw [running_eq]; exact hon⟩
    · rw [hx]; exact hreplied.decision hc he
    · rw [hx]; exact hreplied.mode he
    · rw [hx]; exact hreplied.alarmed he hst
    · rw [takeReply_unread (.inl hb)]
      exact hreplied.cleared q hq hphase hc hd
    · obtain ⟨hsame, hqueue, hturn⟩ := hreplied.quiet hc he
      rw [takeReply_unread (.inr (by rw [hsame]; exact hr))]
      exact ⟨hsame, hqueue, hturn⟩
end
